-- ==== Sys2Proof/Word.lean ====
section
/-! DEFINITION. Word.lean: the words the Y6's messages and its Time Base are made of, the numbered things
of 0.6.1 (channels, ports, consoles, moves, slots), and the fixed-size table that a block keeps its records in. -/

namespace Sys2Proof

/-- One byte of a message (R193). -/
abbrev Byte := BitVec 8

/-- A Time Base value: 32 bits, in milliseconds, and sums wrap (R192). -/
abbrev Time := BitVec 32

/-- A unit ID as it stands in a message: 16 bits (0.6.1). Units hold 0x0001 to 0xFFEF. -/
abbrev UnitId := BitVec 16

/-- CH0 to CH5 (0.6.1). -/
abbrev Chan := Fin 6

/-- BP0 to BP6 (0.6.1). -/
abbrev Port := Fin 7

/-- Consoles 0 to 3 on CL0 to CL3 (0.6.1). -/
abbrev Console := Fin 4

/-- The place of a move record: move number n stands at place n - 1 (R1). -/
abbrev MoveIx := Fin 24

/-- Enrolment slots 0 to 3 (R99). -/
abbrev SlotIx := Fin 4

/-- Alert patterns 0 to 15 (R162). -/
abbrev PatternIx := Fin 16

/-- A table of `n` records, one for each number below `n`. -/
abbrev Tab (n : Nat) (α : Type) := Vector α n

/-- The record of number `i`. -/
def Tab.get {n : Nat} {α : Type} (t : Tab n α) (i : Fin n) : α := t[i.val]

/-- The table with the record of number `i` replaced. -/
def Tab.put {n : Nat} {α : Type} (t : Tab n α) (i : Fin n) (x : α) : Tab n α := t.set i.val x

/-- The table with every record changed by `f`. -/
def Tab.each {n : Nat} {α β : Type} (f : α → β) (t : Tab n α) : Tab n β :=
  ⟨⟨t.toArray.toList.map f⟩, by simp⟩

/-- A table whose records are all `x`. -/
def Tab.fill (n : Nat) {α : Type} (x : α) : Tab n α := Vector.replicate n x

end Sys2Proof
end

