-- ==== Sys2Proof/Config.lean ====
section
/-! DEFINITION. Config.lean: what the part fixes for good (capacities and intervals that no command sets) and
the values the manual leaves open. The settings that consoles load (R190, R191) are state, in Machine/State.lean. -/

namespace Sys2Proof.Config

/-- Responses a link's queue holds (R177). -/
abbrev responseRoom : Nat := 8
/-- Notices a link's buffer holds (R182). -/
abbrev noticeRoom : Nat := 32
/-- Entries a request queue holds (R53). -/
abbrev queueRoom : Nat := 8
/-- Entries a lockout list holds (R41). -/
abbrev lockoutRoom : Nat := 8
/-- Alerts a pending alert list holds (R167). -/
abbrev alertRoom : Nat := 4
/-- Entries the quiet list holds (R110). -/
abbrev quietRoom : Nat := 8
/-- Frames a downlink queue holds (R122). -/
abbrev downlinkRoom : Nat := 16
/-- Unit records (R115). -/
abbrev registerRoom : Nat := 96
/-- Moves that may name one channel (R2). -/
abbrev movesPerChannel : Nat := 6
/-- Handsets in one move (R1). -/
abbrev handsetsPerMove : Nat := 4
/-- Bits in a judged test window (R156). -/
abbrev windowBits : Nat := 128

/-- The tone clock divided by two, in Hz (R163). -/
abbrev halfToneClock : Nat := 1228800

/-- DESIGN CHOICE (log entry 20): READ_PORT returns "the channel to which the port is assigned by configuration"
(R152), and in CONFIG two channels may be given one port (R190). Which of them is returned is left open:
the answer is the member of the claiming channels at this free index, taken modulo their number. -/
opaque sharedPortIndex : Fin 7 → Nat → Nat

end Sys2Proof.Config
end

