-- ==== Sys2Proof/Syntax.lean ====
section
/-! DEFINITION. Syntax.lean: the commands and events of spec/opcode_table.json, one constructor of `Instr` a row.
A console command's fields are the raw codes of its body (12.3, R193), because the owning rules judge codes
outside their range; a port or timer event names the port, channel, record or slot it concerns. -/

namespace Sys2Proof

/-- A talk party: a registered unit or a console (R28). -/
inductive Party where
  | unit (u : UnitId)
  | console (c : Console)
  deriving DecidableEq, Repr

/-- The fields of SET_CHANNEL that are present, in the order of R190's table. -/
structure ChannelFields where
  inUse : Option Byte := none
  port : Option Byte := none
  freq : Option (BitVec 16) := none
  ageStep : Option (BitVec 16) := none
  hangMs : Option (BitVec 16) := none
  routineLimit : Option Byte := none
  workLimit : Option Byte := none
  urgentLimit : Option Byte := none
  queueTimeout : Option (BitVec 32) := none
  deriving DecidableEq, Repr

/-- The fields of SET_GLOBAL that are present, in the order of R191's table. -/
structure GlobalFields where
  levels : Option Byte := none
  ageOut : Option Byte := none
  interval : Option (BitVec 16) := none
  faultLimit : Option Byte := none
  deriving DecidableEq, Repr

/-- One step of a LOAD_PATTERN body: frequency in Hz, duration in 10 ms units, level (12.3). -/
structure StepField where
  freq : BitVec 16
  duration : Byte
  level : Byte
  deriving DecidableEq, Repr

/-- The body of CREATE_MOVE (12.3). -/
structure MoveFields where
  channel : Byte
  loco : UnitId
  handsets : List UnitId
  controller : Option UnitId := none
  interval : Option (BitVec 16) := none
  faultLimit : Option Byte := none
  deriving DecidableEq, Repr

/-- A console command as its checked frame's body spells it (R178, 12.3). -/
inductive Command where
  | setChannel (ch : Byte) (f : ChannelFields)
  | setGlobal (f : GlobalFields)
  | loadPattern (pat rep : Byte) (steps : List StepField)
  | enterService
  | restart
  | createMove (f : MoveFields)
  | addMember (move : Byte) (unit : UnitId)
  | removeMember (move : Byte) (unit : UnitId)
  | setController (move : Byte) (unit : UnitId)
  | moveChannel (move ch : Byte)
  | releaseMove (move : Byte)
  | takeMove (move : Byte)
  | reinstate (move : Byte)
  | talkRequest (ch cls : Byte)
  | talkEnd (ch : Byte)
  | play (ch pat mode : Byte)
  | swapPort (ch : Byte)
  | isolatePort (port : Byte)
  | restorePort (port : Byte)
  | startTest (port mode : Byte) (dur : BitVec 16) (remote : Option (UnitId × BitVec 16))
  | stopTest (port : Byte)
  | insertError (port : Byte)
  | readMove (move : Byte)
  | readUnit (unit : UnitId)
  | listUnits (start : UnitId) (filter : Byte) (move : Option Byte)
  | readFloor (ch : Byte)
  | readPort (port : Byte)
  | readTest (port : Byte)
  | readConditions
  | readTime
  | subscribe (mask : Byte)
  deriving DecidableEq, Repr

/-- The operations and events of the part (spec/opcode_table.json): each is whole and indivisible. -/
inductive Instr where
  -- the part as a whole (R187, R192)
  | powerOn
  | resetAssert
  | resetRelease
  | timeBaseTick
  -- console links (R175, R178, R180)
  | consoleByte (link : Console) (b : Byte) (stopBit : Bool)
  | gapDeadline (link : Console)
  | unknownCommand (link : Console) (code : Byte)
  | transmitDone (link : Console)
  -- console commands, each the completion of its checked frame on a link (R178)
  | setChannel (link : Console) (ch : Byte) (f : ChannelFields)
  | setGlobal (link : Console) (f : GlobalFields)
  | loadPattern (link : Console) (pat rep : Byte) (steps : List StepField)
  | enterService (link : Console)
  | restart (link : Console)
  | createMove (link : Console) (f : MoveFields)
  | addMember (link : Console) (move : Byte) (unit : UnitId)
  | removeMember (link : Console) (move : Byte) (unit : UnitId)
  | setController (link : Console) (move : Byte) (unit : UnitId)
  | moveChannel (link : Console) (move ch : Byte)
  | releaseMove (link : Console) (move : Byte)
  | takeMove (link : Console) (move : Byte)
  | reinstate (link : Console) (move : Byte)
  | talkRequest (link : Console) (ch cls : Byte)
  | talkEnd (link : Console) (ch : Byte)
  | play (link : Console) (ch pat mode : Byte)
  | swapPort (link : Console) (ch : Byte)
  | isolatePort (link : Console) (port : Byte)
  | restorePort (link : Console) (port : Byte)
  | startTest (link : Console) (port mode : Byte) (dur : BitVec 16) (remote : Option (UnitId × BitVec 16))
  | stopTest (link : Console) (port : Byte)
  | insertError (link : Console) (port : Byte)
  | readMove (link : Console) (move : Byte)
  | readUnit (link : Console) (unit : UnitId)
  | listUnits (link : Console) (start : UnitId) (filter : Byte) (move : Option Byte)
  | readFloor (link : Console) (ch : Byte)
  | readPort (link : Console) (port : Byte)
  | readTest (link : Console) (port : Byte)
  | readConditions (link : Console)
  | readTime (link : Console)
  | subscribe (link : Console) (mask : Byte)
  -- port reports (R139, R36, R127, R144, R196)
  | healthReport (p : Port) (status : Byte)
  | carrierReport (p : Port) (present : Bool) (source : UnitId)
  | slotReady (p : Port)
  | tuned (p : Port)
  | undefinedPortMessage (p : Port) (bytes : List Byte)
  -- air frames, delivered by a port (R132 to R134, 12.6)
  | unknownAirFrame (p : Port) (bytes : List Byte)
  | talkReq (p : Port) (src : UnitId) (cls : Byte)
  | talkEndFrame (p : Port) (src : UnitId)
  | emergency (p : Port) (src : UnitId)
  | presence (p : Port) (src : UnitId) (move : Byte)
  | stopAck (p : Port) (src : UnitId) (move : Byte)
  | resume (p : Port) (src : UnitId) (move : Byte)
  | handoverOffer (p : Port) (src : UnitId) (move : Byte) (target : UnitId)
  | handoverTake (p : Port) (src : UnitId) (move : Byte)
  | joined (p : Port) (src : UnitId) (move ch : Byte)
  | capability (p : Port) (src : UnitId) (kind levels chans flags : Byte)
  | echoTestData (p : Port) (bytes : List Byte)
  -- the test generator (R154)
  | testBit (p : Port)
  -- expiries of the part's own timers
  | formingDeadline (m : MoveIx)
  | joinRepetition (m : MoveIx) (unit : UnitId)
  | addDeadline (m : MoveIx) (unit : UnitId)
  | reChannelDeadline (m : MoveIx)
  | releaseStopRepetition (m : MoveIx)
  | releaseDeadline (m : MoveIx)
  | windowDeadline (m : MoveIx)
  | cleanSpanEnd (m : MoveIx)
  | stopOrderRepetition (m : MoveIx)
  | stopConfirmMark (m : MoveIx)
  | minimumHoldMark (m : MoveIx)
  | offerCycleRepetition (m : MoveIx)
  | offerExpiry (m : MoveIx)
  | takeUpDeadline (ch : Chan)
  | silentCarrierDeadline (ch : Chan)
  | overtalkExpiry (ch : Chan)
  | warningMark (ch : Chan)
  | lockoutExpiry (ch : Chan) (party : Party)
  | hangExpiry (ch : Chan)
  | foreignDetection (ch : Chan)
  | quietDeadline (ch : Chan)
  | timeoutExpiry (ch : Chan) (party : Party)
  | healthSilence (p : Port)
  | restorationMark (p : Port)
  | tuneDeadline (p : Port)
  | testEndTime (p : Port)
  | offerRepetition (slot : SlotIx)
  | confirmSpacing (slot : SlotIx)
  | lapseTimer (slot : SlotIx)
  | stuckMark (slot : SlotIx)
  | failureTimer (slot : SlotIx)
  | quietListExpiry (unit : UnitId)
  | agingExpiry (unit : UnitId)
  | toneStepEnd (ch : Chan)
  deriving DecidableEq, Repr

end Sys2Proof
end

