-- ==== Sys2Proof/Machine/State.lean ====
section
/-! DEFINITION. Machine/State.lean: every piece of state the manual gives the Y6, as plain data, the value each
takes at power-on and at the RESET line, and the (empty) reasons to stop. -/

namespace Sys2Proof.Machine

/-! ## Names (0.6.2) -/

/-- The part states (R186). -/
inductive PartState where | config | service
  deriving DecidableEq, Repr

/-- Talk classes, lowest first (R29, R56). -/
inductive TalkClass where | routine | work | urgent | emergency
  deriving DecidableEq, Repr

/-- Unit kinds (R97). -/
inductive UnitKind where | handset | loco | locoRc
  deriving DecidableEq, Repr

/-- Signalling levels, lowest first (R102). -/
inductive Level where | l1 | l2 | l3
  deriving DecidableEq, Repr

/-- Move states (R1). -/
inductive MoveState where | forming | active | stopHeld | recovery | suspended | releasing
  deriving DecidableEq, Repr

/-- Supervision fault kinds (R72). -/
inductive FaultKind where | early | missed | crewStop
  deriving DecidableEq, Repr

/-- Why a pending handover was removed (R95). -/
inductive HandoverCause where | fault | targetRemoved | moved | controllerSet | releasing
  deriving DecidableEq, Repr

/-- Channel (floor) states (R25). -/
inductive FloorState where | off | idle | granted | hang | alert | transfer | closed
  deriving DecidableEq, Repr

/-- Reasons carried in DENY, REVOKE and ENROL_REJECT and in the talk notices (12.6). -/
inductive AirReason where
  | wrongChannel | lockedOut | queueFull | timeout
  | notTaken | silent | overtalk | preempted | alert
  | moved | released | unregistered
  | channelLost
  | bound | noLevel | registerFull
  deriving DecidableEq, Repr

/-- How an alert waits (R167). -/
inductive AlertMode where | preempt | nextFree
  deriving DecidableEq, Repr

/-- Who asked for an alert (R167). -/
inductive Requester where
  | supervision
  | console (c : Console)
  deriving DecidableEq, Repr

/-- What became of an alert request (R167). -/
inductive AlertFate where | admitted | collapsed | notAdmitted
  deriving DecidableEq, Repr

/-- How a generator plays (R165). -/
inductive PlayMode where | mix | seize
  deriving DecidableEq, Repr

/-- Port states (R137). -/
inductive PortState where | absent | standby | tuning | active | failed | isolated | test
  deriving DecidableEq, Repr

/-- Why a port is tuning (R137). -/
inductive TunePurpose where | start | transfer | swap
  deriving DecidableEq, Repr

/-- Health statuses (R137). -/
inductive Health where | ok | degraded | fault
  deriving DecidableEq, Repr

/-- Failure causes of a port (R137). -/
inductive FailCause where | silent | fault | tuneTimeout
  deriving DecidableEq, Repr

/-- Causes that PORT_STATE names (7.8). -/
inductive PortCause where
  | healthy | silent | fault | tuneTimeout | recovered | tune | tuned | service | swapped | restart
  | isolated | restored | testStart | testEnd
  deriving DecidableEq, Repr

/-- Causes that SWAP_FAILED names (R148). -/
inductive SwapCause where | tuneTimeout | fault | silent | isolated | portLost
  deriving DecidableEq, Repr

/-- Test modes (R153). -/
inductive TestMode where | loc | unit | remote
  deriving DecidableEq, Repr

/-- Test states (R153): SEARCH or SYNCED while running, DONE or ABORTED when finished. -/
inductive TestState where | search | synced | done | aborted
  deriving DecidableEq, Repr

/-- Abort reasons (R153). -/
inductive AbortReason where | portFailed | failover
  deriving DecidableEq, Repr

/-- Phases of an enrolment slot (R99). -/
inductive EnrolPhase where | listen | ackWait | confirm
  deriving DecidableEq, Repr

/-- Causes with which a slot is freed (R108). -/
inductive EnrolCause where | lapsed | timeout | noLevel | bound | registerFull | admitted
  deriving DecidableEq, Repr

/-- Notice categories (R183). -/
inductive Category where | floor | channel | port | enrolment | unit | test
  deriving DecidableEq, Repr

/-- The per-channel condition latches (R184). -/
inductive ChanLatch where | closedSeen | transferSeen | interference | downlinkOverflow | degraded
  deriving DecidableEq, Repr

/-- Causes of FRAME_REJECT (R176). -/
inductive RejectCause where | length | gap | crc | character
  deriving DecidableEq, Repr

/-- Causes of CONFIG_INVALID (R188). -/
inductive PlanCause where | noCallChannel | noPort | portShared | portFailed
  deriving DecidableEq, Repr

/-- Console refusal reasons (12.4). -/
inductive Reason where
  | unknownCommand | badFormat | wrongState | configInvalid | movesPresent | badLevelSet | badCategory
  | tableFull | channelUnusable | channelFull | memberCount | duplicateUnit | unitUnknown | unitBound
  | kindMismatch | channelUnsupported | controllerRequired | controllerNotMember | levelTooLow
  | controllerNotAllowed | moveUnknown | notOperator | useRelease | controllerInUse | lastHandset
  | notMember | notJoined | sameChannel
  | badClass | channelUnavailable | notClaimant | channelUnknown | patternUnknown | stepCount
  | patternInUse | patternEmpty | notGranted | toneBusy | alertListFull | badMode
  | portUnknown | notIsolated | swapInProgress | noSpare | portNotSpare | noTest | insertPending
  deriving DecidableEq, Repr

/-! ## Configuration (R190, R191) -/

/-- One channel's configuration (R190). -/
structure ChannelConfig where
  inUse : Bool
  port : Option Port
  freq : Nat
  ageStep : Nat
  hangMs : Nat
  routineLimit : Nat
  workLimit : Nat
  urgentLimit : Nat
  queueTimeout : Nat
  deriving DecidableEq, Repr

/-- The global configuration (R191). Bit n of the level set is level n + 1 (R193). -/
structure GlobalConfig where
  levels : BitVec 3
  ageOut : Nat
  interval : Nat
  faultLimit : Nat
  deriving DecidableEq, Repr

/-! ## The move table (R1, R2, R72) -/

/-- A member entry (R2). -/
structure Member where
  unit : UnitId
  joined : Bool
  sends : Nat
  roundStart : Time
  addDeadline : Option Time
  deriving DecidableEq, Repr

/-- A pending handover (R1, R92). -/
structure Handover where
  target : UnitId
  expiry : Time
  deriving DecidableEq, Repr

/-- A re-channel record (R1, R16). -/
structure Rechannel where
  channel : Chan
  deadline : Time
  deriving DecidableEq, Repr

/-- An occupied move record (R1), with its supervision fields (R72). The last two fields are the MODEL's own
(log entry 4): `repeats` counts the 200 ms or 2000 ms repetitions already taken in the present hold, release or
offer cycle, and `unconfirmedSent` says that the hold's STOP_UNCONFIRMED mark has been taken (R85: once a hold). -/
structure Move where
  state : MoveState
  channel : Chan
  console : Console
  loco : Member
  handsets : List Member
  controller : Option UnitId
  interval : Nat
  faultLimit : Nat
  windowStart : Option Time
  closedEnd : Option Time
  deadline : Option Time
  faultCount : Nat
  cleanStart : Option Time
  lastFault : Option FaultKind
  holdStart : Option Time
  stopAckSeen : Bool
  presenceNoted : Bool
  suspensionPending : Bool
  handover : Option Handover
  formingDeadline : Option Time
  rechannel : Option Rechannel
  releaseDeadline : Option Time
  repeats : Nat
  unconfirmedSent : Bool
  deriving DecidableEq, Repr

/-! ## The channel floors (R25, R27, R53, R167) -/

/-- A grant record (R27). `warned` is the MODEL's own (log entry 4): the warning mark has been taken. -/
structure Grant where
  holder : Party
  move : Option MoveIx
  cls : TalkClass
  time : Time
  takenUp : Bool
  takeUp : Option Time
  overtalk : Option Time
  warning : Option Time
  silent : Option Time
  warned : Bool
  deriving DecidableEq, Repr

/-- What a hang is reserved for (R25). -/
inductive Reservation where
  | move (m : MoveIx)
  | party (p : Party)
  deriving DecidableEq, Repr

/-- A hang (R25). -/
structure Hang where
  reservation : Reservation
  expiry : Time
  deriving DecidableEq, Repr

/-- A queue entry (R53); its arrival order is its place in the list. -/
structure Entry where
  party : Party
  move : Option MoveIx
  cls : TalkClass
  arrival : Time
  expiry : Time
  deriving DecidableEq, Repr

/-- A lockout entry (R41). -/
structure Lockout where
  party : Party
  expiry : Time
  deriving DecidableEq, Repr

/-- A pending alert (R167). -/
structure Alert where
  pattern : PatternIx
  mode : AlertMode
  tag : Option MoveIx
  requester : Requester
  admitted : Time
  playing : Bool
  deriving DecidableEq, Repr

/-- Carrier heard on a channel (R36); source 0x0000 is an unknown source. -/
structure Heard where
  source : UnitId
  time : Time
  deriving DecidableEq, Repr

/-- A floor record (R25). -/
structure Floor where
  state : FloorState
  held : Option FloorState
  grant : Option Grant
  gate : Option Party
  hang : Option Hang
  queue : List Entry
  lockouts : List Lockout
  alerts : List Alert
  heard : Option Heard
  foreignSince : Option Time
  episodeOpen : Bool
  quiet : Option Time
  deriving DecidableEq, Repr

/-! ## Downlink frames (R122, 12.6) -/

/-- The kind and contents of a downlink control frame (R123, 12.6). -/
inductive FrameBody where
  | stopOrder (m : MoveIx)
  | grant (ch : Chan) (cls : TalkClass)
  | queued (ch : Chan) (cls : TalkClass)
  | deny (ch : Chan) (r : AirReason)
  | revoke (ch : Chan) (r : AirReason)
  | joinOrder (m : MoveIx) (ch : Chan)
  | leaveOrder (m : MoveIx)
  | resumeOffer (m : MoveIx)
  | handoverOffered (m : MoveIx) (controller : UnitId)
  | controlAssigned (m : MoveIx) (controller : UnitId)
  | offer (level : Level) (chans : BitVec 6)
  | confirm (level : Level) (chans : BitVec 6) (seq : Nat)
  | enrolReject (r : AirReason)
  | echoOn (p : Port) (seq : Nat) (freq : Nat) (dur : Nat)
  | echoOff (p : Port) (seq : Nat)
  deriving DecidableEq, Repr

/-- A waiting downlink frame (R122); its placement order is its place in the list. -/
structure Frame where
  dest : UnitId
  body : FrameBody
  deriving DecidableEq, Repr

/-! ## Units and enrolment (R97, R99, R115) -/

/-- A unit record (R115). Bit n of the channel set is CHn (R193). -/
structure UnitRec where
  unit : UnitId
  kind : UnitKind
  level : Level
  chans : BitVec 6
  current : Chan
  binding : Option MoveIx
  admitted : Time
  lastHeard : Time
  unboundSince : Time
  deriving DecidableEq, Repr

/-- A capability word (R97). -/
structure Capability where
  unit : UnitId
  kind : UnitKind
  levels : BitVec 3
  chans : BitVec 6
  ack : Bool
  deriving DecidableEq, Repr

/-- A held enrolment slot (R99). `offers` is the MODEL's own (log entry 4): the OFFER repetitions already taken
in the present ACK_WAIT. -/
structure Slot where
  unit : UnitId
  word : Capability
  phase : EnrolPhase
  consistent : Nat
  acked : Nat
  slotStart : Time
  phaseStart : Time
  lastBurst : Time
  level : Option Level
  chans : Option (BitVec 6)
  stuck : Bool
  confirms : Nat
  offers : Nat
  deriving DecidableEq, Repr

/-- A quiet-list entry (R110). -/
structure Quiet where
  unit : UnitId
  expiry : Time
  deriving DecidableEq, Repr

/-! ## Ports and tests (R137, R151, R153) -/

/-- What a port's outputs are held at: high impedance while ISOLATED (R149), the repeat-gate setting in force and
the channel whose generator feeds the tone line (R151). -/
structure Pins where
  highZ : Bool
  gate : Option Party
  tone : Option Chan
  deriving DecidableEq, Repr

/-- A port record (R137) with the port's outputs. -/
structure PortRec where
  state : PortState
  channel : Option Chan
  purpose : Option TunePurpose
  tuneDeadline : Option Time
  lastHealth : Option Time
  status : Option Health
  okStart : Option Time
  lastCause : Option FailCause
  pins : Pins
  deriving DecidableEq, Repr

/-- A running or finished test record (R153), with the generator's and the checker's registers (bit i - 1 is
stage i, R154, R156) and the window under judgement (R156). -/
structure TestRec where
  mode : TestMode
  echoUnit : Option UnitId
  echoChannel : Option Chan
  freq : Option Nat
  seq : Nat
  duration : Nat
  state : TestState
  bits : Nat
  errors : Nat
  losses : Nat
  inserted : Nat
  insertPending : Bool
  start : Time
  endTime : Time
  firstSync : Option Time
  abort : Option AbortReason
  generator : BitVec 15
  checker : BitVec 15
  windowBits : Nat
  windowErrors : Nat
  deriving DecidableEq, Repr

/-- A message sent on a port link (12.5), or a test bit (R154). -/
inductive PortMsg where
  | air (f : Frame)
  | tune (freq : Nat)
  | gate (p : Option Party)
  | testLoop
  | testAir (freq : Nat)
  | testEnd
  | bit (b : Bool)
  deriving DecidableEq, Repr

/-! ## Tones (R162, R165) -/

/-- A step of a defined pattern (R162): Hz, 10 ms units, level, divider. -/
structure ToneStep where
  freq : Nat
  duration : Nat
  level : Nat
  divider : Nat
  deriving DecidableEq, Repr

/-- A defined pattern (R162). -/
structure Pattern where
  repeatCount : Nat
  steps : List ToneStep
  deriving DecidableEq, Repr

/-- What a generator puts out during a step (R163, R165): the divider of the tone clock and the level; level 0 is a silent
gap. -/
structure Tone where
  divider : Nat
  level : Nat
  deriving DecidableEq, Repr

/-- A generator in MIX or SEIZE (R165); `step` counts from 0, and `output` is the divider and level of the present step. In
SEIZE the entry it plays is the one whose playing flag is set (R167, R169). -/
structure Play where
  mode : PlayMode
  pattern : PatternIx
  start : Time
  rep : Nat
  step : Nat
  stepEnd : Time
  output : Tone
  deriving DecidableEq, Repr

/-! ## Console links (R174, R179, R181) -/

/-- What a notice reports (12.4), with the contents its owning rule names. -/
inductive NoticeBody where
  | moveActive (m : MoveIx) (dropped : List UnitId)
  | moveFailed (m : MoveIx) (missing : List UnitId)
  | memberNotJoined (m : MoveIx) (u : UnitId)
  | moveChannelIncomplete (m : MoveIx) (ch : Chan) (missing : List UnitId)
  | moveReleased (m : MoveIx)
  | releaseUnconfirmed (m : MoveIx) (loco : UnitId)
  | moveTaken (m : MoveIx) (c : Console)
  | supervisionFault (m : MoveIx) (k : FaultKind) (count : Nat) (pending : Bool) (fate : AlertFate)
  | stopUnconfirmed (m : MoveIx) (loco : UnitId)
  | stopUndeliverable (m : MoveIx) (ch : Chan)
  | moveRecovery (m : MoveIx) (noted : Bool)
  | moveSuspended (m : MoveIx) (count : Nat) (k : Option FaultKind) (noted : Bool)
  | moveResumed (m : MoveIx) (controller : UnitId)
  | controllerChanged (m : MoveIx) (former new : UnitId)
  | handoverLapsed (m : MoveIx) (target : UnitId)
  | handoverCancelled (m : MoveIx) (target : UnitId) (cause : HandoverCause)
  | talkQueued (ch : Chan) (cls : TalkClass)
  | talkGranted (ch : Chan) (cls : TalkClass)
  | talkDenied (ch : Chan) (cls : TalkClass) (r : AirReason)
  | talkRevoked (ch : Chan) (cls : TalkClass) (r : AirReason)
  | alertDiscarded (ch : Chan) (pat : PatternIx)
  | floorCleared (ch : Chan) (holder : Option Party) (entries : List Entry)
  | interference (ch : Chan) (source : UnitId)
  | channelTransfer (ch : Chan) (lost tuning : Option Port)
  | channelRestored (ch : Chan) (p : Port)
  | channelClosed (ch : Chan)
  | swapDone (ch : Chan) (former new : Port)
  | swapFailed (ch : Chan) (p : Port) (cause : SwapCause)
  | portState (p : Port) (former new : PortState) (cause : PortCause)
  | portHealth (p : Port) (status : Health)
  | enrolStuck (slot : SlotIx) (u : UnitId) (level : Option Level) (acked : Nat)
  | enrolFailed (u : UnitId) (cause : EnrolCause) (phase : EnrolPhase)
  | unitAdmitted (u : UnitId) (kind : UnitKind) (level : Level) (chans : BitVec 6) (replaced : Bool)
  | unitEvicted (u : UnitId) (lastHeard : Time) (admitted : UnitId)
  | unitGone (u : UnitId) (lastHeard : Time)
  | testResult (p : Port) (t : TestRec)
  deriving DecidableEq, Repr

/-- A notice in a buffer: number, Time Base value of its event, contents (R181). -/
structure Notice where
  number : BitVec 8
  time : Time
  body : NoticeBody
  deriving DecidableEq, Repr

/-- The five latches of one channel (R184). -/
structure ChanLatches where
  closedSeen : Bool
  transferSeen : Bool
  interference : Bool
  downlinkOverflow : Bool
  degraded : Bool
  deriving DecidableEq, Repr

/-- A link's latches (R184). -/
structure Latches where
  chans : Tab 6 ChanLatches
  noticeOverflow : Bool
  enrolStuckSeen : Bool
  deriving DecidableEq, Repr

/-- One listed unit (R120). -/
structure Listed where
  unit : UnitId
  kind : UnitKind
  level : Level
  binding : Option MoveIx
  current : Chan
  deriving DecidableEq, Repr

/-- The result fields of an ACCEPTED response, by the owning rule (R179). -/
inductive Result where
  | none
  | move (m : MoveIx)
  | port (p : Port)
  | sequence (n : Nat)
  | alert (fate : AlertFate)
  | channel (c : ChannelConfig)
  | globals (g : GlobalConfig)
  | tones (steps : List (Nat × Nat))
  | categories (subs : BitVec 6)
  | moveRecord (m : MoveIx) (r : Move)
  | unitRecord (r : Option (UnitRec × Option Time)) (slot : Option (SlotIx × Slot)) (quiet : Option Time)
  | unitList (us : List Listed) (more : Bool) (occupied bound : Nat)
  | floorRecord (f : Floor) (ranks : List Nat)
  | portRecord (r : PortRec) (assigned : Option Chan) (due : Option Time)
  | testRecord (r : TestRec)
  | conditions (l : Latches) (waiting : Nat) (next : BitVec 8)
  | clock (t : Time) (part : PartState)
  deriving DecidableEq, Repr

/-- The outcome a response carries (R179). -/
inductive Answer where
  | accepted (clamped : Bool) (r : Result)
  | refused (reason : Reason) (detail : BitVec 16)
  | frameReject (cause : RejectCause)
  deriving DecidableEq, Repr

/-- A waiting response: the message type of the command it answers (none for a FRAME_REJECT) and its outcome. -/
structure Response where
  code : Option Byte
  answer : Answer
  deriving DecidableEq, Repr

/-- A frame in reception (R174, R175): the bytes after the sync, the declared length, the gap deadline. -/
structure Reception where
  bytes : List Byte
  declared : Option Byte
  gap : Time
  deriving DecidableEq, Repr

/-- A busy transmitter (R180, R195): the frame being sent and the further frames of the same message. -/
structure Sending where
  frame : List Byte
  rest : List (List Byte)
  deriving DecidableEq, Repr

/-- A console link (R174); `framer` is none in HUNT, `tx` is none when idle. Bit n of the subscription set is the
nth category of R183, from 0 (12.3). -/
structure Link where
  framer : Option Reception
  responses : List Response
  notices : List Notice
  nextNumber : BitVec 8
  tx : Option Sending
  latches : Latches
  subs : BitVec 6
  deriving DecidableEq, Repr

/-! ## The state -/

/-- The Y6 (0.4), with two fields of the MODEL's own: `sent`, every message sent on a port link since reset, oldest
first (log entry 3), and `pending`, the commands that wait to be taken. -/
structure State where
  time : Time
  part : PartState
  resetLine : Bool
  channels : Tab 6 ChannelConfig
  globals : GlobalConfig
  moves : Tab 24 (Option Move)
  floors : Tab 6 Floor
  downlink : Tab 6 (List Frame)
  units : List UnitRec
  slots : Tab 4 (Option Slot)
  quiet : List Quiet
  ports : Tab 7 PortRec
  tests : Tab 7 (Option TestRec)
  sequences : Tab 7 Nat
  patterns : Tab 16 (Option Pattern)
  generators : Tab 6 (Option Play)
  links : Tab 4 Link
  sent : List (Port × PortMsg)
  pending : List Instr
  deriving DecidableEq, Repr

/-- Why a step could stop the part: there is no such reason. Every command and event of the table has an effect or
is ignored, discarded or refused as its rule says, and the part goes on (R132, R175, R178, R196). Safe: nothing is
raised. -/
inductive Fault where
  deriving DecidableEq, Repr

/-- Why a step could have no meaning. -/
inductive Refusal where
  /-- Raised by `exec` for a row whose meaning is not written yet; no row is in that state. Safe. -/
  | notModelled (mnemonic : String)
  deriving DecidableEq, Repr

/-! ## Values after power-on and after the RESET line (R187) -/

/-- R187 and R190: the default configuration of a channel. -/
def ChannelConfig.reset (ch : Chan) : ChannelConfig where
  inUse := ch.val < 2
  port := if ch.val = 0 then some 0 else if ch.val = 1 then some 1 else none
  freq := 200 + 10 * ch.val
  ageStep := 2000
  hangMs := 2500
  routineLimit := 30
  workLimit := 60
  urgentLimit := 120
  queueTimeout := 60000

/-- R187: the default global configuration. -/
def GlobalConfig.reset : GlobalConfig where
  levels := 0b111#3
  ageOut := 20
  interval := 2000
  faultLimit := 3

/-- R25: a floor record in OFF. -/
def Floor.reset : Floor where
  state := .off
  held := none
  grant := none
  gate := none
  hang := none
  queue := []
  lockouts := []
  alerts := []
  heard := none
  foreignSince := none
  episodeOpen := false
  quiet := none

/-- Outputs at a closed repeat gate and a silent tone line (R187). -/
def Pins.closed : Pins := ⟨false, none, none⟩

/-- R137: an ABSENT port with every other field absent. -/
def PortRec.reset : PortRec where
  state := .absent
  channel := none
  purpose := none
  tuneDeadline := none
  lastHealth := none
  status := none
  okStart := none
  lastCause := none
  pins := Pins.closed

/-- R184: all five latches of a channel clear. -/
def ChanLatches.clear : ChanLatches := ⟨false, false, false, false, false⟩

/-- R174: all latches of a link clear. -/
def Latches.clear : Latches := ⟨Tab.fill 6 ChanLatches.clear, false, false⟩

/-- R174: a link after power-on. -/
def Link.reset : Link where
  framer := none
  responses := []
  notices := []
  nextNumber := 0
  tx := none
  latches := Latches.clear
  subs := 0b111111#6

/-- R162: the built-in STOP pattern. -/
def Pattern.stop : Pattern := ⟨5, [⟨1800, 20, 12, 3413⟩, ⟨1800, 10, 0, 3413⟩]⟩
/-- R162: the built-in EMERGENCY pattern. -/
def Pattern.emergency : Pattern := ⟨3, [⟨1200, 30, 10, 3072⟩, ⟨1800, 30, 10, 3413⟩]⟩
/-- R162: the built-in OVERTALK pattern. -/
def Pattern.overtalk : Pattern := ⟨2, [⟨3000, 10, 6, 3686⟩]⟩
/-- R162: the built-in CALL pattern. -/
def Pattern.call : Pattern := ⟨2, [⟨1200, 40, 12, 3072⟩, ⟨1200, 20, 0, 3072⟩]⟩

/-- The number of the STOP pattern (R162). -/
def stopPattern : PatternIx := 0
/-- The number of the EMERGENCY pattern (R162). -/
def emergencyPattern : PatternIx := 1
/-- The number of the OVERTALK pattern (R162). -/
def overtalkPattern : PatternIx := 2

/-- R162: patterns 0 to 3 hold the built-in contents, 4 to 15 are empty. -/
def Pattern.table : Tab 16 (Option Pattern) :=
  ((((Tab.fill 16 none).put 0 (some Pattern.stop)).put 1 (some Pattern.emergency)).put 2
    (some Pattern.overtalk)).put 3 (some Pattern.call)

/-- The six channels' default configuration, in order. -/
def ChannelConfig.table : Tab 6 ChannelConfig :=
  ⟨⟨[ChannelConfig.reset 0, ChannelConfig.reset 1, ChannelConfig.reset 2, ChannelConfig.reset 3,
    ChannelConfig.reset 4, ChannelConfig.reset 5]⟩, rfl⟩

/-- The part right after power-on, and after the RESET line is released (R187): CONFIG, Time Base 0, the default
configuration, every record at its initial value, no command waiting. -/
def State.reset : State where
  time := 0
  part := .config
  resetLine := false
  channels := ChannelConfig.table
  globals := GlobalConfig.reset
  moves := Tab.fill 24 none
  floors := Tab.fill 6 Floor.reset
  downlink := Tab.fill 6 []
  units := []
  slots := Tab.fill 4 none
  quiet := []
  ports := Tab.fill 7 PortRec.reset
  tests := Tab.fill 7 none
  sequences := Tab.fill 7 0
  patterns := Pattern.table
  generators := Tab.fill 6 none
  links := Tab.fill 4 Link.reset
  sent := []
  pending := []

end Sys2Proof.Machine
end

