-- ==== Sys2Proof/Machine/Operands.lean ====
section
/-! DEFINITION. Machine/Operands.lean: reading the fields of a command's body (R193, R195, 12.3) and turning byte
codes into the things they name; clamping of parameters (0.6.4, R5, R190). -/

namespace Sys2Proof.Machine

/-! ## Byte codes (R193) -/

/-- Channel byte: 0 to 5. -/
def chanOf (b : Byte) : Option Chan := if h : b.toNat < 6 then some ⟨b.toNat, h⟩ else none

/-- Port byte: 0 to 6. -/
def portOf (b : Byte) : Option Port := if h : b.toNat < 7 then some ⟨b.toNat, h⟩ else none

/-- Move byte: 1 to 24. -/
def moveOf (b : Byte) : Option MoveIx :=
  if h : 1 ≤ b.toNat ∧ b.toNat ≤ 24 then some ⟨b.toNat - 1, by omega⟩ else none

/-- Pattern byte: 0 to 15. -/
def patternOf (b : Byte) : Option PatternIx := if h : b.toNat < 16 then some ⟨b.toNat, h⟩ else none

/-- Talk class byte: ROUTINE 0, WORK 1, URGENT 2, EMERGENCY 3. -/
def classOf (b : Byte) : Option TalkClass :=
  match b.toNat with
  | 0 => some .routine | 1 => some .work | 2 => some .urgent | 3 => some .emergency | _ => none

/-- Unit kind byte: HANDSET 0, LOCO 1, LOCO_RC 2. -/
def kindOf (b : Byte) : Option UnitKind :=
  match b.toNat with
  | 0 => some .handset | 1 => some .loco | 2 => some .locoRc | _ => none

/-- Health status byte: OK 0, DEGRADED 1, FAULT 2 (12.5). -/
def healthOf (b : Byte) : Option Health :=
  match b.toNat with
  | 0 => some .ok | 1 => some .degraded | 2 => some .fault | _ => none

/-- Test mode byte: LOCAL 0, UNIT 1, REMOTE 2 (12.3). -/
def testModeOf (b : Byte) : Option TestMode :=
  match b.toNat with
  | 0 => some .loc | 1 => some .unit | 2 => some .remote | _ => none

/-- The level set of a command or a capability word: bits 0 to 2 (R193, R196). -/
def levelSetOf (b : Byte) : BitVec 3 := b.setWidth 3

/-- The channel set of a capability word: bits 0 to 5 (R193, R196). -/
def chanSetOf (b : Byte) : BitVec 6 := b.setWidth 6

/-! ## Clamping (0.6.4) -/

/-- A value clamped to a range, with whether it lay outside. -/
def clamp (lo hi n : Nat) : Nat × Bool :=
  if n < lo then (lo, true) else if hi < n then (hi, true) else (n, false)

/-- R5, R190: clamped, then rounded down to a multiple of `step`; the rounding alone sets no flag. -/
def clampStep (lo hi step n : Nat) : Nat × Bool := ((clamp lo hi n).1 / step * step, (clamp lo hi n).2)

/-- The value of a field that may be absent: the old one, or the one given, clamped and rounded. -/
def clampField (lo hi step old : Nat) : Option Nat → Nat × Bool
  | none => (old, false)
  | some n => clampStep lo hi step n

/-! ## Reading a body (R195) -/

/-- A reader takes a value from the front of a body, or finds too few bytes or a presence byte above 1. -/
abbrev Rd (α : Type) := List Byte → Option (α × List Byte)

/-- Read nothing. -/
def Rd.pure {α : Type} (x : α) : Rd α := fun bs => some (x, bs)
/-- Read one thing and then the next. -/
def Rd.andThen {α β : Type} (r : Rd α) (f : α → Rd β) : Rd β := fun bs =>
  match r bs with
  | none => none
  | some (x, rest) => f x rest
/-- Apply a function to what was read. -/
def Rd.map {α β : Type} (f : α → β) (r : Rd α) : Rd β := r.andThen (fun x => Rd.pure (f x))

/-- One byte. -/
def rd8 : Rd Byte
  | [] => none
  | b :: bs => some (b, bs)
/-- Two bytes, high byte first (R193). -/
def rd16 : Rd (BitVec 16)
  | a :: b :: bs => some (a ++ b, bs)
  | _ => none
/-- Four bytes, high byte first (R193). -/
def rd32 : Rd (BitVec 32)
  | a :: b :: c :: d :: bs => some (a ++ b ++ (c ++ d), bs)
  | _ => none

/-- An optional field: a presence byte 0 or 1, then the field's bytes when it is 1 (R193, R195). -/
def rdOpt {α : Type} (r : Rd α) : Rd (Option α) := rd8.andThen (fun b =>
  if b = 0 then Rd.pure none else if b = 1 then r.map some else fun _ => none)
/-- A field that a mask marks as present (12.3). -/
def rdIf {α : Type} (present : Bool) (r : Rd α) : Rd (Option α) := if present then r.map some else Rd.pure none
/-- `n` items. -/
def rdMany {α : Type} (r : Rd α) : Nat → Rd (List α)
  | 0 => Rd.pure []
  | n + 1 => r.andThen (fun x => (rdMany r n).map (fun xs => x :: xs))
/-- A list: a count byte, then the items (R193). -/
def rdList {α : Type} (r : Rd α) : Rd (List α) := rd8.andThen (fun n => rdMany r n.toNat)

/-- The body fits when the reader takes all of it (R195). -/
def whole {α : Type} (r : Rd α) (body : List Byte) : Option α :=
  match r body with
  | some (x, []) => some x
  | _ => none

/-- The body of SET_CHANNEL: channel, mask, the present fields. Bit 0 of the mask marks the first field of R190's table
(DEDUCED, log entry 31); a bit above bit 8 marks no field (log entry 19). -/
def rdSetChannel : Rd Command := rd8.andThen fun ch => rd16.andThen fun m =>
  if 512 ≤ m.toNat then fun _ => none else
  (rdIf (m.getLsbD 0) rd8).andThen fun inUse => (rdIf (m.getLsbD 1) rd8).andThen fun port =>
  (rdIf (m.getLsbD 2) rd16).andThen fun freq => (rdIf (m.getLsbD 3) rd16).andThen fun ageStep =>
  (rdIf (m.getLsbD 4) rd16).andThen fun hangMs => (rdIf (m.getLsbD 5) rd8).andThen fun routineLimit =>
  (rdIf (m.getLsbD 6) rd8).andThen fun workLimit => (rdIf (m.getLsbD 7) rd8).andThen fun urgentLimit =>
  (rdIf (m.getLsbD 8) rd32).map fun queueTimeout =>
    .setChannel ch { inUse, port, freq, ageStep, hangMs, routineLimit, workLimit, urgentLimit, queueTimeout }

/-- The body of SET_GLOBAL: mask, the present fields. Bit 0 of the mask marks the first field of R191's table (DEDUCED, log
entry 31); a bit above bit 3 marks no field (log entry 19). -/
def rdSetGlobal : Rd Command := rd8.andThen fun m =>
  if 16 ≤ m.toNat then fun _ => none else
  (rdIf (m.getLsbD 0) rd8).andThen fun levels => (rdIf (m.getLsbD 1) rd8).andThen fun ageOut =>
  (rdIf (m.getLsbD 2) rd16).andThen fun interval => (rdIf (m.getLsbD 3) rd8).map fun faultLimit =>
    .setGlobal { levels, ageOut, interval, faultLimit }

/-- One step of a LOAD_PATTERN body. -/
def rdStep : Rd StepField := rd16.andThen fun freq => rd8.andThen fun duration => rd8.map fun level =>
  { freq, duration, level }

/-- The body of LOAD_PATTERN. -/
def rdLoadPattern : Rd Command := rd8.andThen fun pat => rd8.andThen fun rep => (rdList rdStep).map fun steps =>
  .loadPattern pat rep steps

/-- The body of CREATE_MOVE. -/
def rdCreateMove : Rd Command := rd8.andThen fun channel => rd16.andThen fun loco =>
  (rdList rd16).andThen fun handsets => (rdOpt rd16).andThen fun controller => (rdOpt rd16).andThen fun interval =>
  (rdOpt rd8).map fun faultLimit => .createMove { channel, loco, handsets, controller, interval, faultLimit }

/-- The body of START_TEST: the echo unit and frequency follow in REMOTE only (R195). -/
def rdStartTest : Rd Command := rd8.andThen fun port => rd8.andThen fun mode => rd16.andThen fun dur =>
  (rdIf (mode = 2) (rd16.andThen fun u => rd16.map fun f => (u, f))).map fun remote => .startTest port mode dur remote

/-- The body of LIST_UNITS: the move follows with filter 2 only; a filter above 2 is refused by the command. -/
def rdListUnits : Rd Command := rd16.andThen fun start => rd8.andThen fun filter =>
  (rdIf (filter = 2) rd8).map fun move => .listUnits start filter move

/-- A move byte and a unit ID. -/
def rdMoveUnit (f : Byte → UnitId → Command) : Rd Command := rd8.andThen fun m => rd16.map fun u => f m u
/-- Two bytes of two fields. -/
def rdTwo (f : Byte → Byte → Command) : Rd Command := rd8.andThen fun a => rd8.map fun b => f a b

/-- 12.3: the body reader of a command code; none where the code is no command (R178 check 1). -/
def bodyReader (code : Byte) : Option (Rd Command) :=
  match code.toNat with
  | 0x01 => some rdSetChannel
  | 0x02 => some rdSetGlobal
  | 0x03 => some rdLoadPattern
  | 0x08 => some (Rd.pure .enterService)
  | 0x09 => some (Rd.pure .restart)
  | 0x10 => some rdCreateMove
  | 0x11 => some (rdMoveUnit .addMember)
  | 0x12 => some (rdMoveUnit .removeMember)
  | 0x13 => some (rdMoveUnit .setController)
  | 0x14 => some (rdTwo .moveChannel)
  | 0x15 => some (rd8.map .releaseMove)
  | 0x16 => some (rd8.map .takeMove)
  | 0x17 => some (rd8.map .reinstate)
  | 0x20 => some (rdTwo .talkRequest)
  | 0x21 => some (rd8.map .talkEnd)
  | 0x22 => some (rd8.andThen fun ch => rdTwo (.play ch))
  | 0x28 => some (rd8.map .swapPort)
  | 0x29 => some (rd8.map .isolatePort)
  | 0x2A => some (rd8.map .restorePort)
  | 0x2B => some rdStartTest
  | 0x2C => some (rd8.map .stopTest)
  | 0x2D => some (rd8.map .insertError)
  | 0x30 => some (rd8.map .readMove)
  | 0x31 => some (rd16.map .readUnit)
  | 0x32 => some rdListUnits
  | 0x33 => some (rd8.map .readFloor)
  | 0x34 => some (rd8.map .readPort)
  | 0x35 => some (rd8.map .readTest)
  | 0x36 => some (Rd.pure .readConditions)
  | 0x37 => some (Rd.pure .readTime)
  | 0x38 => some (rd8.map .subscribe)
  | _ => none

/-- What the Console Interface finds in a checked frame (R178): no such command, a body that does not fit, or a
command. -/
inductive Parsed where
  | unknown
  | unfit
  | fits (c : Command)
  deriving DecidableEq, Repr

/-- R178 checks 1 and 2. -/
def parseCommand (code : Byte) (body : List Byte) : Parsed :=
  match bodyReader code with
  | none => .unknown
  | some r =>
    match whole r body with
    | none => .unfit
    | some c => .fits c

end Sys2Proof.Machine
end

