-- ==== Sys2Proof/WellFormed.lean ====
section
/-! DEFINITION. WellFormed.lean: the events that the part's lines can bring (R194 to R196, 12.3, 12.5, 12.6). The machine
gives every term of `Instr` a meaning, well-formed or not. -/

namespace Sys2Proof

/-- 12.6: the length of an uplink frame fits its kind; false for a kind outside the table. -/
def airFits (kind : Byte) (len : Nat) : Bool :=
  match kind.toNat with
  | 0x01 | 0x04 | 0x05 | 0x06 | 0x08 => len == 4
  | 0x02 | 0x03 => len == 3
  | 0x07 => len == 6
  | 0x09 => len == 5
  | 0x0A => len == 7
  | 0x0B => decide (2 ≤ len) && decide (len ≤ 33)
  | _ => false

/-- 12.6, R133: the bytes are a frame of an uplink kind with the kind's length. -/
def airFrameFits : List Byte → Bool
  | [] => false
  | kind :: rest => airFits kind (rest.length + 1)

/-- 12.5, R196: the bytes are a port message of a defined type with the type's length; AIR carries any frame. -/
def portMessageFits : List Byte → Bool
  | [] => false
  | type :: rest =>
    match type.toNat with
    | 0x01 => true
    | 0x02 => rest.length == 1
    | 0x03 => rest.length == 3
    | 0x04 | 0x05 => rest.length == 0
    | _ => false

/-- R194, R195: a command's body fits one frame, whose length byte is at most 120. -/
def bodyFits (n : Nat) : Bool := decide (n ≤ 119)

/-- The length of an optional field's encoding (R193). -/
def optLength {α : Type} (n : Nat) (x : Option α) : Nat := if x.isSome then n + 1 else 1

/-- The events that can arrive: a command whose body a frame can carry and whose optional fields agree with its codes
(R195); an unknown command with an unknown code (R178); a message or a frame that its table does not have (R196). -/
def Instr.wellFormed : Instr → Bool
  | .unknownCommand _ code => (Machine.bodyReader code).isNone
  | .loadPattern _ _ _ steps => bodyFits (3 + 4 * steps.length)
  | .createMove _ f =>
      bodyFits (4 + 2 * f.handsets.length + optLength 2 f.controller + optLength 2 f.interval + optLength 1 f.faultLimit)
  | .startTest _ _ mode _ remote => remote.isSome == (mode == 2)
  | .listUnits _ _ filter move => move.isSome == (filter == 2)
  | .undefinedPortMessage _ bytes => !portMessageFits bytes
  | .unknownAirFrame _ bytes => !airFrameFits bytes
  | .echoTestData _ bytes => decide (1 ≤ bytes.length) && decide (bytes.length ≤ 32)
  | .powerOn | .resetAssert | .resetRelease | .timeBaseTick
  | .consoleByte .. | .gapDeadline .. | .transmitDone ..
  | .setChannel .. | .setGlobal .. | .enterService .. | .restart ..
  | .addMember .. | .removeMember .. | .setController .. | .moveChannel .. | .releaseMove .. | .takeMove ..
  | .reinstate .. | .talkRequest .. | .talkEnd .. | .play .. | .swapPort .. | .isolatePort .. | .restorePort ..
  | .stopTest .. | .insertError .. | .readMove .. | .readUnit .. | .readFloor .. | .readPort .. | .readTest ..
  | .readConditions .. | .readTime .. | .subscribe ..
  | .healthReport .. | .carrierReport .. | .slotReady .. | .tuned ..
  | .talkReq .. | .talkEndFrame .. | .emergency .. | .presence .. | .stopAck .. | .resume .. | .handoverOffer ..
  | .handoverTake .. | .joined .. | .capability .. | .testBit ..
  | .formingDeadline .. | .joinRepetition .. | .addDeadline .. | .reChannelDeadline .. | .releaseStopRepetition ..
  | .releaseDeadline .. | .windowDeadline .. | .cleanSpanEnd .. | .stopOrderRepetition .. | .stopConfirmMark ..
  | .minimumHoldMark .. | .offerCycleRepetition .. | .offerExpiry .. | .takeUpDeadline .. | .silentCarrierDeadline ..
  | .overtalkExpiry .. | .warningMark .. | .lockoutExpiry .. | .hangExpiry .. | .foreignDetection ..
  | .quietDeadline .. | .timeoutExpiry .. | .healthSilence .. | .restorationMark .. | .tuneDeadline ..
  | .testEndTime .. | .offerRepetition .. | .confirmSpacing .. | .lapseTimer .. | .stuckMark .. | .failureTimer ..
  | .quietListExpiry .. | .agingExpiry .. | .toneStepEnd .. => true

end Sys2Proof
end

