-- ==== Sys2Proof/Decode.lean ====
section
/-! DEFINITION. Decode.lean: the row that the bytes of a port message spell (12.5, 12.6), and the host's decoding of table
words: no row of the table has bits. -/

namespace Sys2Proof

/-- No row of spec/opcode_table.json gives bits, so no word spells a command. -/
def decodeTableWord (_nbits _w : Nat) : Option Instr := none

/-- R133, 12.6: the row of an air frame that a port delivers. -/
def airEvent (p : Port) (bytes : List Byte) : Instr :=
  match bytes with
  | [0x01#8, a, b, cls] => .talkReq p (a ++ b) cls
  | [0x02#8, a, b] => .talkEndFrame p (a ++ b)
  | [0x03#8, a, b] => .emergency p (a ++ b)
  | [0x04#8, a, b, m] => .presence p (a ++ b) m
  | [0x05#8, a, b, m] => .stopAck p (a ++ b) m
  | [0x06#8, a, b, m] => .resume p (a ++ b) m
  | [0x07#8, a, b, m, t, u] => .handoverOffer p (a ++ b) m (t ++ u)
  | [0x08#8, a, b, m] => .handoverTake p (a ++ b) m
  | [0x09#8, a, b, m, ch] => .joined p (a ++ b) m ch
  | [0x0A#8, a, b, kind, levels, chans, flags] => .capability p (a ++ b) kind levels chans flags
  | 0x0B#8 :: data => if airFits 0x0B#8 (data.length + 1) then .echoTestData p data else .unknownAirFrame p bytes
  | _ => .unknownAirFrame p bytes

/-- R196, 12.5: the row of a port message; a present flag other than 0 is set (log entry 8). -/
def portEvent (p : Port) (bytes : List Byte) : Instr :=
  match bytes with
  | [] => .undefinedPortMessage p bytes
  | type :: rest =>
    match type.toNat with
    | 0x01 => airEvent p rest
    | 0x02 =>
      match rest with
      | [status] => .healthReport p status
      | _ => .undefinedPortMessage p bytes
    | 0x03 =>
      match rest with
      | [present, a, b] => .carrierReport p (present != 0) (a ++ b)
      | _ => .undefinedPortMessage p bytes
    | 0x04 => if rest = [] then .slotReady p else .undefinedPortMessage p bytes
    | 0x05 => if rest = [] then .tuned p else .undefinedPortMessage p bytes
    | _ => .undefinedPortMessage p bytes

end Sys2Proof
end

