-- ==== Sys2Proof/Machine/Encode.lean ====
section
/-! DEFINITION. Machine/Encode.lean: the bytes of responses, notices, port messages and air frames (Chapter 12), the
CRC (R194) and the splitting of a long message over several frames (R195). Where R193 leaves a record's layout open the
choice is log entry 21. -/

namespace Sys2Proof.Machine

/-! ## Field encodings (R193) -/

/-- A number in one byte. -/
def e8 (n : Nat) : List Byte := [BitVec.ofNat 8 n]
/-- A number in two bytes, high byte first. -/
def e16 (n : Nat) : List Byte := [BitVec.ofNat 8 (n / 256), BitVec.ofNat 8 n]
/-- A number in four bytes, high byte first. -/
def e32 (n : Nat) : List Byte := e16 (n / 65536) ++ e16 n
/-- A time. -/
def eTime (t : Time) : List Byte := e32 t.toNat
/-- A unit ID. -/
def eUnit (u : UnitId) : List Byte := e16 u.toNat
/-- A flag. -/
def eFlag (b : Bool) : List Byte := e8 b.toNat
/-- An optional field. -/
def eOpt {α : Type} (f : α → List Byte) : Option α → List Byte
  | none => [0]
  | some x => 1 :: f x
/-- A list. -/
def eList {α : Type} (f : α → List Byte) (xs : List α) : List Byte := e8 xs.length ++ (xs.map f).flatten

/-- A channel. -/
def eChan (c : Chan) : List Byte := e8 c.val
/-- A port. -/
def ePort (p : Port) : List Byte := e8 p.val
/-- A channel or none. -/
def eChanNone : Option Chan → List Byte
  | none => [0xFF]
  | some c => eChan c
/-- A port or none. -/
def ePortNone : Option Port → List Byte
  | none => [0xFF]
  | some p => ePort p
/-- A move number. -/
def eMove (m : MoveIx) : List Byte := e8 (m.val + 1)
/-- A move number or none. -/
def eMoveNone : Option MoveIx → List Byte
  | none => [0]
  | some m => eMove m
/-- A party. -/
def eParty : Party → List Byte
  | .unit u => eUnit u
  | .console c => e16 (0xFFF0 + c.val)
/-- A party or none. -/
def ePartyNone : Option Party → List Byte
  | none => e16 0
  | some p => eParty p

/-! ## Enumerations: the position in the owning rule's list (R193) -/

/-- Talk class. -/
def TalkClass.code : TalkClass → Nat
  | .routine => 0 | .work => 1 | .urgent => 2 | .emergency => 3
/-- Unit kind. -/
def UnitKind.code : UnitKind → Nat
  | .handset => 0 | .loco => 1 | .locoRc => 2
/-- Level. -/
def Level.code : Level → Nat
  | .l1 => 1 | .l2 => 2 | .l3 => 3
/-- Move state (R1). -/
def MoveState.code : MoveState → Nat
  | .forming => 0 | .active => 1 | .stopHeld => 2 | .recovery => 3 | .suspended => 4 | .releasing => 5
/-- Fault kind (R72). -/
def FaultKind.code : FaultKind → Nat
  | .early => 0 | .missed => 1 | .crewStop => 2
/-- Handover cause (R95). -/
def HandoverCause.code : HandoverCause → Nat
  | .fault => 0 | .targetRemoved => 1 | .moved => 2 | .controllerSet => 3 | .releasing => 4
/-- Floor state (R25). -/
def FloorState.code : FloorState → Nat
  | .off => 0 | .idle => 1 | .granted => 2 | .hang => 3 | .alert => 4 | .transfer => 5 | .closed => 6
/-- Held state: its position in its own row of R25, IDLE 0 to ALERT 3. DEDUCED (log entry 21): R193's example numbers the
channel state, another row of R25, and does not name the held state. -/
def heldCode : FloorState → Nat
  | .idle => 0 | .granted => 1 | .hang => 2 | .alert => 3 | .off | .transfer | .closed => 0
/-- Air reason (12.6). -/
def AirReason.code : AirReason → Nat
  | .wrongChannel => 0x01 | .lockedOut => 0x02 | .queueFull => 0x03 | .timeout => 0x04 | .notTaken => 0x05
  | .silent => 0x06 | .overtalk => 0x07 | .preempted => 0x08 | .alert => 0x09 | .moved => 0x0A | .released => 0x0B
  | .unregistered => 0x0C | .channelLost => 0x0D | .bound => 0x10 | .noLevel => 0x11 | .registerFull => 0x12
/-- Alert mode (R167). -/
def AlertMode.code : AlertMode → Nat
  | .preempt => 0 | .nextFree => 1
/-- Requester (R167). -/
def Requester.code : Requester → Nat
  | .supervision => 0
  | .console c => c.val + 1
/-- Alert fate (R167). -/
def AlertFate.code : AlertFate → Nat
  | .admitted => 0 | .collapsed => 1 | .notAdmitted => 2
/-- Port state (R137). -/
def PortState.code : PortState → Nat
  | .absent => 0 | .standby => 1 | .tuning => 2 | .active => 3 | .failed => 4 | .isolated => 5 | .test => 6
/-- Tune purpose (R137). -/
def TunePurpose.code : TunePurpose → Nat
  | .start => 0 | .transfer => 1 | .swap => 2
/-- Health status (R137). -/
def Health.code : Health → Nat
  | .ok => 0 | .degraded => 1 | .fault => 2
/-- Failure cause (R137). -/
def FailCause.code : FailCause → Nat
  | .silent => 0 | .fault => 1 | .tuneTimeout => 2
/-- PORT_STATE cause (7.8). -/
def PortCause.code : PortCause → Nat
  | .healthy => 0 | .silent => 1 | .fault => 2 | .tuneTimeout => 3 | .recovered => 4 | .tune => 5 | .tuned => 6
  | .service => 7 | .swapped => 8 | .restart => 9 | .isolated => 10 | .restored => 11 | .testStart => 12
  | .testEnd => 13
/-- SWAP_FAILED cause (R148). -/
def SwapCause.code : SwapCause → Nat
  | .tuneTimeout => 0 | .fault => 1 | .silent => 2 | .isolated => 3 | .portLost => 4
/-- Test mode (R153). -/
def TestMode.code : TestMode → Nat
  | .loc => 0 | .unit => 1 | .remote => 2
/-- Test state (R153). -/
def TestState.code : TestState → Nat
  | .search => 0 | .synced => 1 | .done => 2 | .aborted => 3
/-- Abort reason (R153). -/
def AbortReason.code : AbortReason → Nat
  | .portFailed => 0 | .failover => 1
/-- Enrolment phase (R99). -/
def EnrolPhase.code : EnrolPhase → Nat
  | .listen => 0 | .ackWait => 1 | .confirm => 2
/-- Cause of freeing a slot (R108). -/
def EnrolCause.code : EnrolCause → Nat
  | .lapsed => 0 | .timeout => 1 | .noLevel => 2 | .bound => 3 | .registerFull => 4 | .admitted => 5
/-- Part state (R186). -/
def PartState.code : PartState → Nat
  | .config => 0 | .service => 1
/-- FRAME_REJECT cause (12.4). -/
def RejectCause.code : RejectCause → Nat
  | .length => 0 | .gap => 1 | .crc => 2 | .character => 3
/-- CONFIG_INVALID cause (12.4). -/
def PlanCause.code : PlanCause → Nat
  | .noCallChannel => 0 | .noPort => 1 | .portShared => 2 | .portFailed => 3
/-- Refusal reason (12.4). -/
def Reason.code : Reason → Nat
  | .unknownCommand => 0x01 | .badFormat => 0x02 | .wrongState => 0x03 | .configInvalid => 0x04
  | .movesPresent => 0x05 | .badLevelSet => 0x06 | .badCategory => 0x07
  | .tableFull => 0x10 | .channelUnusable => 0x11 | .channelFull => 0x12 | .memberCount => 0x13
  | .duplicateUnit => 0x14 | .unitUnknown => 0x15 | .unitBound => 0x16 | .kindMismatch => 0x17
  | .channelUnsupported => 0x18 | .controllerRequired => 0x19 | .controllerNotMember => 0x1A | .levelTooLow => 0x1B
  | .controllerNotAllowed => 0x1C | .moveUnknown => 0x1D | .notOperator => 0x1E | .useRelease => 0x1F
  | .controllerInUse => 0x20 | .lastHandset => 0x21 | .notMember => 0x22 | .notJoined => 0x23 | .sameChannel => 0x24
  | .badClass => 0x30 | .channelUnavailable => 0x31 | .notClaimant => 0x32 | .channelUnknown => 0x33
  | .patternUnknown => 0x34 | .stepCount => 0x35 | .patternInUse => 0x36 | .patternEmpty => 0x37
  | .notGranted => 0x38 | .toneBusy => 0x39 | .alertListFull => 0x3A | .badMode => 0x3B
  | .portUnknown => 0x40 | .notIsolated => 0x41 | .swapInProgress => 0x42 | .noSpare => 0x43
  | .portNotSpare => 0x44 | .noTest => 0x45 | .insertPending => 0x46

/-! ## Records -/

/-- R2: a member entry. -/
def Member.bytes (m : Member) : List Byte :=
  eUnit m.unit ++ eFlag m.joined ++ e8 m.sends ++ eTime m.roundStart ++ eOpt eTime m.addDeadline
/-- R1: a pending handover. -/
def Handover.bytes (h : Handover) : List Byte := eUnit h.target ++ eTime h.expiry
/-- R1: a re-channel record. -/
def Rechannel.bytes (r : Rechannel) : List Byte := eChan r.channel ++ eTime r.deadline
/-- R1, R72: a move record. DEDUCED (log entry 21): the operating console is one byte, the number 0 to 3 that R1 gives it, and
not the two bytes that R193 gives a party. -/
def Move.bytes (i : MoveIx) (m : Move) : List Byte :=
  eMove i ++ e8 m.state.code ++ eChan m.channel ++ e8 m.console.val ++ m.loco.bytes ++ eList Member.bytes m.handsets ++
  eOpt eUnit m.controller ++ e16 m.interval ++ e8 m.faultLimit ++
  eOpt eTime m.windowStart ++ eOpt eTime m.closedEnd ++ eOpt eTime m.deadline ++ e8 m.faultCount ++
  eOpt eTime m.cleanStart ++ eOpt (fun k => e8 k.code) m.lastFault ++ eOpt eTime m.holdStart ++
  eFlag m.stopAckSeen ++ eFlag m.presenceNoted ++ eFlag m.suspensionPending ++
  eOpt Handover.bytes m.handover ++ eOpt eTime m.formingDeadline ++ eOpt Rechannel.bytes m.rechannel ++
  eOpt eTime m.releaseDeadline
/-- R27: a grant record. -/
def Grant.bytes (g : Grant) : List Byte :=
  eParty g.holder ++ eOpt eMove g.move ++ e8 g.cls.code ++ eTime g.time ++ eFlag g.takenUp ++ eOpt eTime g.takeUp ++
  eOpt eTime g.overtalk ++ eOpt eTime g.warning ++ eOpt eTime g.silent
/-- R25: a hang; its reservation as a move byte and a party, one of them none (log entry 21). -/
def Hang.bytes (h : Hang) : List Byte :=
  (match h.reservation with
    | .move m => eMove m ++ e16 0
    | .party p => [0] ++ eParty p) ++ eTime h.expiry
/-- R53: a queue entry with its arrival order. -/
def Entry.bytes (order : Nat) (e : Entry) : List Byte :=
  eParty e.party ++ eOpt eMove e.move ++ e8 e.cls.code ++ eTime e.arrival ++ e8 order ++ eTime e.expiry
/-- Queue entries in arrival order, numbered from `n`. -/
def entriesFrom : Nat → List Entry → List (Nat × Entry)
  | _, [] => []
  | n, e :: es => (n, e) :: entriesFrom (n + 1) es
/-- R41: a lockout entry. -/
def Lockout.bytes (l : Lockout) : List Byte := eParty l.party ++ eTime l.expiry
/-- R167: a pending alert. -/
def Alert.bytes (a : Alert) : List Byte :=
  e8 a.pattern.val ++ e8 a.mode.code ++ eOpt eMove a.tag ++ e8 a.requester.code ++ eTime a.admitted ++ eFlag a.playing
/-- R36: the heard carrier. -/
def Heard.bytes (h : Heard) : List Byte := eUnit h.source ++ eTime h.time
/-- R52: a floor as READ_FLOOR gives it. -/
def Floor.bytes (ranks : List Nat) (f : Floor) : List Byte :=
  e8 f.state.code ++ eOpt (fun h => e8 (heldCode h)) f.held ++ eOpt Grant.bytes f.grant ++ ePartyNone f.gate ++
  eOpt Hang.bytes f.hang ++
  eList (fun x : (Nat × Entry) × Nat => x.1.2.bytes x.1.1 ++ e8 x.2) ((entriesFrom 1 f.queue).zip ranks) ++
  eList Lockout.bytes f.lockouts ++ eList Alert.bytes f.alerts ++ eOpt Heard.bytes f.heard ++
  eOpt eTime f.foreignSince ++ eFlag f.episodeOpen
/-- R115: a unit record. -/
def UnitRec.bytes (r : UnitRec) : List Byte :=
  eUnit r.unit ++ e8 r.kind.code ++ e8 r.level.code ++ e8 r.chans.toNat ++ eChan r.current ++ eMoveNone r.binding ++
  eTime r.admitted ++ eTime r.lastHeard ++ eTime r.unboundSince
/-- R97: a capability word. -/
def Capability.bytes (w : Capability) : List Byte :=
  eUnit w.unit ++ e8 w.kind.code ++ e8 w.levels.toNat ++ e8 w.chans.toNat ++ eFlag w.ack
/-- R99: a held slot. -/
def Slot.bytes (s : Slot) : List Byte :=
  eUnit s.unit ++ s.word.bytes ++ e8 s.phase.code ++ e8 s.consistent ++ e8 s.acked ++ eTime s.slotStart ++
  eTime s.phaseStart ++ eTime s.lastBurst ++ eOpt (fun l => e8 l.code) s.level ++ eOpt (fun c => e8 c.toNat) s.chans ++
  eFlag s.stuck ++ e8 s.confirms
/-- R120: a listed unit. -/
def Listed.bytes (l : Listed) : List Byte :=
  eUnit l.unit ++ e8 l.kind.code ++ e8 l.level.code ++ eMoveNone l.binding ++ eChan l.current
/-- R137: a port record. -/
def PortRec.bytes (r : PortRec) : List Byte :=
  e8 r.state.code ++ eOpt eChan r.channel ++ eOpt (fun x => e8 x.code) r.purpose ++ eOpt eTime r.tuneDeadline ++
  eOpt eTime r.lastHealth ++ eOpt (fun x => e8 x.code) r.status ++ eOpt eTime r.okStart ++
  eOpt (fun x => e8 x.code) r.lastCause
/-- R153: a test record. -/
def TestRec.bytes (t : TestRec) : List Byte :=
  e8 t.mode.code ++ eOpt eUnit t.echoUnit ++ eOpt eChan t.echoChannel ++ eOpt e16 t.freq ++ e8 t.seq ++ e16 t.duration ++
  e8 t.state.code ++ e32 t.bits ++ e32 t.errors ++ e16 t.losses ++ e16 t.inserted ++ eFlag t.insertPending ++
  eTime t.start ++ eTime t.endTime ++ eOpt eTime t.firstSync ++ eOpt (fun x => e8 x.code) t.abort
/-- R190: a channel's configuration. -/
def ChannelConfig.bytes (c : ChannelConfig) : List Byte :=
  eFlag c.inUse ++ ePortNone c.port ++ e16 c.freq ++ e16 c.ageStep ++ e16 c.hangMs ++ e8 c.routineLimit ++
  e8 c.workLimit ++ e8 c.urgentLimit ++ e32 c.queueTimeout
/-- R191: the global configuration. -/
def GlobalConfig.bytes (g : GlobalConfig) : List Byte :=
  e8 g.levels.toNat ++ e8 g.ageOut ++ e16 g.interval ++ e8 g.faultLimit
/-- 12.4: a channel's latches in one byte. -/
def ChanLatches.bytes (l : ChanLatches) : List Byte :=
  e8 (l.closedSeen.toNat + 2 * l.transferSeen.toNat + 4 * l.interference.toNat + 8 * l.downlinkOverflow.toNat +
    16 * l.degraded.toNat)
/-- 12.4: a link's latches. -/
def Latches.bytes (l : Latches) : List Byte :=
  (l.chans.toList.map ChanLatches.bytes).flatten ++ e8 (l.noticeOverflow.toNat + 2 * l.enrolStuckSeen.toNat)

/-! ## Responses and notices (12.4) -/

/-- The result fields of an ACCEPTED response. -/
def Result.bytes : Result → List Byte
  | .none => []
  | .move m => eMove m
  | .port p => ePort p
  | .sequence n => e8 n
  | .alert f => e8 f.code
  | .channel c => c.bytes
  | .globals g => g.bytes
  | .tones steps => eList (fun s => e16 s.1 ++ e32 s.2) steps
  | .categories s => e8 s.toNat
  | .moveRecord i m => m.bytes i
  | .unitRecord r slot quiet =>
      eOpt (fun x => x.1.bytes ++ eOpt eTime x.2) r ++ eOpt (fun x => e8 x.1.val ++ x.2.bytes) slot ++ eOpt eTime quiet
  | .unitList us more occupied bound => eList Listed.bytes us ++ eFlag more ++ e8 occupied ++ e8 bound
  | .floorRecord f ranks => f.bytes ranks
  | .portRecord r assigned due => r.bytes ++ eChanNone assigned ++ eOpt eTime due
  | .testRecord t => t.bytes
  | .conditions l waiting next => l.bytes ++ e8 waiting ++ e8 next.toNat
  | .clock t part => eTime t ++ e8 part.code

/-- The code of a notice (12.4). -/
def NoticeBody.code : NoticeBody → Nat
  | .moveActive .. => 0x01 | .moveFailed .. => 0x02 | .memberNotJoined .. => 0x03 | .moveChannelIncomplete .. => 0x04
  | .moveReleased .. => 0x05 | .releaseUnconfirmed .. => 0x06 | .moveTaken .. => 0x07 | .supervisionFault .. => 0x08
  | .stopUnconfirmed .. => 0x09 | .stopUndeliverable .. => 0x0A | .moveRecovery .. => 0x0B | .moveSuspended .. => 0x0C
  | .moveResumed .. => 0x0D | .controllerChanged .. => 0x0E | .handoverLapsed .. => 0x0F
  | .handoverCancelled .. => 0x10
  | .talkQueued .. => 0x20 | .talkGranted .. => 0x21 | .talkDenied .. => 0x22 | .talkRevoked .. => 0x23
  | .alertDiscarded .. => 0x24
  | .floorCleared .. => 0x30 | .interference .. => 0x31 | .channelTransfer .. => 0x32 | .channelRestored .. => 0x33
  | .channelClosed .. => 0x34 | .swapDone .. => 0x35 | .swapFailed .. => 0x36 | .portState .. => 0x37
  | .portHealth .. => 0x38 | .enrolStuck .. => 0x39 | .enrolFailed .. => 0x3A | .unitAdmitted .. => 0x3B
  | .unitEvicted .. => 0x3C | .unitGone .. => 0x3D | .testResult .. => 0x3E

/-- The contents of a notice, in the order its owning rule names them (12.4, log entry 21). DESIGN CHOICE (log entry 21): the
last fault kind of MOVE_SUSPENDED and the resolved level of ENROL_STUCK carry no presence byte, and are 0 for none.
DEDUCED (log entry 21): the new console of MOVE_TAKEN is one byte, its number 0 to 3; the reason of TALK_DENIED and
TALK_REVOKED is a plain byte, and TALK_QUEUED and TALK_GRANTED have none; FLOOR_CLEARED's former holder has a presence
byte; the lost and current port of CHANNEL_TRANSFER have none. -/
def NoticeBody.bytes : NoticeBody → List Byte
  | .moveActive m us => eMove m ++ eList eUnit us
  | .moveFailed m us => eMove m ++ e8 0 ++ eList eUnit us
  | .memberNotJoined m u => eMove m ++ eUnit u
  | .moveChannelIncomplete m ch us => eMove m ++ eChan ch ++ eList eUnit us
  | .moveReleased m => eMove m
  | .releaseUnconfirmed m u => eMove m ++ eUnit u
  | .moveTaken m c => eMove m ++ e8 c.val
  | .supervisionFault m k n pending fate => eMove m ++ e8 k.code ++ e8 n ++ eFlag pending ++ e8 fate.code
  | .stopUnconfirmed m u => eMove m ++ eUnit u
  | .stopUndeliverable m ch => eMove m ++ eChan ch
  | .moveRecovery m noted => eMove m ++ eFlag noted
  | .moveSuspended m n k noted => eMove m ++ e8 n ++ e8 ((k.map FaultKind.code).getD 0) ++ eFlag noted
  | .moveResumed m u => eMove m ++ eUnit u
  | .controllerChanged m a b => eMove m ++ eUnit a ++ eUnit b
  | .handoverLapsed m u => eMove m ++ eUnit u
  | .handoverCancelled m u c => eMove m ++ eUnit u ++ e8 c.code
  | .talkQueued ch c => eChan ch ++ e8 c.code
  | .talkGranted ch c => eChan ch ++ e8 c.code
  | .talkDenied ch c r => eChan ch ++ e8 c.code ++ e8 r.code
  | .talkRevoked ch c r => eChan ch ++ e8 c.code ++ e8 r.code
  | .alertDiscarded ch p => eChan ch ++ e8 p.val
  | .floorCleared ch h q =>
      eChan ch ++ eOpt eParty h ++ eList (fun x : Nat × Entry => x.2.bytes x.1) (entriesFrom 1 q) ++
      e8 AirReason.channelLost.code
  | .interference ch u => eChan ch ++ eUnit u
  | .channelTransfer ch lost p => eChan ch ++ ePortNone lost ++ ePortNone p
  | .channelRestored ch p => eChan ch ++ ePort p
  | .channelClosed ch => eChan ch
  | .swapDone ch a b => eChan ch ++ ePort a ++ ePort b
  | .swapFailed ch p c => eChan ch ++ ePort p ++ e8 c.code
  | .portState p a b c => ePort p ++ e8 a.code ++ e8 b.code ++ e8 c.code
  | .portHealth p h => ePort p ++ e8 h.code
  | .enrolStuck i u l n => e8 i.val ++ eUnit u ++ e8 ((l.map Level.code).getD 0) ++ e8 n
  | .enrolFailed u c ph => eUnit u ++ e8 c.code ++ e8 ph.code
  | .unitAdmitted u k l chs r => eUnit u ++ e8 k.code ++ e8 l.code ++ e8 chs.toNat ++ eFlag r
  | .unitEvicted u t v => eUnit u ++ eTime t ++ eUnit v
  | .unitGone u t => eUnit u ++ eTime t
  | .testResult p t =>
      ePort p ++ e8 t.seq ++ e8 t.mode.code ++ e8 t.state.code ++ eOpt (fun x => e8 x.code) t.abort ++ e32 t.bits ++
      e32 t.errors ++ e16 t.losses ++ e16 t.inserted ++ eTime t.start ++ eTime t.endTime ++ eOpt eTime t.firstSync

/-! ## Frames (R194) -/

/-- One bit of the CRC: shift left, and fold in the polynomial 0x1021 where a one leaves. -/
def crcBit (c : BitVec 16) : BitVec 16 := if c.msb then (c <<< 1) ^^^ 0x1021#16 else c <<< 1
/-- The CRC after one more byte, most significant bit first. -/
def crcByte (c : BitVec 16) (b : Byte) : BitVec 16 :=
  crcBit (crcBit (crcBit (crcBit (crcBit (crcBit (crcBit (crcBit (c ^^^ (b.setWidth 16 <<< 8)))))))))
/-- R194: the CRC of a row of bytes. -/
def crc (bs : List Byte) : BitVec 16 := bs.foldl crcByte 0xFFFF#16

/-- R194: a frame. -/
def frame (type : Byte) (body : List Byte) : List Byte :=
  0xA5#8 :: (e8 (body.length + 1) ++ type :: body) ++ e16 (crc (e8 (body.length + 1) ++ type :: body)).toNat

/-- The largest body of one frame: the length counts the type byte and is at most 120 (R194). -/
def bodyRoom : Nat := 119

/-- R195: the CONTINUED frames of the rest of a long body, each filled to its most (log entry 22). `fuel` bounds the
number of frames. -/
def continued : Nat → List Byte → List (List Byte)
  | 0, _ => []
  | fuel + 1, rest =>
    if rest.length ≤ bodyRoom - 1 then [frame 0x83#8 (0 :: rest)]
    else frame 0x83#8 (2 :: rest.take (bodyRoom - 1)) :: continued fuel (rest.drop (bodyRoom - 1))

/-- R195: a message of a type with a fixed head, a flags byte and contents, as one frame or several; every frame but
the last has the MORE bit (bit 1) set. -/
def message (type : Byte) (head : List Byte) (flags : Nat) (contents : List Byte) : List (List Byte) :=
  if head.length + 1 + contents.length ≤ bodyRoom then [frame type (head ++ e8 flags ++ contents)]
  else
    frame type (head ++ e8 (flags + 2) ++ contents.take (bodyRoom - 1 - head.length)) ::
      continued contents.length (contents.drop (bodyRoom - 1 - head.length))

/-- 12.4: the frames of a response. -/
def Response.frames (r : Response) : List (List Byte) :=
  match r.answer with
  | .accepted clamped res => message 0x80#8 [r.code.getD 0] clamped.toNat res.bytes
  | .refused reason detail => [frame 0x81#8 (r.code.getD 0 :: e8 reason.code ++ e16 detail.toNat)]
  | .frameReject cause => [frame 0x82#8 (e8 cause.code)]

/-- 12.4: the frames of a notice. -/
def Notice.frames (n : Notice) : List (List Byte) :=
  message 0xC0#8 (e8 n.body.code ++ e8 n.number.toNat ++ eTime n.time) 0 n.body.bytes

/-! ## Port messages and air frames (12.5, 12.6) -/

/-- 12.6: the kind byte of a downlink frame. -/
def FrameBody.kind : FrameBody → Byte
  | .stopOrder .. => 0x41 | .grant .. => 0x42 | .queued .. => 0x43 | .deny .. => 0x44 | .revoke .. => 0x45
  | .joinOrder .. => 0x46 | .leaveOrder .. => 0x47 | .resumeOffer .. => 0x48 | .handoverOffered .. => 0x49
  | .controlAssigned .. => 0x4A | .offer .. => 0x4B | .confirm .. => 0x4C | .enrolReject .. => 0x4D
  | .echoOn .. => 0x4E | .echoOff .. => 0x4F
/-- 12.6: the body of a downlink frame. -/
def FrameBody.bytes : FrameBody → List Byte
  | .stopOrder m | .leaveOrder m | .resumeOffer m => eMove m
  | .grant ch c | .queued ch c => eChan ch ++ e8 c.code
  | .deny ch r | .revoke ch r => eChan ch ++ e8 r.code
  | .joinOrder m ch => eMove m ++ eChan ch
  | .handoverOffered m u | .controlAssigned m u => eMove m ++ eUnit u
  | .offer l chs => e8 l.code ++ e8 chs.toNat ++ e8 1
  | .confirm l chs n => e8 l.code ++ e8 chs.toNat ++ e8 n
  | .enrolReject r => e8 r.code
  | .echoOn p n f d => ePort p ++ e8 n ++ e16 f ++ e16 d
  | .echoOff p n => ePort p ++ e8 n
/-- 12.6: a downlink air frame. -/
def Frame.bytes (f : Frame) : List Byte := f.body.kind :: eUnit f.dest ++ f.body.bytes
/-- 12.5: a message to a port; a test bit (R154) is no message and has no bytes. -/
def PortMsg.bytes : PortMsg → List Byte
  | .air f => 0x81 :: f.bytes
  | .tune f => 0x82 :: e16 f
  | .gate p => 0x83 :: ePartyNone p
  | .testLoop => [0x84, 0]
  | .testAir f => [0x84, 1] ++ e16 f
  | .testEnd => [0x84, 2]
  | .bit _ => []

end Sys2Proof.Machine
end

