-- ==== Sys2Proof/Machine/Ops.lean ====
section
/-! DEFINITION. Machine/Ops.lean: the operations every block uses: Time Base arithmetic (R192), reading and writing
one record of a table, looking a unit up (R117), and sending on a port link (12.5). -/

namespace Sys2Proof.Machine

/-! ## Times (R192) -/

/-- R192: a time plus an interval, modulo 2^32. -/
def after (t : Time) (ms : Nat) : Time := t + BitVec.ofNat 32 ms

/-- R192: a later time minus an earlier one, modulo 2^32. -/
def elapsed (now t : Time) : Nat := (now - t).toNat

/-- R192: the counter has reached `t`. Every interval is below 2^31 ms, so a time not yet reached shows a difference
of 2^31 or more. DESIGN CHOICE (log entry 2): an expiry may be taken in any later millisecond too. -/
def reached (now t : Time) : Bool := decide (elapsed now t < 2147483648)

/-- An optional timer is set and its time is reached. -/
def reachedOpt (now : Time) : Option Time → Bool
  | none => false
  | some t => reached now t

/-! ## The numbered things in ascending order -/

/-- CH0 to CH5. -/
def allChans : List Chan := [0, 1, 2, 3, 4, 5]
/-- BP0 to BP6. -/
def allPorts : List Port := [0, 1, 2, 3, 4, 5, 6]
/-- Slots 0 to 3. -/
def allSlots : List SlotIx := [0, 1, 2, 3]
/-- Moves 1 to 24. -/
def allMoves : List MoveIx :=
  [0, 1, 2, 3, 4, 5, 6, 7, 8, 9, 10, 11, 12, 13, 14, 15, 16, 17, 18, 19, 20, 21, 22, 23]

/-- Do `f` for each item of a list, in order. -/
def forEach {α : Type} (xs : List α) (f : α → State → State) (s : State) : State :=
  xs.foldl (fun t x => f x t) s

/-! ## Records -/

/-- The floor record of a channel. -/
def State.floor (s : State) (ch : Chan) : Floor := s.floors.get ch
/-- The record of a port. -/
def State.port (s : State) (p : Port) : PortRec := s.ports.get p
/-- The configuration of a channel. -/
def State.chan (s : State) (ch : Chan) : ChannelConfig := s.channels.get ch
/-- The move record at a place, none when it is free (R1). -/
def State.move (s : State) (m : MoveIx) : Option Move := s.moves.get m
/-- A console's link. -/
def State.link (s : State) (c : Console) : Link := s.links.get c
/-- An enrolment slot, none when it is free (R99). -/
def State.slot (s : State) (i : SlotIx) : Option Slot := s.slots.get i
/-- A port's test record, none when it is empty (R153). -/
def State.testOf (s : State) (p : Port) : Option TestRec := s.tests.get p
/-- A channel's generator, none when it is IDLE (R165). -/
def State.generator (s : State) (ch : Chan) : Option Play := s.generators.get ch
/-- A channel's waiting downlink frames in placement order (R122). -/
def State.frames (s : State) (ch : Chan) : List Frame := s.downlink.get ch

/-- Replace a floor record. -/
def setFloor (ch : Chan) (f : Floor) (s : State) : State := { s with floors := s.floors.put ch f }
/-- Change a floor record. -/
def modFloor (ch : Chan) (g : Floor → Floor) (s : State) : State := setFloor ch (g (s.floor ch)) s
/-- Replace a port record. -/
def setPort (p : Port) (r : PortRec) (s : State) : State := { s with ports := s.ports.put p r }
/-- Change a port record. -/
def modPort (p : Port) (g : PortRec → PortRec) (s : State) : State := setPort p (g (s.port p)) s
/-- Write or free a move record. -/
def setMove (m : MoveIx) (r : Option Move) (s : State) : State := { s with moves := s.moves.put m r }
/-- Change an occupied move record. -/
def modMove (m : MoveIx) (g : Move → Move) (s : State) : State := setMove m ((s.move m).map g) s
/-- Replace a link. -/
def setLink (c : Console) (l : Link) (s : State) : State := { s with links := s.links.put c l }
/-- Change a link. -/
def modLink (c : Console) (g : Link → Link) (s : State) : State := setLink c (g (s.link c)) s
/-- Write or free an enrolment slot. -/
def setSlot (i : SlotIx) (r : Option Slot) (s : State) : State := { s with slots := s.slots.put i r }
/-- Write or empty a test record. -/
def setTest (p : Port) (r : Option TestRec) (s : State) : State := { s with tests := s.tests.put p r }
/-- Start or idle a generator. -/
def setGenerator (ch : Chan) (g : Option Play) (s : State) : State :=
  { s with generators := s.generators.put ch g }
/-- Replace a channel's waiting frames. -/
def setFrames (ch : Chan) (q : List Frame) (s : State) : State := { s with downlink := s.downlink.put ch q }

/-! ## Units (R117) -/

/-- The register record of a unit. -/
def State.unit (s : State) (u : UnitId) : Option UnitRec := s.units.find? (fun r => r.unit == u)

/-- Change the register record of a unit, in its place. -/
def modUnit (u : UnitId) (g : UnitRec → UnitRec) (s : State) : State :=
  { s with units := s.units.map (fun r => if r.unit == u then g r else r) }

/-- R28: a party's move is the unit's binding; a console and an unbound unit have none. -/
def State.bindingOf (s : State) : Party → Option MoveIx
  | .unit u => (s.unit u).bind (·.binding)
  | .console _ => none

/-- R116: a unit's current channel; CH0 stands for a unit with no record, which no block addresses so. -/
def State.currentOf (s : State) (u : UnitId) : Chan := ((s.unit u).map (·.current)).getD 0

/-- A unit's kind, if it has a record. -/
def State.kindOf (s : State) (u : UnitId) : Option UnitKind := (s.unit u).map (·.kind)

/-- Bit n of a channel set: the set contains CHn (R193). -/
def hasChan (set : BitVec 6) (ch : Chan) : Bool := set.getLsbD ch.val

/-- 0.6.1: the unit IDs that units hold. -/
def isUnitId (u : UnitId) : Bool := decide (1 ≤ u.toNat) && decide (u.toNat ≤ 0xFFEF)

/-! ## Ports -/

/-- R127, R138: the carrying port of a channel is the ACTIVE port whose channel field names it. -/
def State.carrier (s : State) (ch : Chan) : Option Port :=
  allPorts.find? (fun p => (s.port p).state == .active && (s.port p).channel == some ch)

/-- R132: the channel that a port carries. -/
def State.carriedBy (s : State) (p : Port) : Option Chan :=
  if (s.port p).state = .active then (s.port p).channel else none

/-- The lowest-numbered port in a state (R143). -/
def State.lowestPort (s : State) (st : PortState) : Option Port :=
  allPorts.find? (fun p => (s.port p).state == st)

/-- Send a message on a port link (12.5). -/
def send (p : Port) (m : PortMsg) (s : State) : State := { s with sent := s.sent ++ [(p, m)] }

/-- R34, R151: send a repeat-gate setting, which the port's output then holds. -/
def sendGate (p : Port) (g : Option Party) (s : State) : State :=
  send p (.gate g) (modPort p (fun r => { r with pins := { r.pins with gate := g } }) s)

/-- R151: connect a port's tone line to a channel's generator, or make it silent. -/
def connectTone (p : Port) (ch : Option Chan) (s : State) : State :=
  modPort p (fun r => { r with pins := { r.pins with tone := ch } }) s

/-! ## Floors -/

/-- The floor state that the floor rules act on: the held state in TRANSFER, else the channel state (R47). -/
def Floor.effective (f : Floor) : FloorState := if f.state = .transfer then f.held.getD .transfer else f.state

/-- R40, R47: the floor takes a state; in TRANSFER the held state takes it instead. -/
def Floor.takes (st : FloorState) (f : Floor) : Floor :=
  if f.state = .transfer then { f with held := some st } else { f with state := st }

/-- R34: the gate party changes. Each change is sent at once to the carrying port; in TRANSFER and CLOSED the gate
party is kept without being sent. -/
def setGate (ch : Chan) (g : Option Party) (s : State) : State :=
  if (s.floor ch).gate = g then s
  else
    match s.carrier ch with
    | none => modFloor ch (fun f => { f with gate := g }) s
    | some p => sendGate p g (modFloor ch (fun f => { f with gate := g }) s)

end Sys2Proof.Machine
end

