-- ==== Sys2Proof/Machine/Flags.lean ====
section
/-! DEFINITION. Machine/Flags.lean: the condition latches (R184) and the saturating counters (R157). The Y6 has no
arithmetic flags. -/

namespace Sys2Proof.Machine

/-- R184: one latch of a channel is set; a latch already set stays set. -/
def ChanLatches.set (k : ChanLatch) (l : ChanLatches) : ChanLatches :=
  match k with
  | .closedSeen => { l with closedSeen := true }
  | .transferSeen => { l with transferSeen := true }
  | .interference => { l with interference := true }
  | .downlinkOverflow => { l with downlinkOverflow := true }
  | .degraded => { l with degraded := true }

/-- R184: a latch of a channel is set on a link. -/
def Link.latch (ch : Chan) (k : ChanLatch) (l : Link) : Link :=
  { l with latches := { l.latches with chans := l.latches.chans.put ch ((l.latches.chans.get ch).set k) } }

/-- R184: a per-channel latch is set on all four links, whatever their subscription sets; the latches of a channel
that is not in use are never set. -/
def latchAll (ch : Chan) (k : ChanLatch) (s : State) : State :=
  { s with links := if (s.chan ch).inUse then s.links.each (Link.latch ch k) else s.links }

/-- R104: ENROL_STUCK_SEEN is latched on all four links. -/
def latchStuck (s : State) : State :=
  { s with links := s.links.each (fun l => { l with latches := { l.latches with enrolStuckSeen := true } }) }

/-- R157: a counter raised by `n` that stays at its largest value. -/
def saturate (top n k : Nat) : Nat := min top (k + n)

end Sys2Proof.Machine
end

