-- ==== Sys2Proof/Machine/Notices.lean ====
section
/-! DEFINITION. Machine/Notices.lean: the production and delivery of notices (R181, R182) and of the answers a party
receives (R28). Downlink placement, which a unit's answer needs, is in Machine/Downlink.lean. -/

namespace Sys2Proof.Machine

/-- R181: the category of a notice; none for a directed notice. -/
def NoticeBody.category : NoticeBody → Option Category
  | .floorCleared .. | .interference .. => some .floor
  | .channelTransfer .. | .channelRestored .. | .channelClosed .. | .swapDone .. | .swapFailed .. => some .channel
  | .portState .. | .portHealth .. => some .port
  | .enrolStuck .. | .enrolFailed .. => some .enrolment
  | .unitAdmitted .. | .unitEvicted .. | .unitGone .. => some .unit
  | .testResult .. => some .test
  | .moveActive .. | .moveFailed .. | .memberNotJoined .. | .moveChannelIncomplete .. | .moveReleased ..
  | .releaseUnconfirmed .. | .moveTaken .. | .supervisionFault .. | .stopUnconfirmed .. | .stopUndeliverable ..
  | .moveRecovery .. | .moveSuspended .. | .moveResumed .. | .controllerChanged .. | .handoverLapsed ..
  | .handoverCancelled .. | .talkQueued .. | .talkGranted .. | .talkDenied .. | .talkRevoked ..
  | .alertDiscarded .. => none

/-- 12.3: the bit of a category in a subscription set. -/
def Category.bit : Category → Nat
  | .floor => 0 | .channel => 1 | .port => 2 | .enrolment => 3 | .unit => 4 | .test => 5

/-- R181: in CONFIG only notices of category PORT are produced. -/
def produced (part : PartState) (b : NoticeBody) : Bool := part == .service || b.category == some .port

/-- R181, R182: a notice takes the link's number and enters its buffer; at a full buffer it is discarded, keeps its
number, and NOTICE_OVERFLOW is latched for that link. -/
def Link.deliver (now : Time) (b : NoticeBody) (l : Link) : Link :=
  if l.notices.length < Config.noticeRoom then
    { l with notices := l.notices ++ [⟨l.nextNumber, now, b⟩], nextNumber := l.nextNumber + 1 }
  else
    { l with nextNumber := l.nextNumber + 1, latches := { l.latches with noticeOverflow := true } }

/-- R181: a directed notice goes to one link, whatever its subscription set. -/
def notify (c : Console) (b : NoticeBody) (s : State) : State :=
  { s with links := if produced s.part b then s.links.put c ((s.link c).deliver s.time b) else s.links }

/-- R181: a category notice goes to every link whose subscription set holds its category. -/
def broadcast (b : NoticeBody) (s : State) : State :=
  { s with
    links :=
      match b.category with
      | none => s.links
      | some k =>
        if produced s.part b then
          s.links.each (fun l => if l.subs.getLsbD k.bit then l.deliver s.time b else l)
        else s.links }

/-- Change a port's state and send PORT_STATE to the PORT subscribers (R138). -/
def portTo (p : Port) (st : PortState) (cause : PortCause) (g : PortRec → PortRec) (s : State) : State :=
  broadcast (.portState p (s.port p).state st cause) (modPort p (fun r => g { r with state := st }) s)

end Sys2Proof.Machine
end

