-- ==== Sys2Proof/Machine/Downlink.lean ====
section
/-! DEFINITION. Machine/Downlink.lean: the downlink queues (R122 to R131) and the answers a floor gives (R28). -/

namespace Sys2Proof.Machine

/-- R123: the priority class of a kind; the lowest number goes first. -/
def FrameBody.priority : FrameBody → Nat
  | .stopOrder .. => 0
  | .grant .. | .queued .. | .deny .. | .revoke .. => 1
  | .joinOrder .. | .leaveOrder .. | .resumeOffer .. | .handoverOffered .. | .controlAssigned .. => 2
  | .offer .. | .confirm .. | .enrolReject .. => 3
  | .echoOn .. | .echoOff .. => 4

/-- The class of a frame (R122). -/
def Frame.priority (f : Frame) : Nat := f.body.priority

/-- R124 case 2: the newcomer is a STOP_ORDER or a RESUME_OFFER and `old` is of the same kind for the same unit. -/
def Frame.collapsesOnto (new old : Frame) : Bool :=
  new.dest == old.dest &&
    match new.body, old.body with
    | .stopOrder _, .stopOrder _ => true
    | .resumeOffer _, .resumeOffer _ => true
    | _, _ => false

/-- The highest class number present in a queue (R126). -/
def highestClass (q : List Frame) : Nat := q.foldl (fun h f => max h f.priority) 0

/-- R126: a queue without its latest placed frame of class `h`. -/
def eraseLatest (h : Nat) (q : List Frame) : List Frame := (q.reverse.eraseP (fun f => f.priority == h)).reverse

/-- R124 to R126: a queue after a placement in a channel that takes frames. -/
def placeIn (new : Frame) (q : List Frame) : List Frame :=
  if q.any new.collapsesOnto then q.map (fun old => if new.collapsesOnto old then new else old)
  else if q.length < Config.downlinkRoom then q ++ [new]
  else if new.priority < highestClass q then eraseLatest (highestClass q) q ++ [new]
  else q

/-- R126: the placement displaces a frame or drops the newcomer. -/
def overflows (new : Frame) (q : List Frame) : Bool :=
  !q.any new.collapsesOnto && decide (Config.downlinkRoom ≤ q.length)

/-- R124 case 1: a channel that is OFF or CLOSED takes no frame. -/
def takesFrames (f : Floor) : Bool := f.state != .off && f.state != .closed

/-- R124: a block places a frame in a channel's downlink queue. -/
def placeFrame (ch : Chan) (new : Frame) (s : State) : State :=
  if takesFrames (s.floor ch) then
    (if overflows new (s.frames ch) then latchAll ch .downlinkOverflow else id)
      (setFrames ch (placeIn new (s.frames ch)) s)
  else s

/-- Place a frame in the queue of the destination's current channel (R123, R116). -/
def orderTo (u : UnitId) (b : FrameBody) (s : State) : State := placeFrame (s.currentOf u) ⟨u, b⟩ s

/-- R123: the head of a queue is the earliest placed frame of the lowest class number present. -/
def headOf (q : List Frame) : Option Frame :=
  q.foldl (fun h f => match h with | none => some f | some g => if f.priority < g.priority then some f else some g) none

/-- R127: a queue after its head is handed over. -/
def withoutHead (q : List Frame) : List Frame :=
  match headOf q with
  | none => q
  | some h => q.eraseP (fun f => f.priority == h.priority)

/-- R128: a frame is an OFFER or a CONFIRM for a unit. -/
def Frame.isEnrolmentOf (u : UnitId) (f : Frame) : Bool :=
  f.dest == u && match f.body with | .offer .. | .confirm .. => true | _ => false

/-- R128: every OFFER and CONFIRM for a unit leaves the CH0 queue. -/
def withdraw (u : UnitId) (s : State) : State :=
  setFrames 0 ((s.frames 0).filter (fun f => !f.isEnrolmentOf u)) s

/-! ## Answers to a party (R28) -/

/-- The four answers a floor gives (R28). -/
inductive TalkAnswer where
  | granted (cls : TalkClass)
  | queued (cls : TalkClass)
  | denied (cls : TalkClass) (r : AirReason)
  | revoked (cls : TalkClass) (r : AirReason)
  deriving DecidableEq, Repr

/-- The air frame of an answer to a unit (R28). -/
def TalkAnswer.frame (ch : Chan) : TalkAnswer → FrameBody
  | .granted c => .grant ch c
  | .queued c => .queued ch c
  | .denied _ r => .deny ch r
  | .revoked _ r => .revoke ch r

/-- The notice of an answer to a console (R28). -/
def TalkAnswer.notice (ch : Chan) : TalkAnswer → NoticeBody
  | .granted c => .talkGranted ch c
  | .queued c => .talkQueued ch c
  | .denied c r => .talkDenied ch c r
  | .revoked c r => .talkRevoked ch c r

/-- R28: a unit is answered by a class 1 frame on the channel of the claim, a console by a notice to its link. -/
def answer (ch : Chan) (p : Party) (a : TalkAnswer) (s : State) : State :=
  match p with
  | .unit u => placeFrame ch ⟨u, a.frame ch⟩ s
  | .console c => notify c (a.notice ch) s

end Sys2Proof.Machine
end

