-- ==== Sys2Proof/Machine/Queue.lean ====
section
/-! DEFINITION. Machine/Queue.lean: the request queue, its ranks and the displacement test (R53 to R66). -/

namespace Sys2Proof.Machine

/-- R29, R63: the order ROUTINE, WORK, URGENT, EMERGENCY. -/
def TalkClass.order : TalkClass → Nat
  | .routine => 0 | .work => 1 | .urgent => 2 | .emergency => 3

/-- R63: the higher of two classes. -/
def higherClass (a b : TalkClass) : TalkClass := if a.order < b.order then b else a

/-- R56: the base of a class. -/
def TalkClass.base : TalkClass → Nat
  | .routine => 0 | .work => 10 | .urgent => 30 | .emergency => 60

/-- R56: the age credit of a wait, capped at 15. -/
def ageCredit (wait ageStep : Nat) : Nat := min 15 (wait / ageStep)

/-- R56: the rank of an entry at `now`. -/
def rank (now : Time) (ageStep : Nat) (e : Entry) : Nat :=
  if e.cls = .emergency then 60 else e.cls.base + ageCredit (elapsed now e.arrival) ageStep

/-- R57: the best entry: the highest rank, and of equals the earliest arrival. -/
def bestEntry (now : Time) (ageStep : Nat) (q : List Entry) : Option Entry :=
  q.foldl (fun b e => match b with
    | none => some e
    | some x => if rank now ageStep x < rank now ageStep e then some e else some x) none

/-- R57: the weakest entry: the lowest rank, and of equals the latest arrival. -/
def weakestEntry (now : Time) (ageStep : Nat) (q : List Entry) : Option Entry :=
  q.foldl (fun w e => match w with
    | none => some e
    | some x => if rank now ageStep e ≤ rank now ageStep x then some e else some x) none

/-- A queue without a party's entry; the entries behind it move up (R53). -/
def withoutParty (p : Party) (q : List Entry) : List Entry := q.filter (fun e => e.party != p)

/-- A party's entry in a queue (R54: at most one). -/
def entryOf (p : Party) (q : List Entry) : Option Entry := q.find? (fun e => e.party == p)

/-- R61: the entry that a newcomer of a class displaces from a full queue, if any. -/
def displacedBy (now : Time) (ageStep : Nat) (cls : TalkClass) (q : List Entry) : Option Entry :=
  if q.length < Config.queueRoom then none
  else (weakestEntry now ageStep q).filter (fun w => decide (rank now ageStep w < cls.base))

/-- R61: a newcomer of a class is refused: the queue is full and it displaces nothing. -/
def queueRefuses (now : Time) (ageStep : Nat) (cls : TalkClass) (q : List Entry) : Bool :=
  decide (Config.queueRoom ≤ q.length) && (displacedBy now ageStep cls q).isNone

/-- R55 step 2: a newcomer's entry. -/
def newEntry (s : State) (ch : Chan) (p : Party) (cls : TalkClass) : Entry :=
  ⟨p, s.bindingOf p, cls, s.time, after s.time (s.chan ch).queueTimeout⟩

/-- R62 steps 1 and 2: the weakest entry leaves a full queue with DENY(QUEUE_FULL) where the newcomer outranks it. -/
def makeRoom (ch : Chan) (cls : TalkClass) (s : State) : State :=
  match displacedBy s.time (s.chan ch).ageStep cls (s.floor ch).queue with
  | none => s
  | some w =>
    answer ch w.party (.denied w.cls .queueFull)
      (modFloor ch (fun f => { f with queue := withoutParty w.party f.queue }) s)

/-- R55 step 2, R62 step 3: the newcomer's entry is placed at the end, after any displacement. -/
def enterQueue (ch : Chan) (p : Party) (cls : TalkClass) (s : State) : State :=
  modFloor ch (fun f => { f with queue := f.queue ++ [newEntry s ch p cls] }) (makeRoom ch cls s)

/-- R55: a request enters the queue and is answered QUEUED, or is refused with QUEUE_FULL. -/
def enqueue (ch : Chan) (p : Party) (cls : TalkClass) (s : State) : State :=
  if queueRefuses s.time (s.chan ch).ageStep cls (s.floor ch).queue then
    answer ch p (.denied cls .queueFull) s
  else answer ch p (.queued cls) (enterQueue ch p cls s)

/-- R63: a party's entry takes the higher class and the party's present binding; the rest of it does not change. -/
def renewEntry (ch : Chan) (p : Party) (cls : TalkClass) (s : State) : State :=
  modFloor ch (fun f => { f with
    queue := f.queue.map (fun e =>
      if e.party == p then { e with cls := higherClass e.cls cls, move := s.bindingOf p } else e) }) s

/-- An entry leaves the queue with a DENY (R65, R67). -/
def denyEntry (ch : Chan) (p : Party) (r : AirReason) (s : State) : State :=
  match entryOf p (s.floor ch).queue with
  | none => s
  | some e =>
    answer ch p (.denied e.cls r) (modFloor ch (fun f => { f with queue := withoutParty p f.queue }) s)

end Sys2Proof.Machine
end

