-- ==== Sys2Proof/Machine/Tone.lean ====
section
/-! DEFINITION. Machine/Tone.lean: patterns, the divider arithmetic and the generators (R162 to R166, R171, R172). -/

namespace Sys2Proof.Machine

/-- R163 step 2: the period count of a clamped frequency, rounded to the nearest, a half upwards. -/
def periodCount (f : Nat) : Nat := (2 * Config.halfToneClock + f) / (2 * f)

/-- R163 step 3: the divider. -/
def toneDivider (f : Nat) : Nat := 4096 - periodCount f

/-- R163 step 4: the reported frequency in centihertz. -/
def reportedFrequency (f : Nat) : Nat := (100 * Config.halfToneClock) / periodCount f

/-- R165: what the output takes at the start of a step. -/
def ToneStep.tone (st : ToneStep) : Tone := ⟨st.divider, st.level⟩

/-- R165: the output of a channel's generator, which feeds the channel's tone line; none in IDLE, where it is silent. -/
def State.toneOutput (s : State) (ch : Chan) : Option Tone := (s.generator ch).map (·.output)

/-- R151, R163, R165: the tone that a port's tone line carries to the air: that of the channel it is connected to; none is
silence, which a step of level 0 is too. -/
def State.toneLine (s : State) (p : Port) : Option Tone :=
  ((s.port p).pins.tone.bind s.toneOutput).filter (fun t => t.level != 0)

/-- R166, R169, R171: a generator enters a mode and begins a pattern from its first step. -/
def startPlay (ch : Chan) (mode : PlayMode) (pat : PatternIx) (s : State) : State :=
  match s.patterns.get pat with
  | some ⟨_, first :: _⟩ =>
    setGenerator ch (some ⟨mode, pat, s.time, 1, 0, after s.time (10 * first.duration), first.tone⟩) s
  | _ => s

/-- R172: a MIX play on the channel is stopped; a SEIZE play is left alone. -/
def stopMix (ch : Chan) (s : State) : State :=
  setGenerator ch ((s.generator ch).filter (fun g => g.mode != .mix)) s

/-- R171: a MIX play starts when the floor is granted, directly or as a held state, and the generator is IDLE; otherwise
the request is dropped. -/
def requestMix (ch : Chan) (pat : PatternIx) (s : State) : State :=
  if (s.floor ch).effective = .granted ∧ (s.generator ch).isNone then startPlay ch .mix pat s else s

/-- R170: a SEIZE play is stopped; its entry's playing flag is cleared and the entry stays in its place. -/
def stopSeize (ch : Chan) (s : State) : State :=
  setGenerator ch none
    (modFloor ch (fun f => { f with alerts := f.alerts.map (fun a => { a with playing := false }) }) s)

end Sys2Proof.Machine
end

