-- ==== Sys2Proof/Machine/Floor.lean ====
section
/-! DEFINITION. Machine/Floor.lean: the Floor Controller (R25 to R52, R58, R59) and the pending alert lists, which act
on floors in the event of an admission (R44, R167 to R170). -/

namespace Sys2Proof.Machine

/-! ## Foreign carrier (R50) -/

/-- R50: the heard carrier is foreign: present while the floor is IDLE, HANG or GRANTED, from no known source or from
a unit that is not the grant's holder. -/
def Floor.isForeign (f : Floor) : Bool :=
  match f.heard with
  | none => false
  | some h =>
    (f.state == .idle || f.state == .hang || f.state == .granted) &&
      (h.source == 0 || (f.grant.map (·.holder)) != some (.unit h.source))

/-- R50: the test, made after a change of the floor. `was` says whether the carrier was foreign before it. DEDUCED (log
entry 9): "becomes" and "stops being" compare the floor before and after the change. -/
def Floor.retest (was : Bool) (now : Time) (f : Floor) : Floor :=
  if !was && f.isForeign then
    { f with
      foreignSince := some (f.foreignSince.getD now)
      quiet := if f.episodeOpen then none else f.quiet }
  else if was && !f.isForeign then
    { f with
      foreignSince := none
      quiet := if f.episodeOpen then some (after now 2000) else f.quiet }
  else f

/-- Change a floor and make the foreign-carrier test on it (R50). -/
def modFloorTested (ch : Chan) (g : Floor → Floor) (s : State) : State :=
  modFloor ch (fun f => (g f).retest f.isForeign s.time) s

/-! ## The grant (R27, R33, R40) -/

/-- R27: the overtalk limit of a class, in seconds; EMERGENCY has none. -/
def ChannelConfig.limit (c : ChannelConfig) : TalkClass → Option Nat
  | .routine => some c.routineLimit
  | .work => some c.workLimit
  | .urgent => some c.urgentLimit
  | .emergency => none

/-- R33 step 5: the party is heard, or is a console, whose grant is taken up at once. -/
def heardAs (heard : Option Heard) : Party → Bool
  | .console _ => true
  | .unit u => match heard with | some h => h.source == u | none => false

/-- R27: the grant record at its issue. -/
def newGrant (c : ChannelConfig) (now : Time) (p : Party) (mv : Option MoveIx) (cls : TalkClass)
    (heard : Option Heard) : Grant where
  holder := p
  move := mv
  cls := cls
  time := now
  takenUp := heardAs heard p
  takeUp := if heardAs heard p then none else some (after now 1500)
  overtalk := (c.limit cls).map (fun n => after now (1000 * n))
  warning := ((c.limit cls).filter (fun n => decide (10 ≤ n))).map (fun n => after now (1000 * n - 5000))
  silent := none
  warned := false

/-- R33 steps 1 and 2: the party's entry leaves the queue and the grant record is filled. A hang that this grant ends
is removed (R39). -/
def fillGrant (ch : Chan) (p : Party) (cls : TalkClass) (s : State) : State :=
  modFloor ch (fun f => { f.takes .granted with
    queue := withoutParty p f.queue
    hang := none
    grant := some (newGrant (s.chan ch) s.time p (s.bindingOf p) cls f.heard) }) s

/-- R33: a party is granted the floor. `was` says whether the carrier was foreign before the event's change (R50). -/
def issueGrant (was : Bool) (ch : Chan) (p : Party) (cls : TalkClass) (s : State) : State :=
  modFloor ch (Floor.retest was s.time)
    ((if cls = .emergency then requestMix ch emergencyPattern else id)
      (setGate ch (some p) (answer ch p (.granted cls) (fillGrant ch p cls s))))

/-- R40 steps 1, 2 and 4: the answer is sent, the grant record goes with its timers, a MIX play is stopped. -/
def dropGrant (ch : Chan) (r : Option AirReason) (s : State) : State :=
  match (s.floor ch).grant with
  | none => s
  | some g =>
    stopMix ch (modFloor ch (fun f => { f with grant := none })
      (match r with
        | none => s
        | some r => answer ch g.holder (.revoked g.cls r) s))

/-- R40 step 3: the gate party becomes none, unless the same event has granted another party. -/
def closeGate (ch : Chan) (s : State) : State := if (s.floor ch).grant.isNone then setGate ch none s else s

/-- R40 steps 1, 2, 4 and 5: a grant ends and the floor takes the next state. The service decision (R58) and the gate
(step 3) are left to the rest of the event. -/
def endGrant (ch : Chan) (r : Option AirReason) (next : FloorState) (s : State) : State :=
  if (s.floor ch).grant.isSome then
    modFloor ch (fun f => (f.takes next).retest (s.floor ch).isForeign s.time) (dropGrant ch r s)
  else s

/-! ## SEIZE play and the service decision (R59, R169) -/

/-- R169: the floor enters ALERT and the head alert begins to play as SEIZE; a MIX play is stopped, the gate closes. -/
def startSeize (ch : Chan) (s : State) : State :=
  match (s.floor ch).alerts with
  | [] => s
  | a :: rest =>
    startPlay ch .seize a.pattern (setGenerator ch none (setGate ch none
      (modFloorTested ch (fun f => { f.takes .alert with
        hang := none
        alerts := { a with playing := true } :: rest }) s)))

/-- R59: the service decision on a channel whose floor is IDLE; in every other state none is made (R58). -/
def serviceDecision (ch : Chan) (s : State) : State :=
  if (s.floor ch).state = .idle then
    if (s.floor ch).alerts.isEmpty then
      match bestEntry s.time (s.chan ch).ageStep (s.floor ch).queue with
      | none => s
      | some e => issueGrant (s.floor ch).isForeign ch e.party e.cls s
    else startSeize ch s
  else s

/-- R40: a grant ends with the channel IDLE, and the service decision is made in the same event. -/
def endGrantIdle (ch : Chan) (r : Option AirReason) (s : State) : State :=
  if (s.floor ch).grant.isSome then closeGate ch (serviceDecision ch (endGrant ch r .idle s)) else s

/-- R39: a hang is removed and the floor goes IDLE; no service decision is made here. -/
def endHang (ch : Chan) (s : State) : State :=
  if (s.floor ch).effective = .hang then
    modFloorTested ch (fun f => { f.takes .idle with hang := none }) s
  else s

/-- R58, R40: the channels that an event has left newly IDLE have their one service decision after every change of it,
and the gate of a grant that the event ended closes where no other party was granted. `before` is the state in which the
event was taken. DESIGN CHOICE (log entry 30): the channels are served in ascending number. -/
def serveFreed (before : State) (s : State) : State :=
  forEach allChans (fun ch t =>
    (if (before.floor ch).grant.isSome then closeGate ch else id)
      (if (before.floor ch).state ≠ .idle then serviceDecision ch t else t)) s

/-! ## Pre-emption and talk requests (R30, R31, R42) -/

/-- R42: a grant by pre-emption, by the floor's state. -/
def preempt (ch : Chan) (p : Party) (s : State) : State :=
  issueGrant (s.floor ch).isForeign ch p .emergency
    (match (s.floor ch).state with
      | .granted => dropGrant ch (some .preempted) s
      | .alert => stopSeize ch s
      | _ => s)

/-- The party holds the channel's grant. -/
def Floor.heldBy (f : Floor) (p : Party) : Bool := (f.grant.map (·.holder)) == some p

/-- R30: a unit with a move matches a hang reserved for that move; a unit without one, and a console, match a hang
that names the party itself. -/
def matchesHang (s : State) (p : Party) (h : Hang) : Bool :=
  match s.bindingOf p with
  | some m => h.reservation == .move m
  | none => h.reservation == .party p

/-- R38, R60: the queue holds an EMERGENCY entry. -/
def hasEmergency (q : List Entry) : Bool := q.any (fun e => e.cls == .emergency)

/-- R30 outcome 3, R55: a request in IDLE enters the queue and the service decision is made; QUEUED is sent only where
that decision left the entry waiting. -/
def requestInIdle (ch : Chan) (p : Party) (cls : TalkClass) (s : State) : State :=
  if queueRefuses s.time (s.chan ch).ageStep cls (s.floor ch).queue then
    answer ch p (.denied cls .queueFull) s
  else
    (fun t => if (entryOf p (t.floor ch).queue).isSome then answer ch p (.queued cls) t else t)
      (serviceDecision ch (enterQueue ch p cls s))

/-- R30: the outcome of a taken talk request of class ROUTINE, WORK or URGENT. In TRANSFER, CLOSED and OFF no request
arrives (R29). -/
def talkOutcome (ch : Chan) (p : Party) (cls : TalkClass) (s : State) : State :=
  if (s.floor ch).heldBy p then s
  else
    match entryOf p (s.floor ch).queue with
    | some e => answer ch p (.queued (higherClass e.cls cls)) (renewEntry ch p cls s)
    | none =>
      match (s.floor ch).state with
      | .idle => requestInIdle ch p cls s
      | .hang =>
        if (s.floor ch).hang.any (matchesHang s p) ∧ hasEmergency (s.floor ch).queue = false then
          issueGrant (s.floor ch).isForeign ch p cls s
        else enqueue ch p cls s
      | .granted | .alert => enqueue ch p cls s
      | .transfer | .closed | .off => s

/-- R31 outcome 2: the holder's grant is raised to EMERGENCY. -/
def raiseGrant (ch : Chan) (p : Party) (s : State) : State :=
  requestMix ch emergencyPattern (answer ch p (.granted .emergency)
    (modFloor ch (fun f => { f with
      grant := f.grant.map (fun g => { g with cls := .emergency, overtalk := none, warning := none }) }) s))

/-- R31, R42: the floor can be pre-empted: IDLE, HANG, ALERT, or GRANTED to a holder of another class. -/
def Floor.preemptible (f : Floor) : Bool :=
  match f.state with
  | .idle | .hang | .alert => true
  | .granted => (f.grant.map (·.cls)) != some .emergency
  | .transfer | .closed | .off => false

/-- R31: the outcome of a taken emergency request. -/
def emergencyOutcome (ch : Chan) (p : Party) (s : State) : State :=
  match (s.floor ch).state with
  | .transfer | .closed | .off => s
  | .idle | .hang | .alert | .granted =>
    if (s.floor ch).heldBy p then
      if (s.floor ch).grant.map (·.cls) = some .emergency then s else raiseGrant ch p s
    else if (s.floor ch).preemptible then preempt ch p (renewEntry ch p .emergency s)
    else
      match entryOf p (s.floor ch).queue with
      | some _ => answer ch p (.queued .emergency) (renewEntry ch p .emergency s)
      | none => enqueue ch p .emergency s

/-- R29, R32: the party is in the channel's lockout list. -/
def Floor.lockedOut (f : Floor) (p : Party) : Bool := f.lockouts.any (fun l => l.party == p)

/-! ## Ends of a grant (R38, R41) -/

/-- R38: what a TALK_END of the holder leaves: IDLE where an EMERGENCY entry or a PREEMPT alert waits or HANG_MS is 0,
else HANG. -/
def hangFollows (c : ChannelConfig) (f : Floor) : Bool :=
  !hasEmergency f.queue && !f.alerts.any (fun a => a.mode == .preempt) && decide (0 < c.hangMs)

/-- R38: what the hang is reserved for: the grant's move, or the holder where the grant has none. -/
def Grant.reservation (g : Grant) : Reservation :=
  match g.move with
  | some m => .move m
  | none => .party g.holder

/-- R38: the holder's TALK_END. -/
def endTalk (ch : Chan) (s : State) : State :=
  match (s.floor ch).grant with
  | none => s
  | some g =>
    if hangFollows (s.chan ch) (s.floor ch) then
      closeGate ch (modFloor ch (fun f => { f with hang := some ⟨g.reservation, after s.time (s.chan ch).hangMs⟩ })
        (endGrant ch none .hang s))
    else endGrantIdle ch none s

/-- R38: a TALK_END of a party on a channel: from the holder, from a party with an entry, or ignored. -/
def talkEndBy (ch : Chan) (p : Party) (s : State) : State :=
  if (s.floor ch).heldBy p then endTalk ch s
  else modFloor ch (fun f => { f with queue := withoutParty p f.queue }) s

/-- The earliest expiry of a list of expiries as seen from `now`: the one with the greatest age, and of equals the
first (R41, R111). Expiries not yet reached lie ahead, so ages are compared from the latest possible expiry. -/
def earliestIndex (now : Time) (span : Nat) (expiries : List Time) : Nat :=
  (expiries.foldl (fun (acc : Nat × Nat × Nat) t =>
    if acc.2.2 < elapsed (after now span) t then (acc.1 + 1, acc.1, elapsed (after now span) t)
    else (acc.1 + 1, acc.2)) (0, 0, 0)).2.1

/-- R41: a party enters a lockout list: its own entry's expiry is replaced, or it is added, at a full list in place of
the entry with the earliest expiry. -/
def lockOut (now : Time) (p : Party) (ls : List Lockout) : List Lockout :=
  if ls.any (fun l => l.party == p) then
    ls.map (fun l => if l.party == p then ⟨p, after now 10000⟩ else l)
  else if ls.length < Config.lockoutRoom then ls ++ [⟨p, after now 10000⟩]
  else ls.eraseIdx (earliestIndex now 10000 (ls.map (·.expiry))) ++ [⟨p, after now 10000⟩]

/-! ## Claims (R45, R46) -/

/-- R45: a party's claim on one channel is cancelled; no service decision is made here (R58). -/
def cancelClaim (ch : Chan) (r : AirReason) (p : Party) (s : State) : State :=
  if (s.floor ch).heldBy p then endGrant ch (some r) .idle s else denyEntry ch p r s

/-- R39, R46: the hangs with a reservation end, on the channels named. -/
def endHangsFor (r : Reservation) (chs : List Chan) (s : State) : State :=
  forEach chs (fun ch t =>
    if (t.floor ch).hang.any (fun h => h.reservation == r) then endHang ch t else t) s

/-! ## Alerts (R44, R167, R168) -/

/-- R44: the effect on the floor of a PREEMPT alert admitted to its list. -/
def preemptAlert (ch : Chan) (s : State) : State :=
  match (s.floor ch).state with
  | .idle => serviceDecision ch s
  | .granted =>
    if (s.floor ch).grant.map (·.cls) = some .emergency then s
    else startSeize ch (endGrant ch (some .alert) .alert s)
  | .hang => startSeize ch s
  | .alert | .transfer | .closed | .off => s

/-- R167 case 1: a waiting entry of the same pattern and tag that is not playing. -/
def Alert.sameRequest (new old : Alert) : Bool :=
  !old.playing && old.pattern == new.pattern && old.tag == new.tag

/-- R167 case 3: an entry that a PREEMPT newcomer can displace. -/
def Alert.displaceable (a : Alert) : Bool := a.mode == .nextFree && !a.playing

/-- R167: what becomes of a request for admission to a list. -/
def alertFate (new : Alert) (l : List Alert) : AlertFate :=
  if l.any new.sameRequest then .collapsed
  else if l.length < Config.alertRoom then .admitted
  else if new.mode = .preempt ∧ l.any Alert.displaceable then .admitted
  else .notAdmitted

/-- R167 case 3: the newest displaceable entry of a full list leaves it, and a console's is reported to it by
ALERT_DISCARDED. -/
def displaceAlert (ch : Chan) (s : State) : State :=
  if (s.floor ch).alerts.length < Config.alertRoom then s
  else
    match (s.floor ch).alerts.reverse.find? Alert.displaceable with
    | none => s
    | some a =>
      (match a.requester with
        | .console c => notify c (.alertDiscarded ch a.pattern)
        | .supervision => id)
        (modFloor ch (fun f => { f with
          alerts := (f.alerts.reverse.eraseP Alert.displaceable).reverse }) s)

/-- R167, R44: a request for admission, with its effect on the floor in the same event. A collapse does not act on the
floor. -/
def requestAlert (ch : Chan) (new : Alert) (s : State) : State :=
  if alertFate new (s.floor ch).alerts = .admitted then
    (if new.mode = .preempt then preemptAlert ch else serviceDecision ch)
      (modFloor ch (fun f => { f with alerts := f.alerts ++ [new] }) (displaceAlert ch s))
  else s

/-- R168: every entry tagged with a move whose playing flag is clear leaves a list. -/
def discardAlerts (ch : Chan) (m : MoveIx) (s : State) : State :=
  modFloor ch (fun f => { f with alerts := f.alerts.filter (fun a => a.playing || a.tag != some m) }) s

/-- R169: the SEIZE play of a channel completes: the entry leaves the list and the floor is given back. -/
def completeSeize (ch : Chan) (s : State) : State :=
  serviceDecision ch (modFloorTested ch (fun f =>
    { (if f.effective = .alert then f.takes .idle else f) with alerts := f.alerts.eraseP (·.playing) }) s)

/-- R166: the step that follows the present one, with its repeat; none when the play completes. -/
def Play.next (pat : Pattern) (g : Play) : Option (Nat × Nat × ToneStep) :=
  match pat.steps[g.step + 1]? with
  | some st => some (g.rep, g.step + 1, st)
  | none =>
    if g.rep < pat.repeatCount then pat.steps.head?.map (fun st => (g.rep + 1, 0, st)) else none

/-- R165, R166: a step end time is reached: the next step begins at that time, and the output takes its divider and level,
or the play completes. -/
def stepEnds (ch : Chan) (g : Play) (s : State) : State :=
  match (s.patterns.get g.pattern).bind g.next with
  | some (rep, step, st) =>
    setGenerator ch (some { g with
      rep := rep, step := step, stepEnd := after g.stepEnd (10 * st.duration), output := st.tone }) s
  | none =>
    match g.mode with
    | .mix => setGenerator ch none s
    | .seize => completeSeize ch (setGenerator ch none s)

/-! ## Carrier (R35, R36) -/

/-- R36: a source of 0xFFF0 to 0xFFFF is taken as 0x0000. -/
def carrierSource (u : UnitId) : UnitId := if 0xFFF0 ≤ u.toNat then 0 else u

/-- R36: the heard carrier after a report. -/
def heardAfter (now : Time) (present : Bool) (src : UnitId) (old : Option Heard) : Option Heard :=
  if present then
    match old with
    | some h => if h.source = carrierSource src then some h else some ⟨carrierSource src, now⟩
    | none => some ⟨carrierSource src, now⟩
  else none

/-- The heard carrier is the unit holder's (R36). -/
def Grant.isHeard (g : Grant) (heard : Option Heard) : Bool :=
  match g.holder, heard with
  | .unit u, some h => h.source == u
  | _, _ => false

/-- R35, R36: a grant after the heard carrier changed from `old` to `new`. -/
def Grant.hears (now : Time) (old new : Option Heard) (g : Grant) : Grant :=
  if g.isHeard new then
    if g.takenUp then { g with silent := none } else { g with takenUp := true, takeUp := none }
  else if g.isHeard old ∧ g.takenUp then { g with silent := some (after now 5000) }
  else g

/-- R36: a carrier report on a floor. -/
def Floor.hears (now : Time) (present : Bool) (src : UnitId) (f : Floor) : Floor :=
  { f with
    heard := heardAfter now present src f.heard
    grant := f.grant.map (Grant.hears now f.heard (heardAfter now present src f.heard)) }

/-- R47, R148: the port that heard the channel is lost: the heard carrier becomes absent, with a silent-carrier deadline
where R36 sets one, and the episode is closed. -/
def Floor.losesCarrier (now : Time) (f : Floor) : Floor :=
  { f with
    heard := none
    grant := f.grant.map (Grant.hears now f.heard none)
    foreignSince := none
    episodeOpen := false
    quiet := none }

/-! ## Transfer and closure (R47 to R49) -/

/-- R47: the floor enters TRANSFER with its state as the held state. -/
def enterTransfer (ch : Chan) (s : State) : State :=
  modFloor ch (fun f =>
    match f.state with
    | .idle | .granted | .hang | .alert =>
      { f.losesCarrier s.time with state := .transfer, held := some f.state }
    | .off | .transfer | .closed => f) s

/-- R25, R49, R145, R146: a floor that has no port enters TRANSFER with held state IDLE. -/
def openTransfer (ch : Chan) (s : State) : State :=
  modFloor ch (fun f => if f.state = .off ∨ f.state = .closed then { f with state := .transfer, held := some .idle } else f) s

/-- R48: the tuned spare carries the channel: the floor takes its held state and serves, plays or pre-empts. -/
def leaveTransfer (ch : Chan) (s : State) : State :=
  if (s.floor ch).state = .transfer then
    (fun t =>
      match (t.floor ch).state with
      | .idle => serviceDecision ch t
      | .granted | .hang => if (t.floor ch).alerts.any (fun a => a.mode == .preempt) then preemptAlert ch t else t
      | .off | .alert | .transfer | .closed => t)
      (modFloorTested ch (fun f => { f with state := f.held.getD .idle, held := none }) s)
  else s

/-- R49 steps 1 and 2: each console that held the floor or waited for it is told of the loss; units are sent nothing. -/
def tellLost (ch : Chan) (f : Floor) (s : State) : State :=
  forEach f.queue (fun e t =>
    match e.party with
    | .console c => notify c (.talkDenied ch e.cls .channelLost) t
    | .unit _ => t)
    (match f.grant with
      | some ⟨.console c, _, cls, _, _, _, _, _, _, _⟩ => notify c (.talkRevoked ch cls .channelLost) s
      | _ => s)

/-- R49: the floor enters CLOSED. -/
def closeFloor (ch : Chan) (s : State) : State :=
  (if (s.floor ch).grant.isSome ∨ (s.floor ch).queue ≠ [] then
      broadcast (.floorCleared ch ((s.floor ch).grant.map (·.holder)) (s.floor ch).queue)
    else id)
    (setGate ch none
      (modFloor ch (fun f => { f with
        state := .closed
        held := none
        grant := none
        queue := []
        hang := none
        heard := none
        foreignSince := none
        episodeOpen := false
        quiet := none })
        (stopSeize ch (tellLost ch (s.floor ch) s))))

end Sys2Proof.Machine
end

