-- ==== Sys2Proof/Machine/Register.lean ====
section
/-! DEFINITION. Machine/Register.lean: the Unit Register (R112 to R121): last heard, removal, eviction, aging. -/

namespace Sys2Proof.Machine

/-- R118: the last-heard refresh of a registered unit. -/
def refresh (u : UnitId) (s : State) : State := modUnit u (fun r => { r with lastHeard := s.time }) s

/-- R114: a record is removed: the unit's claims on every channel are cancelled with UNREGISTERED, a hang that names it as
a party ends, and the record goes (`keep` leaves it, to be overwritten in its place). The service decisions that follow
are made by the caller, once for the event (R58). -/
def removeRecord (keep : Bool) (u : UnitId) (s : State) : State :=
  (fun t => if keep then t else { t with units := t.units.filter (fun r => r.unit != u) })
    (endHangsFor (.party (.unit u)) allChans
      (forEach allChans (fun ch => cancelClaim ch .unregistered (.unit u)) s))

/-- R113: `a` goes before `b`: earlier last heard, then earlier admitted, then lower unit ID. -/
def evictsBefore (now : Time) (a b : UnitRec) : Bool :=
  if elapsed now a.lastHeard ≠ elapsed now b.lastHeard then decide (elapsed now b.lastHeard < elapsed now a.lastHeard)
  else if elapsed now a.admitted ≠ elapsed now b.admitted then decide (elapsed now b.admitted < elapsed now a.admitted)
  else decide (a.unit.toNat < b.unit.toNat)

/-- R113: the unbound record that is evicted. -/
def evicted (now : Time) (us : List UnitRec) : Option UnitRec :=
  us.foldl (fun b r =>
    if r.binding.isSome then b
    else match b with
      | none => some r
      | some x => if evictsBefore now r x then some r else some x) none

/-- R119: the time from which a record ages: the later of last heard and unbound since. -/
def UnitRec.agesFrom (now : Time) (r : UnitRec) : Time :=
  if elapsed now r.lastHeard ≤ elapsed now r.unboundSince then r.lastHeard else r.unboundSince

/-- R119: the aging expiry; a bound record has none. -/
def UnitRec.agingExpiry (now : Time) (ageOut : Nat) (r : UnitRec) : Option Time :=
  if r.binding.isSome then none else some (after (r.agesFrom now) (60000 * ageOut))

/-- R119: an unbound record has reached its aging expiry. -/
def UnitRec.aged (now : Time) (ageOut : Nat) (r : UnitRec) : Bool :=
  r.binding.isNone && decide (60000 * ageOut ≤ elapsed now (r.agesFrom now))

/-- R119: a record ages out and UNIT_GONE goes to the UNIT subscribers. -/
def ageOutUnit (u : UnitId) (s : State) : State :=
  match s.unit u with
  | none => s
  | some r => broadcast (.unitGone u r.lastHeard) (removeRecord false u s)

/-- Insert a record into a list in ascending order of unit ID. -/
def insertUnit (r : UnitRec) : List UnitRec → List UnitRec
  | [] => [r]
  | x :: xs => if r.unit.toNat ≤ x.unit.toNat then r :: x :: xs else x :: insertUnit r xs

/-- Records in ascending order of unit ID (R119, R120). -/
def byUnit (us : List UnitRec) : List UnitRec := us.foldr insertUnit []

/-- R119: every unbound record already expired under the AGE_OUT in force is removed, in ascending order of unit ID. -/
def ageOutAll (s : State) : State :=
  forEach ((byUnit s.units).filter (fun r => r.aged s.time s.globals.ageOut)) (fun r => ageOutUnit r.unit) s

/-- R115: a register time that comes to lie more than 2^31 - 1 ms in the past is held at that age. -/
def heldTime (now t : Time) : Time := if 2147483647 < elapsed now t then now - 2147483647#32 else t

/-- R115: the three times of a record after the counter has risen. -/
def UnitRec.held (now : Time) (r : UnitRec) : UnitRec :=
  { r with
    admitted := heldTime now r.admitted
    lastHeard := heldTime now r.lastHeard
    unboundSince := heldTime now r.unboundSince }

end Sys2Proof.Machine
end

