-- ==== Sys2Proof/Machine/Supervision.lean ====
section
/-! DEFINITION. Machine/Supervision.lean: the Supervision Monitor's operations on move records (R72 to R95) that
commands, frames, expiries and channel closures share. -/

namespace Sys2Proof.Machine

/-- R1, R2: a move is an RC move exactly when it has a controlling handset. -/
def Move.isRC (m : Move) : Bool := m.controller.isSome

/-- R2: the members in the order locomotive, then handsets in list order. -/
def Move.members (m : Move) : List Member := m.loco :: m.handsets

/-- The unit IDs of the members, in that order. -/
def Move.units (m : Move) : List UnitId := m.members.map (·.unit)

/-- A unit's member entry in a move. -/
def Move.member (m : Move) (u : UnitId) : Option Member := m.members.find? (fun e => e.unit == u)

/-- Change the member entry of a unit. -/
def Move.modMember (u : UnitId) (g : Member → Member) (m : Move) : Move :=
  { m with
    loco := if m.loco.unit == u then g m.loco else m.loco
    handsets := m.handsets.map (fun e => if e.unit == u then g e else e) }

/-- The move of a sending unit: its binding, with the occupied record (R73). -/
def State.moveOf (s : State) (u : UnitId) : Option (MoveIx × Move) :=
  match s.bindingOf (.unit u) with
  | none => none
  | some i => (s.move i).map (fun m => (i, m))

/-- R72: the length of the closed part of a window. -/
def Move.closedPart (m : Move) : Nat := m.interval / 4

/-- R74: the long open window begins. -/
def Move.longWindow (now : Time) (m : Move) : Move :=
  { m with windowStart := some now, closedEnd := none, deadline := some (after now (4 * m.interval)) }

/-- R9, R10, R74, R90: a move becomes ACTIVE; supervision of an RC move begins with the long open window. -/
def Move.becomesActive (now : Time) (m : Move) : Move :=
  if m.isRC then
    { m.longWindow now with state := .active, formingDeadline := none, cleanStart := some now }
  else { m with state := .active, formingDeadline := none }

/-- R75: an accepted presence opens a new window. -/
def Move.newWindow (now : Time) (m : Move) : Move :=
  { m with
    windowStart := some now
    closedEnd := some (after now m.closedPart)
    deadline := some (after now m.interval) }

/-- R95: a pending handover is removed and its cancellation reported to the operating console. -/
def cancelHandover (i : MoveIx) (cause : HandoverCause) (s : State) : State :=
  match s.move i with
  | none => s
  | some m =>
    match m.handover with
    | none => s
    | some h => notify m.console (.handoverCancelled i h.target cause) (setMove i (some { m with handover := none }) s)

/-- R23, R88: STOP_UNDELIVERABLE where the locomotive's current channel is CLOSED. -/
def reportUndeliverable (i : MoveIx) (m : Move) (s : State) : State :=
  if (s.floor (s.currentOf m.loco.unit)).state = .closed then
    notify m.console (.stopUndeliverable i (s.currentOf m.loco.unit)) s
  else s

/-- R79 step 1, R80: the fault count after a fault; a CREW_STOP is not counted. -/
def Move.countAfter (k : FaultKind) (m : Move) : Nat := if k = .crewStop then m.faultCount else m.faultCount + 1

/-- R80: suspension pending after a fault. -/
def Move.pendingAfter (k : FaultKind) (m : Move) : Bool :=
  m.suspensionPending || (k != .crewStop && m.countAfter k == m.faultLimit)

/-- R79 steps 1 to 4: the record after a fault. -/
def Move.faulted (now : Time) (k : FaultKind) (m : Move) : Move :=
  { m with
    state := .stopHeld
    faultCount := m.countAfter k
    suspensionPending := m.pendingAfter k
    lastFault := some k
    windowStart := none
    closedEnd := none
    deadline := none
    holdStart := some now
    stopAckSeen := false
    presenceNoted := false
    repeats := 0
    unconfirmedSent := false }

/-- R79 step 6: the STOP alert of a move. -/
def stopAlert (now : Time) (i : MoveIx) : Alert := ⟨stopPattern, .preempt, some i, .supervision, now, false⟩

/-- R79 steps 6 to 8 and R88, after the STOP_ORDER: the alert, the handover, the notices. The fate of the alert is judged
before the alert acts. -/
def reportFault (i : MoveIx) (k : FaultKind) (m : Move) (s : State) : State :=
  reportUndeliverable i m
    (notify m.console
      (.supervisionFault i k (m.countAfter k) (m.pendingAfter k)
        (alertFate (stopAlert s.time i) (s.floor m.channel).alerts))
      (cancelHandover i .fault (requestAlert m.channel (stopAlert s.time i) s)))

/-- R79: a fault is raised for a move. -/
def raiseFault (i : MoveIx) (k : FaultKind) (s : State) : State :=
  match s.move i with
  | none => s
  | some m =>
    reportFault i k m (orderTo m.loco.unit (.stopOrder i) (setMove i (some (m.faulted s.time k)) s))

/-- R82: a crew stop acts by the move's state; in FORMING and RELEASING it is disregarded. -/
def crewStop (i : MoveIx) (s : State) : State :=
  match s.move i with
  | none => s
  | some m =>
    if m.isRC then
      match m.state with
      | .active | .stopHeld | .recovery | .suspended => raiseFault i .crewStop s
      | .forming | .releasing => s
    else s

/-- R89: the offer cycle of RECOVERY begins with a RESUME_OFFER to the controlling handset. -/
def startOffers (i : MoveIx) (s : State) : State :=
  match s.move i with
  | none => s
  | some m =>
    (match m.controller with
      | some u => orderTo u (.resumeOffer i)
      | none => id)
      (setMove i (some { m with windowStart := some s.time, closedEnd := none, deadline := none, repeats := 0 }) s)

/-- R86, R89, R91: a stop hold ends into SUSPENDED or RECOVERY. -/
def endHold (i : MoveIx) (s : State) : State :=
  match s.move i with
  | none => s
  | some m =>
    if m.suspensionPending then
      notify m.console (.moveSuspended i m.faultCount m.lastFault m.presenceNoted)
        (setMove i (some { m with state := .suspended }) s)
    else
      notify m.console (.moveRecovery i m.presenceNoted)
        (startOffers i (setMove i (some { m with state := .recovery }) s))

/-- R86: the minimum hold of 3000 ms has run. -/
def Move.minimumRun (now : Time) (m : Move) : Bool :=
  match m.holdStart with
  | none => false
  | some t => decide (3000 ≤ elapsed now t)

/-- R2: the two controllers of a change of control, in the order of the move's members. -/
def Move.controlOrder (former new : UnitId) (m : Move) : List UnitId :=
  if m.units.idxOf new < m.units.idxOf former then [new, former] else [former, new]

/-- R2, R15, R93: control passes to a handset: CONTROL_ASSIGNED goes to the former controller and to the new one, in member
order. -/
def assignControl (i : MoveIx) (m : Move) (former new : UnitId) (s : State) : State :=
  forEach (m.controlOrder former new) (fun u => orderTo u (.controlAssigned i new)) s

/-- R88, R23: a channel has closed: every move whose STOP_ORDERs it was to carry is reported, in ascending move number
(DESIGN CHOICE, log entry 12). -/
def tellClosure (ch : Chan) (s : State) : State :=
  forEach allMoves (fun i t =>
    match t.move i with
    | none => t
    | some m =>
      if t.currentOf m.loco.unit = ch ∧
          ((m.state = .stopHeld ∧ m.stopAckSeen = false) ∨ m.state = .releasing) then
        notify m.console (.stopUndeliverable i ch) t
      else t) s

/-- The time of the next repetition of a move: its base plus one period for each repetition taken and one more
(R22, R83, R89). -/
def Move.nextRepeat (base : Time) (period : Nat) (m : Move) : Time := after base (period * (m.repeats + 1))

end Sys2Proof.Machine
end

