-- ==== Sys2Proof/Machine/Console.lean ====
section
/-! DEFINITION. Machine/Console.lean: what every event shares (the RESET line, the transmitters), the console links'
receive framers and transmitters (R174 to R182), and how a command is answered (R178, R179). -/

namespace Sys2Proof.Machine

/-! ## Sending (R180) -/

/-- R180: an idle transmitter, or one that has finished a frame, takes the next: the further frames of the message
being sent (R195), else the oldest response, else the oldest notice, else it goes idle. -/
def Link.takeNext (l : Link) : Link :=
  match l.tx with
  | some ⟨_, f :: rest⟩ => { l with tx := some ⟨f, rest⟩ }
  | _ =>
    match l.responses with
    | r :: rs =>
      match r.frames with
      | f :: rest => { l with responses := rs, tx := some ⟨f, rest⟩ }
      | [] => { l with responses := rs, tx := none }
    | [] =>
      match l.notices with
      | n :: ns =>
        match n.frames with
        | f :: rest => { l with notices := ns, tx := some ⟨f, rest⟩ }
        | [] => { l with notices := ns, tx := none }
      | [] => { l with tx := none }

/-- R180: an idle transmitter takes the next frame when something waits. -/
def Link.settle (l : Link) : Link := if l.tx.isNone then l.takeNext else l

/-- R180: at the end of an event every idle transmitter takes what waits (log entry 7). -/
def settle (s : State) : State := { s with links := s.links.each Link.settle }

/-- R187: while the RESET line is asserted the part takes nothing and runs no timer; else the event has its effect, and
the idle transmitters take what it has left waiting. -/
def event (f : State → State) (s : State) : Host.Outcome State Fault Refusal :=
  if s.resetLine then .next s else .next (settle (f s))

/-- R192: an event of a timer of the part: it has its effect where the timer is set and its time is reached, and is gone
otherwise (log entry 10). -/
def expiry (timer : Option Time) (f : State → State) (s : State) : State :=
  if reachedOpt s.time timer then f s else s

/-- R82 and the like: do `f` with what an optional thing holds, or nothing. -/
def whenSome {α : Type} (x : Option α) (f : α → State → State) (s : State) : State :=
  match x with
  | none => s
  | some a => f a s

/-! ## Commands (R178, R179) -/

/-- What a command does: its answer and the state it leaves. -/
abbrev Cmd := State → Answer × State

/-- R179: REFUSED with a reason and no detail; nothing changes. DEDUCED (log entry 21): so is refused a command that concerns a
unit, where its rule does not say that the response names it. -/
def refuse (r : Reason) : Cmd := fun s => (.refused r 0, s)
/-- REFUSED with a detail (12.4). -/
def refuseFor (r : Reason) (detail : BitVec 16) : Cmd := fun s => (.refused r detail, s)
/-- R179: ACCEPTED with result fields, after an effect. -/
def accept (clamped : Bool) (res : Result) (f : State → State) : Cmd := fun s => (.accepted clamped res, f s)
/-- R179: ACCEPTED with no result and no clamping, after an effect. -/
def done (f : State → State) : Cmd := accept false .none f
/-- A check of the owning chapter: the first that fails refuses. -/
def check (ok : Bool) (r : Reason) (c : Cmd) : Cmd := if ok then c else refuse r
/-- A check that also gives what the rest of the command needs. -/
def need {α : Type} (x : Option α) (r : Reason) (c : α → Cmd) : Cmd :=
  match x with
  | none => refuse r
  | some a => c a
/-- A check whose refusal names the first offending unit (R4, R16). -/
def noneOf (bad : Option UnitId) (r : Reason) (c : Cmd) : Cmd :=
  match bad with
  | none => c
  | some u => refuseFor r u
/-- A command that looks at the state before it decides. -/
def look (f : State → Cmd) : Cmd := fun s => f s s

/-- R176, R178: a response enters a link's response queue. -/
def respond (link : Console) (r : Response) (s : State) : State :=
  modLink link (fun l => { l with responses := l.responses ++ [r] }) s

/-- The framer returns to HUNT (R175, R176). -/
def hunt (link : Console) (s : State) : State := modLink link (fun l => { l with framer := none }) s

/-- R178: a checked frame is taken as a command: the owning block acts, and its answer enters the response queue. -/
def answerFrame (link : Console) (code : Byte) (c : Cmd) (s : State) : State :=
  respond link ⟨some code, (c (hunt link s)).1⟩ (c (hunt link s)).2

/-- A command row: the completion of its checked frame on a link (log entry 5). Where 8 responses wait the frame was
never opened (R175, R177), and nothing happens. -/
def takeCommand (link : Console) (code : Byte) (c : Cmd) (s : State) : State :=
  if (s.link link).responses.length < Config.responseRoom then answerFrame link code c s else s

/-! ## Receiving (R175, R176) -/

/-- R176: a frame is discarded. -/
def discardFrame (link : Console) (cause : RejectCause) (s : State) : State :=
  respond link ⟨none, .frameReject cause⟩ (hunt link s)

/-- R194: the last two bytes are the CRC of the bytes before them (the length, the type and the body). -/
def crcMatches (bytes : List Byte) : Bool :=
  bytes.drop (bytes.length - 2) == e16 (crc (bytes.take (bytes.length - 2))).toNat

/-- R175: the framer after a stored byte; the gap deadline moves on. -/
def keepFrame (link : Console) (r : Reception) (s : State) : State :=
  modLink link (fun l => { l with framer := some { r with gap := after s.time 21 } }) s

/-- R175: a frame that holds the length byte, the declared count and two CRC bytes is complete. -/
def Reception.complete (r : Reception) : Bool :=
  match r.declared with
  | none => false
  | some n => r.bytes.length == n.toNat + 3

/-- R175: a byte stored in a frame: its first is the length. -/
def Reception.store (b : Byte) (r : Reception) : Reception :=
  { r with bytes := r.bytes ++ [b], declared := some (r.declared.getD b) }

/-- R175: the declared length is 1 to 120. -/
def Reception.lengthOk (r : Reception) : Bool :=
  match r.declared with
  | none => true
  | some n => decide (1 ≤ n.toNat) && decide (n.toNat ≤ 120)

/-- R175: the framer opens a frame in HUNT. -/
def openFrame (link : Console) (s : State) : State := keepFrame link ⟨[], none, 0⟩ s

/-- The type byte of a complete frame. -/
def frameType (bytes : List Byte) : Byte := (bytes[1]?).getD 0
/-- The body of a complete frame: after the length and the type, before the CRC. -/
def frameBody (bytes : List Byte) : List Byte := (bytes.take (bytes.length - 2)).drop 2

/-- R175: a byte with a valid stop bit in IN_FRAME. `run` carries out the command of a complete frame. -/
def storeByte (run : Byte → List Byte → Cmd) (link : Console) (r : Reception) (s : State) : State :=
  if r.lengthOk then
    if r.complete then
      if crcMatches r.bytes then answerFrame link (frameType r.bytes) (run (frameType r.bytes) (frameBody r.bytes)) s
      else discardFrame link .crc s
    else keepFrame link r s
  else discardFrame link .length s

/-- R175, R176: the receive framer takes a byte. DESIGN CHOICE (log entry 33): in IN_FRAME the stop bit is judged first, so a
byte without a valid one is discarded with CHARACTER where the LENGTH or the CRC row of R176 fits it too. -/
def receive (run : Byte → List Byte → Cmd) (link : Console) (b : Byte) (stopBit : Bool) (s : State) : State :=
  match (s.link link).framer with
  | none =>
    if stopBit ∧ b = 0xA5#8 ∧ (s.link link).responses.length < Config.responseRoom then openFrame link s else s
  | some r => if stopBit then storeByte run link (r.store b) s else discardFrame link .character s

/-! ## Events of the links -/

/-- GAP_DEADLINE (R175, R176). -/
def execGapDeadline (link : Console) : State → Host.Outcome State Fault Refusal :=
  event (fun s => expiry ((s.link link).framer.map (·.gap)) (discardFrame link .gap) s)

/-- TRANSMIT_DONE (R180, R195): the transmitter finishes the frame it sends; an idle one finishes nothing. -/
def execTransmitDone (link : Console) : State → Host.Outcome State Fault Refusal :=
  event (fun s => modLink link (fun l => if l.tx.isSome then l.takeNext else l) s)

/-- UNKNOWN_COMMAND (R178 check 1). -/
def execUnknownCommand (link : Console) (code : Byte) : State → Host.Outcome State Fault Refusal :=
  event (takeCommand link code (refuse .unknownCommand))

/-! ## Commands of the Console Interface and the Time Base -/

/-- SUBSCRIBE (R183): bits 6 and 7 are no category. -/
def cmdSubscribe (link : Console) (mask : Byte) : Cmd :=
  check (decide (mask.toNat < 64)) .badCategory
    (accept false (.categories (mask.setWidth 6)) (modLink link (fun l => { l with subs := mask.setWidth 6 })))

/-- READ_CONDITIONS (R185): the link's latches are reported, then cleared. -/
def cmdReadConditions (link : Console) : Cmd := look fun s =>
  accept false
    (.conditions (s.link link).latches (s.link link).notices.length (s.link link).nextNumber)
    (modLink link (fun l => { l with latches := Latches.clear }))

/-- READ_TIME (R192). -/
def cmdReadTime : Cmd := look fun s => accept false (.clock s.time s.part) id

/-- SUBSCRIBE. -/
def execSubscribe (link : Console) (mask : Byte) : State → Host.Outcome State Fault Refusal :=
  event (takeCommand link 0x38#8 (cmdSubscribe link mask))
/-- READ_CONDITIONS. -/
def execReadConditions (link : Console) : State → Host.Outcome State Fault Refusal :=
  event (takeCommand link 0x36#8 (cmdReadConditions link))
/-- READ_TIME. -/
def execReadTime (link : Console) : State → Host.Outcome State Fault Refusal :=
  event (takeCommand link 0x37#8 cmdReadTime)

end Sys2Proof.Machine
end

