-- ==== Sys2Proof/Machine/Uplink.lean ====
section
/-! DEFINITION. Machine/Uplink.lean: the uplink dispatch (R132 to R134) and the frames it discards. -/

namespace Sys2Proof.Machine

/-- R132, R133 steps 3 and 4: an air frame of a known kind, other than CAPABILITY and ECHO test data. In CONFIG, from a
port that carries no channel, or from a source with no register record it is discarded; else the source's last-heard time
is refreshed and the owning block takes the frame with its channel of arrival. -/
def arrives (p : Port) (src : UnitId) (f : Chan → State → State) (s : State) : State :=
  if s.part = .config then s
  else
    match s.carriedBy p with
    | none => s
    | some ch => if isUnitId src ∧ (s.unit src).isSome then f ch (refresh src s) else s

/-- UNKNOWN_AIR_FRAME (R133 step 1, R196): a frame of no uplink kind, or of a length that does not fit its kind, is
discarded in every state of the port and of the part. -/
def execUnknownAirFrame (_p : Port) (_bytes : List Byte) : State → Host.Outcome State Fault Refusal := event id

/-- UNDEFINED_PORT_MESSAGE (R196): discarded. -/
def execUndefinedPortMessage (_p : Port) (_bytes : List Byte) : State → Host.Outcome State Fault Refusal := event id

end Sys2Proof.Machine
end

