-- ==== Sys2Proof/Machine/Moves.lean ====
section
/-! DEFINITION. Machine/Moves.lean: the Move Table (R1 to R24): the move commands, JOINED, the deadlines of forming,
joining, re-channelling and releasing. -/

namespace Sys2Proof.Machine

/-! ## Shared parts of the move events -/

/-- R116: a unit's binding becomes a move. -/
def bindUnit (i : MoveIx) (u : UnitId) (s : State) : State := modUnit u (fun r => { r with binding := some i }) s

/-- R116: a unit's binding becomes none and its current channel CH0. -/
def unbindUnit (u : UnitId) (s : State) : State :=
  modUnit u (fun r => { r with binding := none, current := 0, unboundSince := s.time }) s

/-- R6, R11: a new member entry, whose first JOIN_ORDER is queued in the same event. -/
def newMember (now : Time) (u : UnitId) : Member := ⟨u, false, 1, now, none⟩

/-- R7: a JOIN_ORDER to each of the units, on its current channel. -/
def orderJoins (i : MoveIx) (ch : Chan) (us : List UnitId) (s : State) : State :=
  forEach us (fun u => orderTo u (.joinOrder i ch)) s

/-- R10, R14, R21: a unit's claims on its current channel and on the move's channel are cancelled. -/
def cancelClaims (ch : Chan) (r : AirReason) (u : UnitId) (s : State) : State :=
  cancelClaim ch r (.unit u) (cancelClaim (s.currentOf u) r (.unit u) s)

/-- R21 steps 1 to 5: the record of a move is freed; `leaves` says which members are sent a LEAVE_ORDER. The hangs
reserved for the move end (R46). Service decisions are made by the caller, once for the event (R58). -/
def freeMove (leaves : Member → Bool) (i : MoveIx) (m : Move) (s : State) : State :=
  setMove i none
    (forEach m.units unbindUnit
      (forEach ((m.members.filter leaves).map (·.unit)) (fun u => orderTo u (.leaveOrder i))
        (endHangsFor (.move i) allChans
          (forEach m.units (cancelClaims m.channel .released)
            (discardAlerts m.channel i s)))))

/-- R14: a handset is removed from a move; `leave` says whether it is sent a LEAVE_ORDER. -/
def removeHandset (leave : Bool) (i : MoveIx) (u : UnitId) (s : State) : State :=
  match s.move i with
  | none => s
  | some m =>
    unbindUnit u
      (modMove i (fun m => { m with handsets := m.handsets.filter (fun e => e.unit != u) })
        ((if leave then orderTo u (.leaveOrder i) else id)
          ((if m.handover.map (·.target) = some u then cancelHandover i .targetRemoved else id)
            (cancelClaims m.channel .released u s))))

/-- The occupied records that name a channel (R2, R4). -/
def movesOn (s : State) (ch : Chan) : Nat :=
  (allMoves.filter (fun i => (s.move i).map (·.channel) == some ch)).length

/-- R4 check 3, R16: a channel a move may be placed on: CH1 to CH5, in use, not CLOSED. -/
def usableFor (s : State) (b : Byte) : Option Chan :=
  (chanOf b).filter (fun ch => ch != 0 && (s.chan ch).inUse && (s.floor ch).state != .closed)

/-- R3 checks 1 to 4 of a command that names a move. -/
def moveCommand (link : Console) (b : Byte) (admits : MoveState → Bool) (c : MoveIx → Move → Cmd) : Cmd := look fun s =>
  check (s.part == .service) .wrongState <|
  need ((moveOf b).bind (fun i => (s.move i).map (fun m => (i, m)))) .moveUnknown fun im =>
  check (im.2.console == link) .notOperator <|
  check (admits im.2.state) .wrongState <|
  c im.1 im.2

/-- R3: the states in which ADD_MEMBER, REMOVE_MEMBER, SET_CONTROLLER and MOVE_CHANNEL are taken. -/
def MoveState.amendable : MoveState → Bool
  | .active | .recovery | .suspended => true
  | .forming | .stopHeld | .releasing => false

/-! ## CREATE_MOVE (R4 to R6) -/

/-- R4: the units a CREATE_MOVE names, in the order locomotive, then handsets. -/
def named (f : MoveFields) : List UnitId := f.loco :: f.handsets

/-- R4 check 9: the first named unit whose kind does not fit its place. -/
def kindOffender (s : State) (f : MoveFields) : Option UnitId :=
  if s.kindOf f.loco = some .loco ∨ s.kindOf f.loco = some .locoRc then
    f.handsets.find? (fun u => s.kindOf u != some .handset)
  else some f.loco

/-- R5: the presence interval of a new move. -/
def settledInterval (s : State) (f : MoveFields) : Nat × Bool :=
  clampField 500 5000 100 s.globals.interval (f.interval.map (·.toNat))

/-- R5: the fault limit of a new move. -/
def settledLimit (s : State) (f : MoveFields) : Nat × Bool :=
  clampField 1 7 1 s.globals.faultLimit (f.faultLimit.map (·.toNat))

/-- R6: the record of a new move. -/
def newMove (link : Console) (ch : Chan) (f : MoveFields) (s : State) : Move where
  state := .forming
  channel := ch
  console := link
  loco := newMember s.time f.loco
  handsets := f.handsets.map (newMember s.time)
  controller := f.controller
  interval := (settledInterval s f).1
  faultLimit := (settledLimit s f).1
  windowStart := none
  closedEnd := none
  deadline := none
  faultCount := 0
  cleanStart := none
  lastFault := none
  holdStart := none
  stopAckSeen := false
  presenceNoted := false
  suspensionPending := false
  handover := none
  formingDeadline := some (after s.time 5000)
  rechannel := none
  releaseDeadline := none
  repeats := 0
  unconfirmedSent := false

/-- R6: the record is filled, the members are bound and ordered to join. -/
def createMove (link : Console) (i : MoveIx) (ch : Chan) (f : MoveFields) (s : State) : State :=
  orderJoins i ch (named f) (forEach (named f) (bindUnit i) (setMove i (some (newMove link ch f s)) s))

/-- R4 checks 11 to 14: a controller for an RC move, none for a LOCO move, and level L3 throughout an RC move. -/
def checkController (s : State) (f : MoveFields) (c : Cmd) : Cmd :=
  if s.kindOf f.loco = some .locoRc then
    need f.controller .controllerRequired fun u =>
    check (decide (u ∈ f.handsets)) .controllerNotMember <|
    noneOf ((named f).find? (fun v => (s.unit v).map (·.level) != some .l3)) .levelTooLow c
  else check f.controller.isNone .controllerNotAllowed c

/-- CREATE_MOVE (R4, R5, R6). -/
def cmdCreateMove (link : Console) (f : MoveFields) : Cmd := look fun s =>
  check (s.part == .service) .wrongState <|
  need (allMoves.find? (fun i => (s.move i).isNone)) .tableFull fun i =>
  need (usableFor s f.channel) .channelUnusable fun ch =>
  check (decide (movesOn s ch < Config.movesPerChannel)) .channelFull <|
  check (decide (1 ≤ f.handsets.length) && decide (f.handsets.length ≤ Config.handsetsPerMove)) .memberCount <|
  check (decide (named f).Nodup) .duplicateUnit <|
  noneOf ((named f).find? (fun u => (s.unit u).isNone)) .unitUnknown <|
  noneOf ((named f).find? (fun u => (s.bindingOf (.unit u)).isSome)) .unitBound <|
  noneOf (kindOffender s f) .kindMismatch <|
  noneOf ((named f).find? (fun u => !(s.unit u).any (fun r => hasChan r.chans ch))) .channelUnsupported <|
  checkController s f <|
  accept ((settledInterval s f).2 || (settledLimit s f).2) (.move i) (createMove link i ch f)

/-! ## Members (R11 to R15) -/

/-- R11: a handset is added. -/
def addMember (i : MoveIx) (m : Move) (u : UnitId) (s : State) : State :=
  orderTo u (.joinOrder i m.channel)
    (bindUnit i u
      (setMove i (some { m with
        handsets := m.handsets ++ [{ newMember s.time u with addDeadline := some (after s.time 5000) }] }) s))

/-- ADD_MEMBER (R11). -/
def cmdAddMember (link : Console) (b : Byte) (u : UnitId) : Cmd := look fun s =>
  moveCommand link b MoveState.amendable fun i m =>
  check (decide (m.handsets.length < Config.handsetsPerMove)) .memberCount <|
  need (s.unit u) .unitUnknown fun r =>
  check r.binding.isNone .unitBound <|
  check (r.kind == .handset) .kindMismatch <|
  check (hasChan r.chans m.channel) .channelUnsupported <|
  check (!m.isRC || r.level == .l3) .levelTooLow <|
  done (addMember i m u)

/-- REMOVE_MEMBER (R13, R14); a floor that the handset's claim leaves free is served at the end of the event (R58). -/
def cmdRemoveMember (link : Console) (b : Byte) (u : UnitId) : Cmd :=
  moveCommand link b MoveState.amendable fun i m =>
  check (m.member u).isSome .notMember <|
  check (m.loco.unit != u) .useRelease <|
  check (m.controller != some u) .controllerInUse <|
  check (decide (1 < m.handsets.length)) .lastHandset <|
  done (fun s => serveFreed s (removeHandset true i u s))

/-- R15: control passes to another handset by command: the handover is cancelled, both controllers are told, and the long
open window (ACTIVE) or the offer cycle (RECOVERY) begins. -/
def setController (i : MoveIx) (m : Move) (former new : UnitId) (s : State) : State :=
  (match m.state with
    | .active => modMove i (Move.longWindow s.time)
    | .recovery => startOffers i
    | .forming | .stopHeld | .suspended | .releasing => id)
    (assignControl i m former new
      (cancelHandover i .controllerSet (setMove i (some { m with controller := some new }) s)))

/-- SET_CONTROLLER (R15); naming the present controller changes nothing. -/
def cmdSetController (link : Console) (b : Byte) (u : UnitId) : Cmd :=
  moveCommand link b MoveState.amendable fun i m =>
  need m.controller .controllerNotAllowed fun former =>
  need (m.handsets.find? (fun e => e.unit == u)) .notMember fun e =>
  check e.joined .notJoined <|
  done (if former = u then id else setController i m former u)

/-! ## MOVE_CHANNEL (R16) -/

/-- R16 step 5: a member entry at the start of a new round. -/
def Member.rejoins (now : Time) (e : Member) : Member :=
  { e with joined := false, addDeadline := none, roundStart := now, sends := 1 }

/-- R16 steps 1 to 7. -/
def moveToChannel (i : MoveIx) (m : Move) (ch : Chan) (s : State) : State :=
  orderJoins i ch m.units
    (modMove i (fun m => { m with
        channel := ch
        loco := m.loco.rejoins s.time
        handsets := m.handsets.map (Member.rejoins s.time)
        rechannel := some ⟨ch, after s.time 5000⟩ })
      (cancelHandover i .moved
        (discardAlerts m.channel i
          (endHangsFor (.move i) [m.channel]
            (forEach m.units (fun u => cancelClaim m.channel .moved (.unit u)) s)))))

/-- MOVE_CHANNEL (R16); the old channel, left free, is served at the end of the event (R58). -/
def cmdMoveChannel (link : Console) (b c : Byte) : Cmd := look fun s =>
  moveCommand link b MoveState.amendable fun i m =>
  check (chanOf c != some m.channel) .sameChannel <|
  need (usableFor s c) .channelUnusable fun ch =>
  check (decide (movesOn s ch < Config.movesPerChannel)) .channelFull <|
  noneOf (m.units.find? (fun u => !(s.unit u).any (fun r => hasChan r.chans ch))) .channelUnsupported <|
  done (fun s => serveFreed s (moveToChannel i m ch s))

/-! ## The operating console, reinstating, reading (R18 to R20) -/

/-- TAKE_MOVE (R18). -/
def cmdTakeMove (link : Console) (b : Byte) : Cmd := look fun s =>
  check (s.part == .service) .wrongState <|
  need ((moveOf b).bind (fun i => (s.move i).map (fun m => (i, m)))) .moveUnknown fun im =>
  done (if im.2.console = link then id
    else fun s => notify im.2.console (.moveTaken im.1 link) (setMove im.1 (some { im.2 with console := link }) s))

/-- READ_MOVE (R19). -/
def cmdReadMove (b : Byte) : Cmd := look fun s =>
  need ((moveOf b).bind (fun i => (s.move i).map (fun m => (i, m)))) .moveUnknown fun im =>
  accept false (.moveRecord im.1 im.2) id

/-- REINSTATE (R20, R89). -/
def cmdReinstate (link : Console) (b : Byte) : Cmd :=
  moveCommand link b (· == .suspended) fun i m =>
  done (fun s => startOffers i
    (setMove i (some { m with state := .recovery, faultCount := 0, suspensionPending := false }) s))

/-! ## RELEASE_MOVE (R21 to R24) -/

/-- R21, R23, R24: the record is freed, a notice goes to the console that was operating, and the freed floors are
served. -/
def release (notice : NoticeBody) (i : MoveIx) (m : Move) (s : State) : State :=
  serveFreed s (notify m.console notice (freeMove (fun _ => true) i m s))

/-- R22: the move enters RELEASING. STOP_UNDELIVERABLE follows where the locomotive's channel is CLOSED (R23). -/
def enterReleasing (i : MoveIx) (m : Move) (s : State) : State :=
  reportUndeliverable i m
    (orderTo m.loco.unit (.stopOrder i)
      (modMove i (fun m => { m with stopAckSeen := false })
        (cancelHandover i .releasing
          (setMove i (some { m with
            state := .releasing
            releaseDeadline := some (after s.time 5000)
            windowStart := none
            closedEnd := none
            deadline := none
            repeats := 0 }) s))))

/-- R21, R22: a release stops a running RC move first. -/
def Move.runs (m : Move) : Bool := m.isRC && (m.state == .active || m.state == .stopHeld)

/-- RELEASE_MOVE (R21, R22). -/
def cmdReleaseMove (link : Console) (b : Byte) : Cmd :=
  moveCommand link b (· != .releasing) fun i m =>
  done (if m.runs then enterReleasing i m else release (.moveReleased i) i m)

/-! ## JOINED (R8, R9) -/

/-- Every member has joined. -/
def Move.allJoined (m : Move) : Bool := m.members.all (·.joined)

/-- The units whose joined flag is clear, in member order. -/
def Move.missing (m : Move) : List UnitId := (m.members.filter (fun e => !e.joined)).map (·.unit)

/-- R8 steps 4 and 5, R9: what the last JOINED brings. -/
def lastJoined (i : MoveIx) (s : State) : State :=
  match s.move i with
  | none => s
  | some m =>
    if m.allJoined then
      if m.state = .forming then
        notify m.console (.moveActive i []) (setMove i (some (m.becomesActive s.time)) s)
      else setMove i (some { m with rechannel := none }) s
    else s

/-- R8 step 3: the unit comes to the move's channel; its claims on the former one are cancelled. -/
def comeTo (ch : Chan) (u : UnitId) (s : State) : State :=
  if s.currentOf u = ch then s
  else modUnit u (fun r => { r with current := ch }) (cancelClaim (s.currentOf u) .moved (.unit u) s)

/-- R8: a JOINED frame of a unit. -/
def joinedBy (u : UnitId) (move ch : Byte) (s : State) : State :=
  whenSome (moveOf move) (fun i s => whenSome (s.move i) (fun m s => whenSome (m.member u) (fun e s =>
    if m.state ≠ .releasing ∧ chanOf ch = some m.channel ∧ e.joined = false then
      serveFreed s (lastJoined i (comeTo m.channel u
        (setMove i (some (m.modMember u (fun e => { e with joined := true, addDeadline := none }))) s)))
    else s) s) s) s

/-! ## Expiries (R7, R10, R12, R17, R22, R24) -/

/-- R7: the next JOIN_ORDER of a member's round is due: `sends` of five have gone out. -/
def Member.joinDue (now : Time) (e : Member) : Bool :=
  !e.joined && decide (1 ≤ e.sends) && decide (e.sends < 5) && decide (1000 * e.sends ≤ elapsed now e.roundStart) &&
    decide (elapsed now e.roundStart < 5000)

/-- R7: a repetition of JOIN_ORDER. -/
def repeatJoin (i : MoveIx) (u : UnitId) (s : State) : State :=
  whenSome (s.move i) (fun m s => whenSome (m.member u) (fun e s =>
    if m.state ≠ .releasing ∧ e.joinDue s.time then
      orderTo u (.joinOrder i m.channel)
        (setMove i (some (m.modMember u (fun e => { e with sends := e.sends + 1 }))) s)
    else s) s) s

/-- R10: the move fails when its locomotive or its controller has not joined. -/
def Move.formingFails (m : Move) : Bool :=
  !m.loco.joined || match m.controller with
    | none => false
    | some u => !(m.member u).any (·.joined)

/-- R10: the handsets dropped by the forming deadline: those not joined, but the first where all are missing. -/
def Move.dropped (m : Move) : List UnitId :=
  if m.handsets.any (·.joined) then (m.handsets.filter (fun e => !e.joined)).map (·.unit)
  else (m.handsets.drop 1).map (·.unit)

/-- R10: the forming deadline of a move with a member missing. -/
def formingEnds (i : MoveIx) (m : Move) (s : State) : State :=
  if m.formingFails then
    notify m.console (.moveFailed i m.missing) (freeMove (·.joined) i m s)
  else
    notify m.console (.moveActive i m.dropped)
      (modMove i (Move.becomesActive s.time) (forEach m.dropped (removeHandset false i) s))

/-- FORMING_DEADLINE (R10). -/
def execFormingDeadline (i : MoveIx) : State → Host.Outcome State Fault Refusal :=
  event (fun s => whenSome (s.move i) (fun m =>
    expiry m.formingDeadline (fun s => if m.allJoined then s else serveFreed s (formingEnds i m s))) s)

/-- JOIN_REPETITION (R7). -/
def execJoinRepetition (i : MoveIx) (u : UnitId) : State → Host.Outcome State Fault Refusal := event (repeatJoin i u)

/-- ADD_DEADLINE (R12). -/
def execAddDeadline (i : MoveIx) (u : UnitId) : State → Host.Outcome State Fault Refusal :=
  event (fun s => whenSome (s.move i) (fun m => whenSome (m.member u) (fun e =>
    expiry e.addDeadline (fun s =>
      if e.joined then s
      else notify m.console (.memberNotJoined i u)
        (setMove i (some (m.modMember u (fun e => { e with addDeadline := none }))) s)))) s)

/-- RE_CHANNEL_DEADLINE (R17). With nobody missing, the record goes without a notice (log entry 24). -/
def execReChannelDeadline (i : MoveIx) : State → Host.Outcome State Fault Refusal :=
  event (fun s => whenSome (s.move i) (fun m => whenSome m.rechannel (fun r =>
    expiry (some r.deadline) (fun s =>
      (if m.allJoined then id else notify m.console (.moveChannelIncomplete i m.channel m.missing))
        (setMove i (some { m with rechannel := none }) s)))) s)

/-- RELEASE_STOP_REPETITION (R22): every 200 ms after the first STOP_ORDER, which went out 5000 ms before the release
deadline. -/
def execReleaseStopRepetition (i : MoveIx) : State → Host.Outcome State Fault Refusal :=
  event (fun s => whenSome (s.move i) (fun m => whenSome m.releaseDeadline (fun d s =>
    if m.state = .releasing ∧ reached s.time (m.nextRepeat (d - 5000#32) 200) then
      orderTo m.loco.unit (.stopOrder i) (setMove i (some { m with repeats := m.repeats + 1 }) s)
    else s)) s)

/-- RELEASE_DEADLINE (R24). -/
def execReleaseDeadline (i : MoveIx) : State → Host.Outcome State Fault Refusal :=
  event (fun s => whenSome (s.move i) (fun m =>
    expiry m.releaseDeadline (release (.releaseUnconfirmed i m.loco.unit) i m)) s)

/-! ## The rows -/

/-- CREATE_MOVE. -/
def execCreateMove (link : Console) (f : MoveFields) : State → Host.Outcome State Fault Refusal :=
  event (takeCommand link 0x10#8 (cmdCreateMove link f))
/-- ADD_MEMBER. -/
def execAddMember (link : Console) (m : Byte) (u : UnitId) : State → Host.Outcome State Fault Refusal :=
  event (takeCommand link 0x11#8 (cmdAddMember link m u))
/-- REMOVE_MEMBER. -/
def execRemoveMember (link : Console) (m : Byte) (u : UnitId) : State → Host.Outcome State Fault Refusal :=
  event (takeCommand link 0x12#8 (cmdRemoveMember link m u))
/-- SET_CONTROLLER. -/
def execSetController (link : Console) (m : Byte) (u : UnitId) : State → Host.Outcome State Fault Refusal :=
  event (takeCommand link 0x13#8 (cmdSetController link m u))
/-- MOVE_CHANNEL. -/
def execMoveChannel (link : Console) (m ch : Byte) : State → Host.Outcome State Fault Refusal :=
  event (takeCommand link 0x14#8 (cmdMoveChannel link m ch))
/-- RELEASE_MOVE. -/
def execReleaseMove (link : Console) (m : Byte) : State → Host.Outcome State Fault Refusal :=
  event (takeCommand link 0x15#8 (cmdReleaseMove link m))
/-- TAKE_MOVE. -/
def execTakeMove (link : Console) (m : Byte) : State → Host.Outcome State Fault Refusal :=
  event (takeCommand link 0x16#8 (cmdTakeMove link m))
/-- REINSTATE. -/
def execReinstate (link : Console) (m : Byte) : State → Host.Outcome State Fault Refusal :=
  event (takeCommand link 0x17#8 (cmdReinstate link m))
/-- READ_MOVE. -/
def execReadMove (link : Console) (m : Byte) : State → Host.Outcome State Fault Refusal :=
  event (takeCommand link 0x30#8 (cmdReadMove m))
/-- JOINED (R8). -/
def execJoined (p : Port) (src : UnitId) (move ch : Byte) : State → Host.Outcome State Fault Refusal :=
  event (arrives p src (fun _ => joinedBy src move ch))

end Sys2Proof.Machine
end

