-- ==== Sys2Proof/Machine/Supervise.lean ====
section
/-! DEFINITION. Machine/Supervise.lean: the Supervision Monitor's frames and timers (R73 to R95). The move of a frame is
the sender's binding; the move number in the frame is not compared (R73, R196). -/

namespace Sys2Proof.Machine

/-- R73: a supervision frame is taken for the sender's move when that is an RC move. -/
def forMove (u : UnitId) (f : MoveIx → Move → State → State) (s : State) : State :=
  whenSome (s.moveOf u) (fun im s => if im.2.isRC then f im.1 im.2 s else s) s

/-! ## Frames -/

/-- R75: t is before the closed-window end. -/
def Move.tooEarly (now : Time) (m : Move) : Bool :=
  match m.closedEnd with
  | none => false
  | some t => !reached now t

/-- R75, R76, R87: a PRESENCE. -/
def presenceBy (u : UnitId) : State → State := forMove u (fun i m s =>
  if m.controller = some u then
    match m.state with
    | .active =>
      if m.tooEarly s.time then raiseFault i .early s else setMove i (some (m.newWindow s.time)) s
    | .stopHeld => setMove i (some { m with presenceNoted := true }) s
    | .forming | .recovery | .suspended | .releasing => s
  else s)

/-- R84: a STOP_ACK in the stop hold. -/
def confirmStop (i : MoveIx) (m : Move) (s : State) : State :=
  if m.stopAckSeen then s
  else
    (if m.minimumRun s.time then endHold i else id)
      (setMove i (some { m with stopAckSeen := true }) s)

/-- R84, R23: a STOP_ACK. -/
def stopAckBy (u : UnitId) : State → State := forMove u (fun i m s =>
  if m.loco.unit = u then
    match m.state with
    | .stopHeld => confirmStop i m s
    | .releasing => release (.moveReleased i) i m s
    | .forming | .active | .recovery | .suspended => s
  else s)

/-- R90: a RESUME. -/
def resumeBy (u : UnitId) : State → State := forMove u (fun i m s =>
  if m.controller = some u ∧ m.state = .recovery then
    notify m.console (.moveResumed i u) (setMove i (some (m.becomesActive s.time)) s)
  else s)

/-- R92: the target of an offer is another joined handset of the move. -/
def Move.offersTo (target : UnitId) (m : Move) : Bool :=
  m.controller != some target && m.handsets.any (fun e => e.unit == target && e.joined)

/-- R92: a HANDOVER_OFFER. -/
def offerBy (u target : UnitId) : State → State := forMove u (fun i m s =>
  if m.controller = some u ∧ m.state = .active ∧ m.offersTo target then
    orderTo target (.handoverOffered i u)
      (setMove i (some { m with handover := some ⟨target, after s.time 10000⟩ }) s)
  else s)

/-- R93: a HANDOVER_TAKE. -/
def takeBy (u : UnitId) : State → State := forMove u (fun i m s =>
  if m.state = .active ∧ m.handover.map (·.target) = some u then
    notify m.console (.controllerChanged i (m.controller.getD 0) u)
      (assignControl i m (m.controller.getD 0) u
        (setMove i (some ({ m with controller := some u, handover := none }.longWindow s.time)) s))
  else s)

/-! ## Timers -/

/-- Take an expiry of an occupied move record. -/
def moveTimer (i : MoveIx) (f : Move → State → State) : State → Host.Outcome State Fault Refusal :=
  event (fun s => whenSome (s.move i) f s)

/-- WINDOW_DEADLINE (R77). -/
def execWindowDeadline (i : MoveIx) : State → Host.Outcome State Fault Refusal := moveTimer i (fun m s =>
  if m.state = .active then expiry m.deadline (raiseFault i .missed) s else s)

/-- CLEAN_SPAN_END (R81). -/
def execCleanSpanEnd (i : MoveIx) : State → Host.Outcome State Fault Refusal := moveTimer i (fun m s =>
  if m.state = .active ∧ m.cleanStart.any (fun t => decide (60000 ≤ elapsed s.time t)) then
    setMove i (some { m with faultCount := 0, cleanStart := some s.time }) s
  else s)

/-- STOP_ORDER_REPETITION (R83). -/
def execStopOrderRepetition (i : MoveIx) : State → Host.Outcome State Fault Refusal := moveTimer i (fun m s =>
  if m.state = .stopHeld ∧ m.stopAckSeen = false then
    expiry (m.holdStart.map (fun t => m.nextRepeat t 200)) (fun s =>
      orderTo m.loco.unit (.stopOrder i) (setMove i (some { m with repeats := m.repeats + 1 }) s)) s
  else s)

/-- STOP_CONFIRM_MARK (R85): once for each hold. -/
def execStopConfirmMark (i : MoveIx) : State → Host.Outcome State Fault Refusal := moveTimer i (fun m s =>
  if m.state = .stopHeld ∧ m.stopAckSeen = false ∧ m.unconfirmedSent = false then
    expiry (m.holdStart.map (fun t => after t 2000)) (fun s =>
      notify m.console (.stopUnconfirmed i m.loco.unit) (setMove i (some { m with unconfirmedSent := true }) s)) s
  else s)

/-- MINIMUM_HOLD_MARK (R86). -/
def execMinimumHoldMark (i : MoveIx) : State → Host.Outcome State Fault Refusal := moveTimer i (fun m s =>
  if m.state = .stopHeld ∧ m.stopAckSeen ∧ m.minimumRun s.time then endHold i s else s)

/-- OFFER_CYCLE_REPETITION (R89). -/
def execOfferCycleRepetition (i : MoveIx) : State → Host.Outcome State Fault Refusal := moveTimer i (fun m s =>
  if m.state = .recovery then
    expiry (m.windowStart.map (fun t => m.nextRepeat t 2000)) (fun s =>
      whenSome m.controller (fun u => orderTo u (.resumeOffer i))
        (setMove i (some { m with repeats := m.repeats + 1 }) s)) s
  else s)

/-- OFFER_EXPIRY (R94). -/
def execOfferExpiry (i : MoveIx) : State → Host.Outcome State Fault Refusal := moveTimer i (fun m =>
  whenSome m.handover (fun h => expiry (some h.expiry) (fun s =>
    notify m.console (.handoverLapsed i h.target) (setMove i (some { m with handover := none }) s))))

/-! ## The rows -/

/-- PRESENCE. -/
def execPresence (p : Port) (src : UnitId) (_move : Byte) : State → Host.Outcome State Fault Refusal :=
  event (arrives p src (fun _ => presenceBy src))
/-- STOP_ACK. -/
def execStopAck (p : Port) (src : UnitId) (_move : Byte) : State → Host.Outcome State Fault Refusal :=
  event (arrives p src (fun _ => stopAckBy src))
/-- RESUME. -/
def execResume (p : Port) (src : UnitId) (_move : Byte) : State → Host.Outcome State Fault Refusal :=
  event (arrives p src (fun _ => resumeBy src))
/-- HANDOVER_OFFER. -/
def execHandoverOffer (p : Port) (src : UnitId) (_move : Byte) (target : UnitId) :
    State → Host.Outcome State Fault Refusal :=
  event (arrives p src (fun _ => offerBy src target))
/-- HANDOVER_TAKE. -/
def execHandoverTake (p : Port) (src : UnitId) (_move : Byte) : State → Host.Outcome State Fault Refusal :=
  event (arrives p src (fun _ => takeBy src))

end Sys2Proof.Machine
end

