-- ==== Sys2Proof/Machine/Talk.lean ====
section
/-! DEFINITION. Machine/Talk.lean: the Floor Controller's frames, commands, reports and timers (R29 to R41, R43, R50 to
R52, R64, R65). -/

namespace Sys2Proof.Machine

/-! ## Frames -/

/-- R29: a TALK_REQ of a registered unit on the channel of arrival. -/
def talkReqBy (ch : Chan) (u : UnitId) (cls : Byte) (s : State) : State :=
  match classOf cls with
  | none | some .emergency => s
  | some c =>
    if s.currentOf u ≠ ch then answer ch (.unit u) (.denied c .wrongChannel) s
    else if (s.floor ch).lockedOut (.unit u) then answer ch (.unit u) (.denied c .lockedOut) s
    else talkOutcome ch (.unit u) c s

/-- R31, R43: an EMERGENCY of a registered unit, and the crew stop of its RC move whatever the floor's answer. -/
def emergencyBy (ch : Chan) (u : UnitId) (s : State) : State :=
  whenSome (s.moveOf u) (fun im => crewStop im.1)
    (if s.currentOf u ≠ ch then answer ch (.unit u) (.denied .emergency .wrongChannel) s
      else emergencyOutcome ch (.unit u) s)

/-! ## Commands -/

/-- R32, R147, R173: the channel is one of CH0 to CH5 and in use. -/
def inUseChan (s : State) (b : Byte) : Option Chan := (chanOf b).filter (fun ch => (s.chan ch).inUse)

/-- R32, R147: the channel is in TRANSFER or CLOSED. -/
def uncarried (s : State) (ch : Chan) : Bool := (s.floor ch).state == .transfer || (s.floor ch).state == .closed

/-- R32: a console's request that passed the checks. DESIGN CHOICE (log entry 28): a console that is in the lockout list and
holds the grant, by an EMERGENCY request, is answered LOCKED_OUT when it asks at another class. -/
def consoleRequest (link : Console) (ch : Chan) (cls : TalkClass) (s : State) : State :=
  match cls with
  | .emergency => emergencyOutcome ch (.console link) s
  | .routine | .work | .urgent =>
    if (s.floor ch).lockedOut (.console link) then answer ch (.console link) (.denied cls .lockedOut) s
    else talkOutcome ch (.console link) cls s

/-- TALK_REQUEST (R32). -/
def cmdTalkRequest (link : Console) (c cls : Byte) : Cmd := look fun s =>
  check (s.part == .service) .wrongState <|
  need (classOf cls) .badClass fun k =>
  need (inUseChan s c) .channelUnusable fun ch =>
  check (!uncarried s ch) .channelUnavailable <|
  done (consoleRequest link ch k)

/-- TALK_END (R32, R38, R64). -/
def cmdTalkEnd (link : Console) (c : Byte) : Cmd := look fun s =>
  check (s.part == .service) .wrongState <|
  need (inUseChan s c) .channelUnusable fun ch =>
  check ((s.floor ch).heldBy (.console link) || (entryOf (.console link) (s.floor ch).queue).isSome) .notClaimant <|
  done (talkEndBy ch (.console link))

/-- READ_FLOOR (R52); the ranks are those of a service decision at this moment. -/
def cmdReadFloor (c : Byte) : Cmd := look fun s =>
  need (chanOf c) .channelUnknown fun ch =>
  accept false (.floorRecord (s.floor ch) ((s.floor ch).queue.map (rank s.time (s.chan ch).ageStep))) id

/-! ## Timers -/

/-- A grant's timer ends the grant with a reason, and the floor, left IDLE, is served (R35, R37, R41). -/
def grantTimer (timer : Grant → Option Time) (r : AirReason) (ch : Chan) (s : State) : State :=
  whenSome (s.floor ch).grant (fun g => expiry (timer g) (endGrantIdle ch (some r))) s

/-- R41: the holder is cut at its overtalk expiry and locked out. -/
def cutOvertalk (ch : Chan) (g : Grant) (s : State) : State :=
  endGrantIdle ch (some .overtalk) (modFloor ch (fun f => { f with lockouts := lockOut s.time g.holder f.lockouts }) s)

/-- R41: the warning mark, once for each grant. -/
def warn (ch : Chan) (g : Grant) (s : State) : State :=
  requestMix ch overtalkPattern
    (modFloor ch (fun f => { f with grant := some { g with warned := true } }) s)

/-- R50: foreign carrier is detected. -/
def detect (ch : Chan) (s : State) : State :=
  (if (s.floor ch).episodeOpen then id
    else broadcast (.interference ch (((s.floor ch).heard.map (·.source)).getD 0)))
    (latchAll ch .interference
      (modFloor ch (fun f => { f with foreignSince := none, episodeOpen := true }) s))

/-- TAKE_UP_DEADLINE (R35). -/
def execTakeUpDeadline (ch : Chan) : State → Host.Outcome State Fault Refusal :=
  event (grantTimer (·.takeUp) .notTaken ch)
/-- SILENT_CARRIER_DEADLINE (R37). -/
def execSilentCarrierDeadline (ch : Chan) : State → Host.Outcome State Fault Refusal :=
  event (grantTimer (·.silent) .silent ch)
/-- OVERTALK_EXPIRY (R41). -/
def execOvertalkExpiry (ch : Chan) : State → Host.Outcome State Fault Refusal :=
  event (fun s => whenSome (s.floor ch).grant (fun g => expiry g.overtalk (cutOvertalk ch g)) s)
/-- WARNING_MARK (R41). -/
def execWarningMark (ch : Chan) : State → Host.Outcome State Fault Refusal :=
  event (fun s => whenSome (s.floor ch).grant (fun g =>
    if g.warned then id else expiry g.warning (warn ch g)) s)
/-- LOCKOUT_EXPIRY (R41). -/
def execLockoutExpiry (ch : Chan) (p : Party) : State → Host.Outcome State Fault Refusal :=
  event (fun s => modFloor ch (fun f => { f with
    lockouts := f.lockouts.filter (fun l => !(l.party == p && reached s.time l.expiry)) }) s)
/-- HANG_EXPIRY (R39). -/
def execHangExpiry (ch : Chan) : State → Host.Outcome State Fault Refusal :=
  event (fun s => expiry ((s.floor ch).hang.map (·.expiry)) (fun s => serviceDecision ch (endHang ch s)) s)
/-- FOREIGN_DETECTION (R50). -/
def execForeignDetection (ch : Chan) : State → Host.Outcome State Fault Refusal :=
  event (fun s => expiry ((s.floor ch).foreignSince.map (fun t => after t 2000)) (detect ch) s)
/-- QUIET_DEADLINE (R51). -/
def execQuietDeadline (ch : Chan) : State → Host.Outcome State Fault Refusal :=
  event (fun s => expiry (s.floor ch).quiet
    (modFloor ch (fun f => { f with episodeOpen := false, quiet := none })) s)
/-- TIMEOUT_EXPIRY (R65). -/
def execTimeoutExpiry (ch : Chan) (p : Party) : State → Host.Outcome State Fault Refusal :=
  event (fun s => expiry ((entryOf p (s.floor ch).queue).map (·.expiry)) (denyEntry ch p .timeout) s)

/-! ## The rows -/

/-- CARRIER_REPORT (R36). -/
def execCarrierReport (p : Port) (present : Bool) (src : UnitId) : State → Host.Outcome State Fault Refusal :=
  event (fun s => whenSome (s.carriedBy p) (fun ch => modFloorTested ch (Floor.hears s.time present src)) s)
/-- TALK_REQ (R29, R30). -/
def execTalkReq (p : Port) (src : UnitId) (cls : Byte) : State → Host.Outcome State Fault Refusal :=
  event (arrives p src (fun ch => talkReqBy ch src cls))
/-- TALK_END_FRAME (R38, R64). -/
def execTalkEndFrame (p : Port) (src : UnitId) : State → Host.Outcome State Fault Refusal :=
  event (arrives p src (fun ch => talkEndBy ch (.unit src)))
/-- EMERGENCY (R31, R43). -/
def execEmergency (p : Port) (src : UnitId) : State → Host.Outcome State Fault Refusal :=
  event (arrives p src (fun ch => emergencyBy ch src))
/-- TALK_REQUEST. -/
def execTalkRequest (link : Console) (ch cls : Byte) : State → Host.Outcome State Fault Refusal :=
  event (takeCommand link 0x20#8 (cmdTalkRequest link ch cls))
/-- TALK_END. -/
def execTalkEnd (link : Console) (ch : Byte) : State → Host.Outcome State Fault Refusal :=
  event (takeCommand link 0x21#8 (cmdTalkEnd link ch))
/-- READ_FLOOR. -/
def execReadFloor (link : Console) (ch : Byte) : State → Host.Outcome State Fault Refusal :=
  event (takeCommand link 0x33#8 (cmdReadFloor ch))

end Sys2Proof.Machine
end

