-- ==== Sys2Proof/Machine/Alerts.lean ====
section
/-! DEFINITION. Machine/Alerts.lean: the Tone Unit's commands and timer (R163 to R166, R173). -/

namespace Sys2Proof.Machine

/-! ## LOAD_PATTERN (R164) -/

/-- R164: a step with its values clamped and its divider computed. -/
def stepOf (f : StepField) : ToneStep where
  freq := (clamp 300 3000 f.freq.toNat).1
  duration := (clamp 1 255 f.duration.toNat).1
  level := (clamp 0 15 f.level.toNat).1
  divider := toneDivider (clamp 300 3000 f.freq.toNat).1

/-- R164: a clamp was made in a step. -/
def stepClamped (f : StepField) : Bool :=
  (clamp 300 3000 f.freq.toNat).2 || (clamp 1 255 f.duration.toNat).2 || (clamp 0 15 f.level.toNat).2

/-- R164: a generator plays the pattern, or a pending alert names it. -/
def patternBusy (s : State) (pat : PatternIx) : Bool :=
  allChans.any (fun ch =>
    (s.generator ch).any (fun g => g.pattern == pat) || (s.floor ch).alerts.any (fun a => a.pattern == pat))

/-- R164: what LOAD_PATTERN defines. -/
def patternFrom (rep : Byte) (steps : List StepField) : Pattern := ⟨(clamp 1 15 rep.toNat).1, steps.map stepOf⟩

/-- LOAD_PATTERN (R164). -/
def cmdLoadPattern (b rep : Byte) (steps : List StepField) : Cmd := look fun s =>
  need (patternOf b) .patternUnknown fun pat =>
  check (decide (1 ≤ steps.length) && decide (steps.length ≤ 8)) .stepCount <|
  check (!patternBusy s pat) .patternInUse <|
  accept ((clamp 1 15 rep.toNat).2 || steps.any stepClamped)
    (.tones ((steps.map stepOf).map (fun st => (st.divider, reportedFrequency st.freq))))
    (fun s => { s with patterns := s.patterns.put pat (some (patternFrom rep steps)) })

/-! ## PLAY (R173) -/

/-- R173: a console's alert. -/
def consoleAlert (now : Time) (link : Console) (pat : PatternIx) : Alert :=
  ⟨pat, .nextFree, none, .console link, now, false⟩

/-- R173: PLAY in mode MIX. -/
def playMix (ch : Chan) (pat : PatternIx) : Cmd := look fun s =>
  check ((s.floor ch).effective == .granted) .notGranted <|
  check (s.generator ch).isNone .toneBusy <|
  done (startPlay ch .mix pat)

/-- R173: PLAY in mode NEXT_FREE. -/
def playNextFree (link : Console) (ch : Chan) (pat : PatternIx) : Cmd := look fun s =>
  check (alertFate (consoleAlert s.time link pat) (s.floor ch).alerts != .notAdmitted) .alertListFull <|
  accept false (.alert (alertFate (consoleAlert s.time link pat) (s.floor ch).alerts))
    (requestAlert ch (consoleAlert s.time link pat))

/-- PLAY (R173): mode PREEMPT 0, NEXT_FREE 1, MIX 2. -/
def cmdPlay (link : Console) (c p mode : Byte) : Cmd := look fun s =>
  check (s.part == .service) .wrongState <|
  need (inUseChan s c) .channelUnusable fun ch =>
  need (patternOf p) .patternUnknown fun pat =>
  check (s.patterns.get pat).isSome .patternEmpty <|
  if mode = 1 then playNextFree link ch pat
  else if mode = 2 then playMix ch pat
  else refuse .badMode

/-! ## The rows -/

/-- LOAD_PATTERN. -/
def execLoadPattern (link : Console) (pat rep : Byte) (steps : List StepField) :
    State → Host.Outcome State Fault Refusal :=
  event (takeCommand link 0x03#8 (cmdLoadPattern pat rep steps))
/-- PLAY. -/
def execPlay (link : Console) (ch pat mode : Byte) : State → Host.Outcome State Fault Refusal :=
  event (takeCommand link 0x22#8 (cmdPlay link ch pat mode))
/-- TONE_STEP_END (R166). -/
def execToneStepEnd (ch : Chan) : State → Host.Outcome State Fault Refusal :=
  event (fun s => whenSome (s.generator ch) (fun g => expiry (some g.stepEnd) (stepEnds ch g)) s)

end Sys2Proof.Machine
end

