-- ==== Sys2Proof/Machine/Ports.lean ====
section
/-! DEFINITION. Machine/Ports.lean: the Port Manager (R137 to R152), with the end and abort of path tests (R159, R160)
that its events make. -/

namespace Sys2Proof.Machine

/-! ## Ending a test (R159, R160) -/

/-- R153: a record is running. -/
def TestRec.running (t : TestRec) : Bool := t.state == .search || t.state == .synced

/-- The running test of a port. -/
def State.runningTest (s : State) (p : Port) : Option TestRec := (s.testOf p).filter TestRec.running

/-- R159 steps 1 and 2, R160: the record is finished. -/
def TestRec.finished (now : Time) (st : TestState) (reason : Option AbortReason) (t : TestRec) : TestRec :=
  { t with state := st, abort := reason, endTime := now, insertPending := false }

/-- R159 step 3: in REMOTE mode an ECHO_OFF is placed on the echo channel. -/
def echoOff (p : Port) (t : TestRec) (s : State) : State :=
  match t.mode, t.echoUnit, t.echoChannel with
  | .remote, some u, some ch => placeFrame ch ⟨u, .echoOff p t.seq⟩ s
  | _, _, _ => s

/-- R160: a running test is aborted: the record is finished, ECHO_OFF is placed and TEST_RESULT goes out. -/
def abortTest (p : Port) (reason : AbortReason) (s : State) : State :=
  whenSome (s.runningTest p) (fun t s =>
    broadcast (.testResult p (t.finished s.time .aborted (some reason)))
      (echoOff p t (setTest p (some (t.finished s.time .aborted (some reason))) s))) s

/-! ## Tuning -/

/-- A port becomes TUNING for a channel and is sent a TUNE order (R143, R145, R147). -/
def tuneTo (p : Port) (ch : Chan) (purpose : TunePurpose) (s : State) : State :=
  send p (.tune (s.chan ch).freq)
    (portTo p .tuning .tune (fun r => { r with
      channel := some ch
      purpose := some purpose
      tuneDeadline := some (after s.time 1000) }) s)

/-- A channel's entry to TRANSFER is latched and reported (R143, R145, R146). -/
def reportTransfer (ch : Chan) (lost tuning : Option Port) (s : State) : State :=
  broadcast (.channelTransfer ch lost tuning) (latchAll ch .transferSeen s)

/-- R145: a channel closes. -/
def closeChannel (ch : Chan) (s : State) : State :=
  broadcast (.channelClosed ch)
    (latchAll ch .closedSeen
      (tellClosure ch (setFrames ch [] (closeFloor ch s))))

/-- R145: the lowest-numbered CLOSED channel. -/
def lowestClosed (s : State) : Option Chan := allChans.find? (fun ch => (s.floor ch).state == .closed)

/-- R145: in SERVICE a port newly STANDBY is taken by the lowest-numbered CLOSED channel. -/
def takeUpClosed (p : Port) (s : State) : State :=
  if s.part = .service then
    whenSome (lowestClosed s) (fun ch s =>
      reportTransfer ch none (some p) (openTransfer ch (tuneTo p ch .transfer s))) s
  else s

/-- R143: the candidate of a spare search. -/
def candidate (s : State) : Option Port :=
  match s.lowestPort .standby with
  | some p => some p
  | none => s.lowestPort .test

/-- R143: the spare search for a channel. A candidate in TEST has its test aborted; `enter` is what the channel does in
this event where it was not in TRANSFER before it; with no candidate the channel does `closing`. -/
def spareSearch (enter : Port → State → State) (closing : State → State) (ch : Chan) (s : State) : State :=
  match candidate s with
  | none => closing s
  | some q => tuneTo q ch .transfer (enter q (abortTest q .failover s))

/-- R143: the search for a channel that is in TRANSFER already. -/
def searchAgain (ch : Chan) (s : State) : State := spareSearch (fun _ => id) (closeChannel ch) ch s

/-- R147: the port tuning for a swap of a channel. -/
def swapPortOf (s : State) (ch : Chan) : Option Port :=
  allPorts.find? (fun p =>
    (s.port p).state == .tuning && (s.port p).purpose == some .swap && (s.port p).channel == some ch)

/-- R143, R148: the carrying port of a channel has been lost: the port that tunes for its swap goes on as its tuning port,
or a spare is sought. -/
def loseCarrier (lost : Port) (ch : Chan) (s : State) : State :=
  match swapPortOf s ch with
  | some q =>
    broadcast (.swapFailed ch q .portLost)
      (modPort q (fun r => { r with purpose := some .transfer })
        (reportTransfer ch (some lost) (some q) (enterTransfer ch s)))
  | none =>
    spareSearch (fun q s => reportTransfer ch (some lost) (some q) (enterTransfer ch s)) (closeChannel ch) ch s

/-- R151: a port that leaves ACTIVE for STANDBY or FAILED is sent a closed gate, and its tone line is made silent. -/
def shutPort (p : Port) (s : State) : State := connectTone p none (sendGate p none s)

/-- R151: a port that becomes ACTIVE for a channel is sent the channel's gate setting and tone line. -/
def servePort (p : Port) (ch : Chan) (s : State) : State := connectTone p (some ch) (sendGate p (s.floor ch).gate s)

/-- R141, R149: what the loss of a port in its former state `r` does to its channel or test. `shut` is what the port is
sent where it carried a channel. -/
def portLost (p : Port) (r : PortRec) (cause : SwapCause) (shut : State → State) (s : State) : State :=
  match r.state with
  | .active => whenSome r.channel (fun ch s => loseCarrier p ch (shut s)) s
  | .tuning =>
    whenSome r.channel (fun ch s =>
      if r.purpose = some .swap then broadcast (.swapFailed ch p cause) s else searchAgain ch s) s
  | .test => abortTest p .portFailed s
  | .absent | .standby | .failed | .isolated => s

/-- The PORT_STATE cause of a failure (7.8). -/
def FailCause.portCause : FailCause → PortCause
  | .silent => .silent | .fault => .fault | .tuneTimeout => .tuneTimeout
/-- The SWAP_FAILED cause of a failure (R148). -/
def FailCause.swapCause : FailCause → SwapCause
  | .silent => .silent | .fault => .fault | .tuneTimeout => .tuneTimeout

/-- R141: the fields of a port that no longer tunes, carries or counts. -/
def PortRec.dropped (r : PortRec) : PortRec :=
  { r with channel := none, purpose := none, tuneDeadline := none, okStart := none }

/-- R141: a port fails. -/
def failPort (p : Port) (cause : FailCause) (s : State) : State :=
  portLost p (s.port p) cause.swapCause (shutPort p)
    (portTo p .failed cause.portCause (fun r => { r.dropped with lastCause := some cause }) s)

/-! ## Health (R139, R140, R142) -/

/-- R139: a healthy report changes the status from OK to DEGRADED or back. -/
def statusChanged (old : Option Health) (new : Health) : Bool :=
  old == some .ok && new == .degraded || old == some .degraded && new == .ok

/-- R139: a healthy report in STANDBY, TUNING, ACTIVE or TEST. `old` is the status before it. -/
def stillHealthy (p : Port) (old : Option Health) (h : Health) (s : State) : State :=
  (match (s.port p).state, (s.port p).channel, h with
    | .active, some ch, .degraded => latchAll ch .degraded
    | .tuning, some ch, .degraded => latchAll ch .degraded
    | _, _, _ => id)
    (if statusChanged old h then broadcast (.portHealth p h) s else s)

/-- R139: a healthy report. -/
def healthy (p : Port) (old : Option Health) (h : Health) (s : State) : State :=
  match (s.port p).state with
  | .absent => takeUpClosed p (portTo p .standby .healthy id s)
  | .failed => modPort p (fun r => { r with okStart := some (r.okStart.getD s.time) }) s
  | .standby | .tuning | .active | .test => stillHealthy p old h s
  | .isolated => s

/-- R139: a FAULT report. -/
def faulty (p : Port) (s : State) : State :=
  if (s.port p).state = .failed then modPort p (fun r => { r with okStart := none }) s else failPort p .fault s

/-- R139: a report is taken. -/
def takeHealth (p : Port) (h : Health) (s : State) : State :=
  (match h with
    | .ok | .degraded => healthy p (s.port p).status h
    | .fault => faulty p)
    (modPort p (fun r => { r with lastHealth := some s.time, status := some h }) s)

/-- HEALTH_REPORT (R139, R196): a status above 2 is no report, and an ISOLATED port is not listened to. -/
def execHealthReport (p : Port) (status : Byte) : State → Host.Outcome State Fault Refusal :=
  event (fun s => if (s.port p).state = .isolated then s else whenSome (healthOf status) (takeHealth p) s)

/-- R140: 500 ms of silence. -/
def silence (p : Port) (s : State) : State :=
  match (s.port p).state with
  | .standby | .tuning | .active | .test => failPort p .silent s
  | .failed => modPort p (fun r => { r with okStart := none }) s
  | .absent | .isolated => s

/-- HEALTH_SILENCE (R140). -/
def execHealthSilence (p : Port) : State → Host.Outcome State Fault Refusal :=
  event (fun s => expiry ((s.port p).lastHealth.map (fun t => after t 500)) (silence p) s)

/-- R142: the port is restored. -/
def restored (p : Port) (s : State) : State :=
  if (s.port p).state = .failed then
    takeUpClosed p (portTo p .standby .recovered (fun r => { r with okStart := none }) s)
  else s

/-- RESTORATION_MARK (R142). -/
def execRestorationMark (p : Port) : State → Host.Outcome State Fault Refusal :=
  event (fun s => expiry ((s.port p).okStart.map (fun t => after t 10000)) (restored p) s)

/-! ## Tuning completed or timed out (R144, R148) -/

/-- R144, R148: the tuned port becomes ACTIVE and is sent the channel's gate and tone. -/
def becomeCarrier (p : Port) (ch : Chan) (s : State) : State :=
  servePort p ch (portTo p .active .tuned (fun r => { r with purpose := none, tuneDeadline := none }) s)

/-- R148: a swap completes; `former` carried the channel. -/
def completeSwap (p former : Port) (ch : Chan) (s : State) : State :=
  takeUpClosed former
    (broadcast (.swapDone ch former p)
      (latchAll ch .transferSeen
        (modFloor ch (Floor.losesCarrier s.time)
          (shutPort former
            (portTo former .standby .swapped (fun r => { r with channel := none })
              (becomeCarrier p ch s))))))

/-- R144: a TUNED report from a port in TUNING for a channel. -/
def tuned (p : Port) (ch : Chan) (purpose : TunePurpose) (s : State) : State :=
  match purpose with
  | .swap => whenSome (s.carrier ch) (fun former => completeSwap p former ch) s
  | .start | .transfer => broadcast (.channelRestored ch p) (leaveTransfer ch (becomeCarrier p ch s))

/-- TUNED (R144, R148): ignored from a port that is not TUNING. -/
def execTuned (p : Port) : State → Host.Outcome State Fault Refusal :=
  event (fun s =>
    if (s.port p).state = .tuning then
      whenSome (s.port p).channel (fun ch => whenSome (s.port p).purpose (fun u => tuned p ch u)) s
    else s)

/-- TUNE_DEADLINE (R144, R148). -/
def execTuneDeadline (p : Port) : State → Host.Outcome State Fault Refusal :=
  event (fun s =>
    if (s.port p).state = .tuning then expiry (s.port p).tuneDeadline (failPort p .tuneTimeout) s else s)

/-! ## Commands (R147, R149, R150, R152) -/

/-- SWAP_PORT (R147). -/
def cmdSwapPort (c : Byte) : Cmd := look fun s =>
  check (s.part == .service) .wrongState <|
  need (inUseChan s c) .channelUnusable fun ch =>
  check (!uncarried s ch) .channelUnavailable <|
  check (swapPortOf s ch).isNone .swapInProgress <|
  need (s.lowestPort .standby) .noSpare fun p =>
  accept false (.port p) (tuneTo p ch .swap)

/-- R149: a port is isolated: its outputs go high-impedance and it is sent nothing. -/
def isolate (p : Port) (s : State) : State :=
  portLost p (s.port p) .isolated id
    (portTo p .isolated .isolated (fun r => { r.dropped with
      pins := { r.pins with highZ := true, tone := none } }) s)

/-- ISOLATE_PORT (R149). -/
def cmdIsolatePort (b : Byte) : Cmd := look fun s =>
  need (portOf b) .portUnknown fun p =>
  done (if (s.port p).state = .isolated then id else isolate p)

/-- RESTORE_PORT (R150). -/
def cmdRestorePort (b : Byte) : Cmd := look fun s =>
  need (portOf b) .portUnknown fun p =>
  check ((s.port p).state == .isolated) .notIsolated <|
  done (portTo p .absent .restored (fun r => { r with
    lastHealth := none
    status := none
    pins := { r.pins with highZ := false } }))

/-- R152: the channels to which a port is assigned. -/
def assignedTo (s : State) (p : Port) : List Chan := allChans.filter (fun ch => (s.chan ch).port == some p)

/-- R152: the channel to which a port is assigned. Where several are, which one is a free value (log entry 20). -/
def assigned (s : State) (p : Port) : Option Chan :=
  match assignedTo s p with
  | [] => none
  | [ch] => some ch
  | cs => cs[Config.sharedPortIndex p s.time.toNat % cs.length]?

/-- R152: for a FAILED port with a run under way, the time at which restoration is due. -/
def restorationDue (r : PortRec) : Option Time :=
  if r.state = .failed then r.okStart.map (fun t => after t 10000) else none

/-- READ_PORT (R152). -/
def cmdReadPort (b : Byte) : Cmd := look fun s =>
  need (portOf b) .portUnknown fun p =>
  accept false (.portRecord (s.port p) (assigned s p) (restorationDue (s.port p))) id

/-- SWAP_PORT. -/
def execSwapPort (link : Console) (ch : Byte) : State → Host.Outcome State Fault Refusal :=
  event (takeCommand link 0x28#8 (cmdSwapPort ch))
/-- ISOLATE_PORT. -/
def execIsolatePort (link : Console) (p : Byte) : State → Host.Outcome State Fault Refusal :=
  event (takeCommand link 0x29#8 (cmdIsolatePort p))
/-- RESTORE_PORT. -/
def execRestorePort (link : Console) (p : Byte) : State → Host.Outcome State Fault Refusal :=
  event (takeCommand link 0x2A#8 (cmdRestorePort p))
/-- READ_PORT. -/
def execReadPort (link : Console) (p : Byte) : State → Host.Outcome State Fault Refusal :=
  event (takeCommand link 0x34#8 (cmdReadPort p))

end Sys2Proof.Machine
end

