-- ==== Sys2Proof/Machine/PathTest.lean ====
section
/-! DEFINITION. Machine/PathTest.lean: the Path Tester (R153 to R161). -/

namespace Sys2Proof.Machine

/-! ## The shift registers (R154, R156): bit i - 1 is stage i -/

/-- R154: the content of stage 15. -/
def stage15 (r : BitVec 15) : Bool := r.getLsbD 14
/-- R154: the exclusive-or of stages 15 and 14. -/
def feedback (r : BitVec 15) : Bool := r.getLsbD 14 ^^ r.getLsbD 13
/-- Shift every stage one place towards stage 15 and place a bit in stage 1. -/
def shiftIn (b : Bool) (r : BitVec 15) : BitVec 15 := (r <<< 1) ||| (BitVec.ofBool b).setWidth 15
/-- R154, R157: one shift of the generator, and of the checker where it runs free. -/
def advance (r : BitVec 15) : BitVec 15 := shiftIn (feedback r) r
/-- The register one shift of the generator before: every stage one place towards stage 1, and in stage 15 the bit that gives
stage 1 as the exclusive-or. -/
def retreat (r : BitVec 15) : BitVec 15 :=
  (r >>> 1) ||| ((BitVec.ofBool (r.getLsbD 0 ^^ r.getLsbD 14)).setWidth 15 <<< 14)

/-! ## The checker (R156, R157) -/

/-- R156, R157: the checker's prediction of the next bit, the content of its stage 15. -/
def prediction (r : BitVec 15) : Bool := stage15 r

/-- R156: the sender's state after fifteen bits, where `h` is a register that the bits have entered at stage 1 one by one: the
state in which the sender was before it sent them, run on by fifteen shifts of the generator. -/
def sendersState (h : BitVec 15) : BitVec 15 := Nat.repeat advance 15 h

/-- R156: the last fifteen bits that have entered a register, the last in stage 1: the register run back by fifteen shifts, so
that `sendersState` makes the register of them again (`sendersState_bitsTaken` in Laws/Checker.lean). -/
def bitsTaken (r : BitVec 15) : BitVec 15 := Nat.repeat retreat 15 r

/-- R156: the register in SEARCH after a received bit. The bits that have entered it shift one place towards stage 15, and the
received bit enters stage 1 in place of the exclusive-or; the register then holds the sender's state for these fifteen bits,
and its stage 15 predicts the bit that follows. DEDUCED (log entry 27): R156 speaks of one register, in which the received bit
cannot stand in stage 1 while it holds the sender's state (`no_literal_checker` in Laws/Checker.lean), so the model keeps the
fifteen places between the two. -/
def fed (b : Bool) (r : BitVec 15) : BitVec 15 := sendersState (shiftIn b (bitsTaken r))

/-- R156, R157: an error: the bit differs from the checker's prediction. -/
def TestRec.wrong (b : Bool) (t : TestRec) : Bool := prediction t.checker != b

/-- R156, R157: a window of 128 bits is judged. -/
def TestRec.judged (now : Time) (t : TestRec) : TestRec :=
  if t.windowBits < Config.windowBits then t
  else
    match t.state with
    | .search =>
      if t.windowErrors < 4 then
        { t with state := .synced, windowBits := 0, windowErrors := 0, firstSync := some (t.firstSync.getD now) }
      else { t with windowBits := 0, windowErrors := 0 }
    | .synced =>
      if 16 ≤ t.windowErrors then
        { t with state := .search, windowBits := 0, windowErrors := 0, losses := saturate 65535 1 t.losses }
      else { t with windowBits := 0, windowErrors := 0 }
    | .done | .aborted => t

/-- R156, R157: a received bit, before the window is judged. -/
def TestRec.counts (b : Bool) (t : TestRec) : TestRec :=
  match t.state with
  | .search =>
    { t with
      windowBits := t.windowBits + 1
      windowErrors := t.windowErrors + (t.wrong b).toNat
      checker := fed b t.checker }
  | .synced =>
    { t with
      windowBits := t.windowBits + 1
      windowErrors := t.windowErrors + (t.wrong b).toNat
      bits := saturate 4294967295 1 t.bits
      errors := saturate 4294967295 (t.wrong b).toNat t.errors
      checker := advance t.checker }
  | .done | .aborted => t

/-- R156, R157: the checker takes a received bit. -/
def TestRec.takes (now : Time) (t : TestRec) (b : Bool) : TestRec := (t.counts b).judged now

/-- 12.5: the bits of ECHO test data, most significant first. -/
def bitsOf (bytes : List Byte) : List Bool :=
  (bytes.map (fun b => [b.getLsbD 7, b.getLsbD 6, b.getLsbD 5, b.getLsbD 4, b.getLsbD 3, b.getLsbD 2, b.getLsbD 1,
    b.getLsbD 0])).flatten

/-! ## Starting and ending (R155, R159) -/

/-- R153: the next test sequence number: 255 is followed by 1. -/
def nextSequence (n : Nat) : Nat := if n < 255 then n + 1 else 1

/-- R155 step 2: a fresh record. -/
def newTest (s : State) (p : Port) (mode : TestMode) (dur : Nat) (echo : Option (UnitId × Nat)) : TestRec where
  mode := mode
  echoUnit := echo.map (·.1)
  echoChannel := echo.map (fun e => s.currentOf e.1)
  freq := echo.map (·.2)
  seq := nextSequence (s.sequences.get p)
  duration := dur
  state := .search
  bits := 0
  errors := 0
  losses := 0
  inserted := 0
  insertPending := false
  start := s.time
  endTime := after s.time (1000 * dur)
  firstSync := none
  abort := none
  generator := BitVec.allOnes 15
  checker := BitVec.allOnes 15
  windowBits := 0
  windowErrors := 0

/-- R155 step 4: the test order of a mode. -/
def testOrder (p : Port) (t : TestRec) (s : State) : State :=
  match t.mode with
  | .loc => s
  | .unit => send p .testLoop s
  | .remote => send p (.testAir (t.freq.getD 0)) s

/-- R155 step 5: ECHO_ON in REMOTE mode. -/
def echoOn (p : Port) (t : TestRec) (s : State) : State :=
  match t.mode, t.echoUnit, t.echoChannel with
  | .remote, some u, some ch => placeFrame ch ⟨u, .echoOn p t.seq (t.freq.getD 0) t.duration⟩ s
  | _, _, _ => s

/-- R155 steps 1 to 6. -/
def startTest (p : Port) (t : TestRec) (s : State) : State :=
  echoOn p t (testOrder p t (portTo p .test .testStart id
    (setTest p (some t) { s with sequences := s.sequences.put p t.seq })))

/-- R159: a running test ends normally, and the port, newly STANDBY, may be taken by a CLOSED channel. -/
def endTest (p : Port) (t : TestRec) (s : State) : State :=
  takeUpClosed p
    (broadcast (.testResult p (t.finished s.time .done none))
      (portTo p .standby .testEnd id
        ((match t.mode with
          | .loc => id
          | .unit | .remote => send p .testEnd)
          (echoOff p t (setTest p (some (t.finished s.time .done none)) s)))))

/-! ## Commands -/

/-- R155: the checks of REMOTE mode. -/
def remoteChecks (s : State) (u : UnitId) (c : Cmd) : Cmd :=
  check (s.part == .service) .wrongState <|
  need (s.unit u) .unitUnknown fun r =>
  check r.binding.isNone .unitBound <|
  check ((s.floor r.current).state != .closed) .channelUnavailable c

/-- R155: a test of a mode; `remote` is the echo unit and frequency code that the body carries in REMOTE alone. -/
def cmdStartMode (p : Port) (mode : TestMode) (dur : BitVec 16) (remote : Option (UnitId × BitVec 16)) : Cmd :=
  look fun s =>
  match mode, remote with
  | .remote, none => refuse .badFormat
  | .remote, some (u, f) =>
    remoteChecks s u <|
    accept ((clamp 1 3600 dur.toNat).2 || (clamp 0 4095 f.toNat).2) (.sequence (nextSequence (s.sequences.get p)))
      (startTest p (newTest s p .remote (clamp 1 3600 dur.toNat).1 (some (u, (clamp 0 4095 f.toNat).1))))
  | m, _ =>
    accept (clamp 1 3600 dur.toNat).2 (.sequence (nextSequence (s.sequences.get p)))
      (startTest p (newTest s p m (clamp 1 3600 dur.toNat).1 none))

/-- START_TEST (R155). The body carries an echo unit in mode 2 alone (R195). -/
def cmdStartTest (b m : Byte) (dur : BitVec 16) (remote : Option (UnitId × BitVec 16)) : Cmd := look fun s =>
  check (remote.isSome == (m == 2)) .badFormat <|
  need (portOf b) .portUnknown fun p =>
  check ((s.port p).state == .standby) .portNotSpare <|
  need (testModeOf m) .badMode fun mode =>
  cmdStartMode p mode dur remote

/-- STOP_TEST (R159). -/
def cmdStopTest (b : Byte) : Cmd := look fun s =>
  need (portOf b) .portUnknown fun p =>
  need (s.runningTest p) .noTest fun t =>
  done (endTest p t)

/-- INSERT_ERROR (R158). -/
def cmdInsertError (b : Byte) : Cmd := look fun s =>
  need (portOf b) .portUnknown fun p =>
  need (s.runningTest p) .noTest fun t =>
  check (!t.insertPending) .insertPending <|
  done (setTest p (some { t with insertPending := true }))

/-- READ_TEST (R161). -/
def cmdReadTest (b : Byte) : Cmd := look fun s =>
  need (portOf b) .portUnknown fun p =>
  need (s.testOf p) .noTest fun t =>
  accept false (.testRecord t) id

/-! ## Events -/

/-- R154, R158: the bit the generator sends. -/
def TestRec.sentBit (t : TestRec) : Bool := stage15 t.generator ^^ t.insertPending

/-- R154, R158: the record after a generated bit; in LOCAL mode the loop returns the bit to the checker at once. -/
def TestRec.generates (now : Time) (t : TestRec) : TestRec :=
  (fun u : TestRec => match t.mode with
    | .loc => u.takes now t.sentBit
    | .unit | .remote => u)
    { t with
      generator := advance t.generator
      insertPending := false
      inserted := saturate 65535 t.insertPending.toNat t.inserted }

/-- TEST_BIT (R154, R158). -/
def execTestBit (p : Port) : State → Host.Outcome State Fault Refusal :=
  event (fun s => whenSome (s.runningTest p) (fun t s =>
    (match t.mode with
      | .loc => id
      | .unit | .remote => send p (.bit t.sentBit))
      (setTest p (some (t.generates s.time)) s)) s)

/-- R135, R156: the checker takes ECHO test data; in LOCAL mode it is ignored. -/
def takeEcho (p : Port) (bytes : List Byte) (s : State) : State :=
  whenSome (s.runningTest p) (fun t s =>
    if t.mode = .loc then s
    else setTest p (some ((bitsOf bytes).foldl (TestRec.takes s.time) t)) s) s

/-- ECHO_TEST_DATA (R132, R135, R196): taken from a port in TEST, in CONFIG too; 1 to 32 bytes. -/
def execEchoTestData (p : Port) (bytes : List Byte) : State → Host.Outcome State Fault Refusal :=
  event (fun s =>
    if (s.port p).state = .test ∧ 1 ≤ bytes.length ∧ bytes.length ≤ 32 then takeEcho p bytes s else s)

/-- TEST_END_TIME (R159). -/
def execTestEndTime (p : Port) : State → Host.Outcome State Fault Refusal :=
  event (fun s => whenSome (s.runningTest p) (fun t => expiry (some t.endTime) (endTest p t)) s)

/-- START_TEST. -/
def execStartTest (link : Console) (p m : Byte) (dur : BitVec 16) (remote : Option (UnitId × BitVec 16)) :
    State → Host.Outcome State Fault Refusal :=
  event (takeCommand link 0x2B#8 (cmdStartTest p m dur remote))
/-- STOP_TEST. -/
def execStopTest (link : Console) (p : Byte) : State → Host.Outcome State Fault Refusal :=
  event (takeCommand link 0x2C#8 (cmdStopTest p))
/-- INSERT_ERROR. -/
def execInsertError (link : Console) (p : Byte) : State → Host.Outcome State Fault Refusal :=
  event (takeCommand link 0x2D#8 (cmdInsertError p))
/-- READ_TEST. -/
def execReadTest (link : Console) (p : Byte) : State → Host.Outcome State Fault Refusal :=
  event (takeCommand link 0x35#8 (cmdReadTest p))

end Sys2Proof.Machine
end

