-- ==== Sys2Proof/Machine/Enrol.lean ====
section
/-! DEFINITION. Machine/Enrol.lean: the Enrolment Unit (R97 to R113), the hand-over of downlink frames that leads to
admission (R127), and the reads and aging of the Unit Register (R119 to R121). -/

namespace Sys2Proof.Machine

/-! ## The quiet list (R110, R111) -/

/-- R98 case 1: a unit is in the quiet list. -/
def isQuiet (s : State) (u : UnitId) : Bool := s.quiet.any (fun q => q.unit == u)

/-- R111: a unit enters the quiet list: its own entry's expiry is replaced, or it is added, at a full list in place of
the entry with the earliest expiry. -/
def enterQuiet (now : Time) (u : UnitId) (qs : List Quiet) : List Quiet :=
  if qs.any (fun q => q.unit == u) then qs.map (fun q => if q.unit == u then ⟨u, after now 1500⟩ else q)
  else if qs.length < Config.quietRoom then qs ++ [⟨u, after now 1500⟩]
  else qs.eraseIdx (earliestIndex now 1500 (qs.map (·.expiry))) ++ [⟨u, after now 1500⟩]

/-! ## Freeing a slot (R108) -/

/-- R108 step 3: the causes that make the unit quiet. -/
def EnrolCause.quiets : EnrolCause → Bool
  | .lapsed | .timeout | .noLevel | .registerFull => true
  | .bound | .admitted => false

/-- R108 step 4: the causes that ENROL_FAILED reports. -/
def EnrolCause.reported : EnrolCause → Bool
  | .timeout | .noLevel | .bound | .registerFull => true
  | .lapsed | .admitted => false

/-- An ENROL_REJECT to a unit on CH0 (R98, R108). -/
def reject (u : UnitId) (r : AirReason) (s : State) : State := placeFrame 0 ⟨u, .enrolReject r⟩ s

/-- R108: a held slot is freed with a cause, and with the ENROL_REJECT that the freeing rule names, if any. -/
def freeSlot (i : SlotIx) (sl : Slot) (cause : EnrolCause) (r : Option AirReason) (s : State) : State :=
  setSlot i none
    ((if cause.reported then broadcast (.enrolFailed sl.unit cause sl.phase) else id)
      ((if cause.quiets then fun t => { t with quiet := enterQuiet t.time sl.unit t.quiet } else id)
        (whenSome r (reject sl.unit) (withdraw sl.unit s))))

/-! ## Bursts (R98 to R105) -/

/-- R97: the words are consistent; the acknowledge flag is left out. -/
def Capability.agrees (a b : Capability) : Bool :=
  a.unit == b.unit && a.kind == b.kind && a.levels == b.levels && a.chans == b.chans

/-- R102: the highest level in a set. -/
def highestLevel (set : BitVec 3) : Option Level :=
  if set.getLsbD 2 then some .l3 else if set.getLsbD 1 then some .l2 else if set.getLsbD 0 then some .l1 else none

/-- R102: the resolved level; none where the negotiation is rejected. -/
def resolvedLevel (offered : BitVec 3) (w : Capability) : Option Level :=
  (highestLevel (offered &&& w.levels)).filter (fun l => w.kind != .locoRc || l == .l3)

/-- The set of the channels in use. -/
def inUseSet (s : State) : BitVec 6 :=
  allChans.foldl (fun set ch => if (s.chan ch).inUse then set ||| BitVec.ofNat 6 (2 ^ ch.val) else set) 0

/-- R102: the effective channel set. -/
def effectiveSet (s : State) (w : Capability) : BitVec 6 := (w.chans &&& inUseSet s) ||| 1

/-- R103: an OFFER of a slot. -/
def sendOffer (sl : Slot) (s : State) : State :=
  placeFrame 0 ⟨sl.unit, .offer (sl.level.getD .l1) (sl.chans.getD 0)⟩ s

/-- R105: the CONFIRM of a slot with a sequence number. -/
def sendConfirm (sl : Slot) (seq : Nat) (s : State) : State :=
  placeFrame 0 ⟨sl.unit, .confirm (sl.level.getD .l1) (sl.chans.getD 0) seq⟩ s

/-- R102: the slot enters ACK_WAIT. -/
def Slot.waits (now : Time) (l : Level) (chs : BitVec 6) (sl : Slot) : Slot :=
  { sl with phase := .ackWait, phaseStart := now, level := some l, chans := some chs, acked := 0, offers := 0 }

/-- R102: the level and channels are resolved, and the slot enters ACK_WAIT or is rejected. -/
def resolve (i : SlotIx) (sl : Slot) (s : State) : State :=
  match resolvedLevel s.globals.levels sl.word with
  | none => freeSlot i sl .noLevel (some .noLevel) s
  | some l =>
    sendOffer (sl.waits s.time l (effectiveSet s sl.word))
      (setSlot i (some (sl.waits s.time l (effectiveSet s sl.word))) s)

/-- R101: a burst taken for a slot in LISTEN. -/
def burstListen (i : SlotIx) (sl : Slot) (w : Capability) (s : State) : State :=
  if w.agrees sl.word then
    if sl.consistent + 1 = 3 then resolve i { sl with lastBurst := s.time, consistent := 3 } s
    else setSlot i (some { sl with lastBurst := s.time, consistent := sl.consistent + 1 }) s
  else setSlot i (some { sl with lastBurst := s.time, word := w, consistent := 1 }) s

/-- R105: the slot enters CONFIRM. -/
def Slot.confirms1 (now : Time) (sl : Slot) : Slot :=
  { sl with phase := .confirm, phaseStart := now, lastBurst := now, acked := 3, confirms := 1 }

/-- R103: an inconsistent burst returns the slot to LISTEN. -/
def Slot.relistens (now : Time) (w : Capability) (sl : Slot) : Slot :=
  { sl with
    phase := .listen
    word := w
    consistent := 1
    acked := 0
    phaseStart := now
    lastBurst := now
    level := none
    chans := none }

/-- R103: a burst taken for a slot in ACK_WAIT. -/
def burstAckWait (i : SlotIx) (sl : Slot) (w : Capability) (s : State) : State :=
  if w.agrees sl.word then
    if w.ack then
      if sl.acked + 1 = 3 then sendConfirm (sl.confirms1 s.time) 1 (setSlot i (some (sl.confirms1 s.time)) s)
      else setSlot i (some { sl with lastBurst := s.time, acked := sl.acked + 1 }) s
    else setSlot i (some { sl with lastBurst := s.time }) s
  else setSlot i (some (sl.relistens s.time w)) (withdraw sl.unit s)

/-- R98 case 3: a burst taken by the rule for the slot's phase. -/
def burstInSlot (i : SlotIx) (sl : Slot) (w : Capability) (s : State) : State :=
  match sl.phase with
  | .listen => burstListen i sl w s
  | .ackWait => burstAckWait i sl w s
  | .confirm => setSlot i (some { sl with lastBurst := s.time }) s

/-- R100: a slot newly taken. -/
def newSlot (now : Time) (w : Capability) : Slot where
  unit := w.unit
  word := w
  phase := .listen
  consistent := 1
  acked := 0
  slotStart := now
  phaseStart := now
  lastBurst := now
  level := none
  chans := none
  stuck := false
  confirms := 0
  offers := 0

/-- R99: the held slot of a unit. -/
def slotOf (s : State) (u : UnitId) : Option (SlotIx × Slot) :=
  allSlots.findSome? (fun i => ((s.slot i).filter (fun sl => sl.unit == u)).map (fun sl => (i, sl)))

/-- R98: a burst that R97 does not set aside. -/
def takeBurst (w : Capability) (s : State) : State :=
  if isQuiet s w.unit then s
  else if (s.bindingOf (.unit w.unit)).isSome then
    match slotOf s w.unit with
    | some (i, sl) => freeSlot i sl .bound (some .bound) s
    | none => reject w.unit .bound s
  else
    match slotOf s w.unit with
    | some (i, sl) => burstInSlot i sl w s
    | none => whenSome (allSlots.find? (fun i => (s.slot i).isNone)) (fun i => setSlot i (some (newSlot s.time w))) s

/-- R97: the word of a CAPABILITY frame that the Enrolment Unit does not ignore. DEDUCED (log entry 32): bit 0 of the flags byte
is the acknowledge flag (12.6), and its bits 1 to 7 are ignored. -/
def wordOf (src : UnitId) (kind levels chans flags : Byte) : Option Capability :=
  if isUnitId src then
    (kindOf kind).map (fun k => ⟨src, k, levelSetOf levels, chanSetOf chans, flags.getLsbD 0⟩)
  else none

/-- CAPABILITY (R97, R98, R132, R133 step 2): passed on whatever its source, which is refreshed where registered. -/
def execCapability (p : Port) (src : UnitId) (kind levels chans flags : Byte) :
    State → Host.Outcome State Fault Refusal :=
  event (fun s =>
    if s.part = .config then s
    else whenSome (s.carriedBy p) (fun ch s =>
      if ch = 0 then whenSome (wordOf src kind levels chans flags) takeBurst (refresh src s) else refresh src s) s)

/-! ## Slot timers (R103 to R107, R110) -/

/-- Take an expiry of a held slot. -/
def slotTimer (i : SlotIx) (f : Slot → State → State) : State → Host.Outcome State Fault Refusal :=
  event (fun s => whenSome (s.slot i) f s)

/-- OFFER_REPETITION (R103). -/
def execOfferRepetition (i : SlotIx) : State → Host.Outcome State Fault Refusal := slotTimer i (fun sl s =>
  if sl.phase = .ackWait ∧ reached s.time (after sl.phaseStart (200 * (sl.offers + 1))) then
    sendOffer sl (setSlot i (some { sl with offers := sl.offers + 1 }) s)
  else s)

/-- CONFIRM_SPACING (R105). -/
def execConfirmSpacing (i : SlotIx) : State → Host.Outcome State Fault Refusal := slotTimer i (fun sl s =>
  if sl.phase = .confirm ∧ sl.confirms < 4 ∧ reached s.time (after sl.phaseStart (200 * sl.confirms)) then
    sendConfirm sl (sl.confirms + 1) (setSlot i (some { sl with confirms := sl.confirms + 1 }) s)
  else s)

/-- LAPSE_TIMER (R106). -/
def execLapseTimer (i : SlotIx) : State → Host.Outcome State Fault Refusal := slotTimer i (fun sl s =>
  if sl.phase ≠ .confirm then expiry (some (after sl.lastBurst 1000)) (freeSlot i sl .lapsed none) s else s)

/-- STUCK_MARK (R104). -/
def execStuckMark (i : SlotIx) : State → Host.Outcome State Fault Refusal := slotTimer i (fun sl s =>
  if sl.phase = .ackWait ∧ sl.stuck = false then
    expiry (some (after sl.phaseStart 1500)) (fun s =>
      broadcast (.enrolStuck i sl.unit sl.level sl.acked)
        (latchStuck (setSlot i (some { sl with stuck := true }) s))) s
  else s)

/-- FAILURE_TIMER (R107). -/
def execFailureTimer (i : SlotIx) : State → Host.Outcome State Fault Refusal := slotTimer i (fun sl =>
  expiry (some (after sl.slotStart 6000))
    (freeSlot i sl .timeout (if sl.phase = .listen then none else some .timeout)))

/-- QUIET_LIST_EXPIRY (R111). -/
def execQuietListExpiry (u : UnitId) : State → Host.Outcome State Fault Refusal :=
  event (fun s => { s with quiet := s.quiet.filter (fun q => !(q.unit == u && reached s.time q.expiry)) })

/-! ## Hand-over and admission (R127, R112, R113) -/

/-- R112, R115: the new record of an admitted unit. -/
def newRecord (now : Time) (sl : Slot) : UnitRec where
  unit := sl.unit
  kind := sl.word.kind
  level := sl.level.getD .l1
  chans := sl.chans.getD 1
  current := 0
  binding := none
  admitted := now
  lastHeard := now
  unboundSince := now

/-- R112: the end of an admission: the slot is freed and UNIT_ADMITTED goes out. -/
def reportAdmitted (i : SlotIx) (sl : Slot) (replaced : Bool) (s : State) : State :=
  broadcast (.unitAdmitted sl.unit sl.word.kind (sl.level.getD .l1) (sl.chans.getD 1) replaced)
    (freeSlot i sl .admitted none s)

/-- R112 case 2: the unit's unbound record is replaced in its place. -/
def replaceRecord (i : SlotIx) (sl : Slot) (s : State) : State :=
  reportAdmitted i sl true (modUnit sl.unit (fun _ => newRecord s.time sl) (removeRecord true sl.unit s))

/-- R112 case 3: a new record is written. -/
def addRecord (i : SlotIx) (sl : Slot) (s : State) : State :=
  reportAdmitted i sl false { s with units := s.units ++ [newRecord s.time sl] }

/-- R112 case 4: a record is evicted, and the new one is written. -/
def evictFor (i : SlotIx) (sl : Slot) (old : UnitRec) (s : State) : State :=
  addRecord i sl (broadcast (.unitEvicted old.unit old.lastHeard sl.unit) (removeRecord false old.unit s))

/-- R112: admission is attempted; floors that a removal leaves free are served at the end of the event. -/
def admitUnit (i : SlotIx) (sl : Slot) (s : State) : State :=
  serveFreed s
    (match s.unit sl.unit with
      | some r => if r.binding.isSome then freeSlot i sl .bound (some .bound) s else replaceRecord i sl s
      | none =>
        if s.units.length < Config.registerRoom then addRecord i sl s
        else
          match evicted s.time s.units with
          | some old => evictFor i sl old s
          | none => freeSlot i sl .registerFull (some .registerFull) s)

/-- R105, R127: a frame handed to the port is the fourth CONFIRM. -/
def Frame.isLastConfirm (f : Frame) : Bool :=
  match f.body with
  | .confirm _ _ n => n == 4
  | _ => false

/-- R127: the hand-over of a CONFIRM is reported to the Enrolment Unit. -/
def handedOver (f : Frame) (s : State) : State :=
  if f.isLastConfirm then
    whenSome (slotOf s f.dest) (fun x s => if x.2.phase = .confirm then admitUnit x.1 x.2 s else s) s
  else s

/-- R127: the head of a channel's queue is handed to its carrying port. -/
def handHead (p : Port) (ch : Chan) (s : State) : State :=
  whenSome (headOf (s.frames ch)) (fun f s =>
    handedOver f (send p (.air f) (setFrames ch (withoutHead (s.frames ch)) s))) s

/-- SLOT_READY (R127): a slot from a port that carries no channel hands nothing. -/
def execSlotReady (p : Port) : State → Host.Outcome State Fault Refusal :=
  event (fun s => whenSome (s.carriedBy p) (handHead p) s)

/-! ## The register's timer and reads (R119 to R121) -/

/-- AGING_EXPIRY (R119). -/
def execAgingExpiry (u : UnitId) : State → Host.Outcome State Fault Refusal :=
  event (fun s => whenSome (s.unit u) (fun r s =>
    if r.aged s.time s.globals.ageOut then serveFreed s (ageOutUnit u s) else s) s)

/-- R121: a unit's quiet-list expiry. -/
def quietExpiry (s : State) (u : UnitId) : Option Time := (s.quiet.find? (fun q => q.unit == u)).map (·.expiry)

/-- READ_UNIT (R121). -/
def cmdReadUnit (u : UnitId) : Cmd := look fun s =>
  check (isUnitId u && ((s.unit u).isSome || (slotOf s u).isSome || (quietExpiry s u).isSome)) .unitUnknown <|
  accept false
    (.unitRecord ((s.unit u).map (fun r => (r, r.agingExpiry s.time s.globals.ageOut))) (slotOf s u) (quietExpiry s u)) id

/-- R120: a binding filter. -/
inductive Filter where
  | all
  | unbound
  | move (m : MoveIx)
  deriving DecidableEq, Repr

/-- R120: a record passes a filter. -/
def Filter.passes (f : Filter) (r : UnitRec) : Bool :=
  match f with
  | .all => true
  | .unbound => r.binding.isNone
  | .move m => r.binding == some m

/-- R120: the records listed from a starting ID, in ascending order. -/
def listed (us : List UnitRec) (start : Nat) (f : Filter) : List UnitRec :=
  (byUnit us).filter (fun r => decide (start ≤ r.unit.toNat) && f.passes r)

/-- R120: a record as LIST_UNITS gives it. -/
def UnitRec.line (r : UnitRec) : Listed := ⟨r.unit, r.kind, r.level, r.binding, r.current⟩

/-- R120: the response of LIST_UNITS. -/
def listFrom (start : UnitId) (f : Filter) : Cmd := look fun s =>
  accept (clamp 0 0xFFEF start.toNat).2
    (.unitList (((listed s.units (clamp 0 0xFFEF start.toNat).1 f).take 24).map UnitRec.line)
      (decide (24 < (listed s.units (clamp 0 0xFFEF start.toNat).1 f).length))
      s.units.length (s.units.filter (fun r => r.binding.isSome)).length) id

/-- LIST_UNITS (R120): filter 0 all, 1 unbound, 2 the members of a move, which the body names in that case alone. -/
def cmdListUnits (start : UnitId) (filter : Byte) (move : Option Byte) : Cmd :=
  match filter.toNat, move with
  | 0, none => listFrom start .all
  | 1, none => listFrom start .unbound
  | 2, some b => need (moveOf b) .moveUnknown (fun m => listFrom start (.move m))
  | _, _ => refuse .badFormat

/-- READ_UNIT. -/
def execReadUnit (link : Console) (u : UnitId) : State → Host.Outcome State Fault Refusal :=
  event (takeCommand link 0x31#8 (cmdReadUnit u))
/-- LIST_UNITS. -/
def execListUnits (link : Console) (start : UnitId) (filter : Byte) (move : Option Byte) :
    State → Host.Outcome State Fault Refusal :=
  event (takeCommand link 0x32#8 (cmdListUnits start filter move))

end Sys2Proof.Machine
end

