-- ==== Sys2Proof/Machine/Part.lean ====
section
/-! DEFINITION. Machine/Part.lean: the part as a whole (R186 to R192): power, the RESET line, the Time Base, the
configuration commands, ENTER_SERVICE and RESTART. -/

namespace Sys2Proof.Machine

/-! ## Power, the RESET line, the Time Base -/

/-- POWER_ON (R187): every piece of state takes its initial value; the waiting events stay (log entry 6). -/
def execPowerOn (s : State) : Host.Outcome State Fault Refusal := .next { State.reset with pending := s.pending }

/-- RESET_ASSERT (R187): every piece of state takes its initial value, and the part is held (log entry 6). -/
def execResetAssert (s : State) : Host.Outcome State Fault Refusal :=
  .next { State.reset with resetLine := true, pending := s.pending }

/-- RESET_RELEASE (R187): the part, at its initial values, is in CONFIG. -/
def execResetRelease (s : State) : Host.Outcome State Fault Refusal := .next { s with resetLine := false }

/-- TIME_BASE_TICK (R192, R115). -/
def execTimeBaseTick : State → Host.Outcome State Fault Refusal :=
  event (fun s => { s with time := s.time + 1#32, units := s.units.map (UnitRec.held (s.time + 1#32)) })

/-! ## SET_CHANNEL (R190) -/

/-- R190: the command carries a structural field. -/
def structural (f : ChannelFields) : Bool := f.inUse.isSome || f.port.isSome || f.freq.isSome

/-- R190: the assigned port that a field gives: BP0 to BP6, or none for 0xFF; no value where it is outside those. -/
def assignedPortOf (b : Byte) : Option (Option Port) := if b = 0xFF#8 then some none else (portOf b).map some

/-- R195: the in-use flag is 0 or 1. -/
def flagOk : Option Byte → Bool
  | none => true
  | some b => decide (b.toNat ≤ 1)

/-- R190: a numeric field that is present was clamped. -/
def fieldClamped (lo hi : Nat) (v : Option Nat) : Bool := v.any (fun n => (clamp lo hi n).2)

/-- R190: a channel's configuration with the present fields applied. -/
def ChannelConfig.withFields (f : ChannelFields) (c : ChannelConfig) : ChannelConfig where
  inUse := (f.inUse.map (· == 1)).getD c.inUse
  port := (f.port.bind assignedPortOf).getD c.port
  freq := (clampField 0 4095 1 c.freq (f.freq.map (·.toNat))).1
  ageStep := (clampField 500 8000 500 c.ageStep (f.ageStep.map (·.toNat))).1
  hangMs := (clampField 0 10000 1 c.hangMs (f.hangMs.map (·.toNat))).1
  routineLimit := (clampField 5 255 1 c.routineLimit (f.routineLimit.map (·.toNat))).1
  workLimit := (clampField 5 255 1 c.workLimit (f.workLimit.map (·.toNat))).1
  urgentLimit := (clampField 5 255 1 c.urgentLimit (f.urgentLimit.map (·.toNat))).1
  queueTimeout := (clampField 10000 300000 1 c.queueTimeout (f.queueTimeout.map (·.toNat))).1

/-- R190: some numeric field was clamped. -/
def channelClamped (f : ChannelFields) : Bool :=
  fieldClamped 0 4095 (f.freq.map (·.toNat)) || fieldClamped 500 8000 (f.ageStep.map (·.toNat)) ||
  fieldClamped 0 10000 (f.hangMs.map (·.toNat)) || fieldClamped 5 255 (f.routineLimit.map (·.toNat)) ||
  fieldClamped 5 255 (f.workLimit.map (·.toNat)) || fieldClamped 5 255 (f.urgentLimit.map (·.toNat)) ||
  fieldClamped 10000 300000 (f.queueTimeout.map (·.toNat))

/-- SET_CHANNEL (R190, R195); the order of its checks is log entry 19. -/
def cmdSetChannel (b : Byte) (f : ChannelFields) : Cmd := look fun s =>
  check (flagOk f.inUse) .badFormat <|
  need (chanOf b) .channelUnknown fun ch =>
  check (f.port.all (fun p => (assignedPortOf p).isSome)) .portUnknown <|
  check (s.part == .config || !structural f) .wrongState <|
  accept (channelClamped f) (.channel ((s.chan ch).withFields f))
    (fun s => { s with channels := s.channels.put ch ((s.chan ch).withFields f) })

/-! ## SET_GLOBAL (R191) -/

/-- R191: the global configuration with the present fields applied. -/
def GlobalConfig.withFields (f : GlobalFields) (g : GlobalConfig) : GlobalConfig where
  levels := (f.levels.map levelSetOf).getD g.levels
  ageOut := (clampField 1 60 1 g.ageOut (f.ageOut.map (·.toNat))).1
  interval := (clampField 500 5000 100 g.interval (f.interval.map (·.toNat))).1
  faultLimit := (clampField 1 7 1 g.faultLimit (f.faultLimit.map (·.toNat))).1

/-- R191: some numeric field was clamped. -/
def globalClamped (f : GlobalFields) : Bool :=
  fieldClamped 1 60 (f.ageOut.map (·.toNat)) || fieldClamped 500 5000 (f.interval.map (·.toNat)) ||
  fieldClamped 1 7 (f.faultLimit.map (·.toNat))

/-- R191, R119: the fields are applied, and a change of AGE_OUT removes the records already expired; floors that a
removal leaves free are served at the end of the event. -/
def setGlobals (f : GlobalFields) (s : State) : State :=
  (if f.ageOut.isSome then fun t => serveFreed s (ageOutAll t) else id)
    { s with globals := s.globals.withFields f }

/-- SET_GLOBAL (R191, R195); the order of its checks is log entry 19. -/
def cmdSetGlobal (f : GlobalFields) : Cmd := look fun s =>
  check (f.levels.all (fun b => decide (b.toNat < 8))) .badFormat <|
  check (f.levels.all (fun b => b != 0)) .badLevelSet <|
  check (s.part == .config || f.levels.isNone) .wrongState <|
  accept (globalClamped f) (.globals (s.globals.withFields f)) (setGlobals f)

/-! ## ENTER_SERVICE (R188, R146) -/

/-- R188 check 3: a lower-numbered in-use channel has the same assigned port. -/
def sharesPort (s : State) (ch : Chan) (p : Port) : Bool :=
  allChans.any (fun c => decide (c.val < ch.val) && (s.chan c).inUse && (s.chan c).port == some p)

/-- R188 checks 2 to 4 on one channel. -/
def channelFault (s : State) (ch : Chan) : Option PlanCause :=
  if (s.chan ch).inUse then
    match (s.chan ch).port with
    | none => some .noPort
    | some p =>
      if sharesPort s ch p then some .portShared
      else if (s.port p).state = .failed then some .portFailed
      else none
  else none

/-- R188: the first offending channel and its cause. -/
def planFault (s : State) : Option (Chan × PlanCause) :=
  if (s.chan 0).inUse then allChans.findSome? (fun ch => (channelFault s ch).map (fun c => (ch, c)))
  else some (0, .noCallChannel)

/-- 12.4: the channel and the cause of a CONFIG_INVALID. -/
def planDetail (x : Chan × PlanCause) : BitVec 16 := BitVec.ofNat 16 (256 * x.1.val + x.2.code)

/-- The in-use channels with their assigned port, in ascending order, whose port is in one of some states. -/
def plan (s : State) (f : PortState → Bool) : List (Chan × Port) :=
  allChans.filterMap (fun ch =>
    if (s.chan ch).inUse then ((s.chan ch).port.filter (fun p => f (s.port p).state)).map (fun p => (ch, p)) else none)

/-- R146 step 2: an assigned port that is STANDBY, or was in TEST, carries its channel. -/
def carryNow (x : Chan × Port) (s : State) : State :=
  modFloor x.1 (fun f => if f.state = .off then { f with state := .idle } else f)
    (servePort x.2 x.1
      (send x.2 (.tune (s.chan x.1).freq)
        (portTo x.2 .active .service (fun r => { r with channel := some x.1 }) s)))

/-- R146 step 3: an assigned port that is ABSENT tunes for its channel. -/
def tuneAbsent (x : Chan × Port) (s : State) : State :=
  reportTransfer x.1 none (some x.2)
    (openTransfer x.1 (tuneTo x.2 x.1 .start (modPort x.2 (fun r => { r with lastHealth := some s.time }) s)))

/-- R146 step 4: a channel whose assigned port is ISOLATED seeks a spare; with none it enters TRANSFER, which is reported
naming no tuning port (log entry 17), and closes. -/
def seekSpare (x : Chan × Port) (s : State) : State :=
  spareSearch (fun q s => reportTransfer x.1 none (some q) (openTransfer x.1 s))
    (fun s => closeChannel x.1 (reportTransfer x.1 none none (openTransfer x.1 s))) x.1 s

/-- R146: each in-use channel is put on a port; the steps are judged by the port states before them. DESIGN CHOICE (log entry
29): the channels of steps 1 to 3, and with them the aborts of R160, are taken in ascending order. -/
def placeChannels (s : State) : State :=
  forEach (plan s (· == .isolated)) seekSpare
    (forEach (plan s (· == .absent)) tuneAbsent
      (forEach (plan s (fun st => st == .standby || st == .test)) carryNow
        (forEach (plan s (· == .test)) (fun x => abortTest x.2 .failover) s)))

/-- R188 steps 1 to 4. -/
def enterService (s : State) : State := placeChannels { s with part := .service }

/-- ENTER_SERVICE (R188). -/
def cmdEnterService : Cmd := look fun s =>
  check (s.part == .config) .wrongState <|
  match planFault s with
  | some x => refuseFor .configInvalid (planDetail x)
  | none => done enterService

/-! ## RESTART (R189) -/

/-- R189 step 5, R137: one port at RESTART. -/
def restartPort (p : Port) (s : State) : State :=
  match (s.port p).state with
  | .active => shutPort p (portTo p .standby .restart (fun r => { r with channel := none }) s)
  | .tuning =>
    portTo p .standby .restart (fun r => { r with channel := none, purpose := none, tuneDeadline := none }) s
  | .test => portTo p .standby .restart id s
  | .absent | .standby | .failed | .isolated => s

/-- R189 step 1, R174: a link at RESTART. -/
def Link.restarted (l : Link) : Link := { l with notices := [], latches := Latches.clear }

/-- R189 steps 1 to 4: what is emptied. -/
def clearAll (s : State) : State :=
  { s with
    links := s.links.each Link.restarted
    part := .config
    floors := Tab.fill 6 Floor.reset
    generators := Tab.fill 6 none
    downlink := Tab.fill 6 []
    slots := Tab.fill 4 none
    quiet := []
    units := [] }

/-- R189 steps 1 to 5. -/
def restart (s : State) : State := { forEach allPorts restartPort (clearAll s) with tests := Tab.fill 7 none }

/-- RESTART (R189). -/
def cmdRestart : Cmd := look fun s =>
  check (s.part == .config || allMoves.all (fun i => (s.move i).isNone)) .movesPresent <|
  done restart

/-! ## The rows -/

/-- SET_CHANNEL. -/
def execSetChannel (link : Console) (ch : Byte) (f : ChannelFields) : State → Host.Outcome State Fault Refusal :=
  event (takeCommand link 0x01#8 (cmdSetChannel ch f))
/-- SET_GLOBAL. -/
def execSetGlobal (link : Console) (f : GlobalFields) : State → Host.Outcome State Fault Refusal :=
  event (takeCommand link 0x02#8 (cmdSetGlobal f))
/-- ENTER_SERVICE. -/
def execEnterService (link : Console) : State → Host.Outcome State Fault Refusal :=
  event (takeCommand link 0x08#8 cmdEnterService)
/-- RESTART. -/
def execRestart (link : Console) : State → Host.Outcome State Fault Refusal :=
  event (takeCommand link 0x09#8 cmdRestart)

end Sys2Proof.Machine
end

