-- ==== Sys2Proof/Machine/Framer.lean ====
section
/-! DEFINITION. Machine/Framer.lean: the command that a checked frame spells is carried out (R178). -/

namespace Sys2Proof.Machine

/-- R178 check 3: the owning block's command. -/
def runCommand (link : Console) : Command → Cmd
  | .setChannel ch f => cmdSetChannel ch f
  | .setGlobal f => cmdSetGlobal f
  | .loadPattern pat rep steps => cmdLoadPattern pat rep steps
  | .enterService => cmdEnterService
  | .restart => cmdRestart
  | .createMove f => cmdCreateMove link f
  | .addMember m u => cmdAddMember link m u
  | .removeMember m u => cmdRemoveMember link m u
  | .setController m u => cmdSetController link m u
  | .moveChannel m ch => cmdMoveChannel link m ch
  | .releaseMove m => cmdReleaseMove link m
  | .takeMove m => cmdTakeMove link m
  | .reinstate m => cmdReinstate link m
  | .talkRequest ch cls => cmdTalkRequest link ch cls
  | .talkEnd ch => cmdTalkEnd link ch
  | .play ch pat mode => cmdPlay link ch pat mode
  | .swapPort ch => cmdSwapPort ch
  | .isolatePort p => cmdIsolatePort p
  | .restorePort p => cmdRestorePort p
  | .startTest p mode dur remote => cmdStartTest p mode dur remote
  | .stopTest p => cmdStopTest p
  | .insertError p => cmdInsertError p
  | .readMove m => cmdReadMove m
  | .readUnit u => cmdReadUnit u
  | .listUnits start filter move => cmdListUnits start filter move
  | .readFloor ch => cmdReadFloor ch
  | .readPort p => cmdReadPort p
  | .readTest p => cmdReadTest p
  | .readConditions => cmdReadConditions link
  | .readTime => cmdReadTime
  | .subscribe mask => cmdSubscribe link mask

/-- R178: a frame whose CRC matches is taken as a command. -/
def runFrame (link : Console) (code : Byte) (body : List Byte) : Cmd :=
  match parseCommand code body with
  | .unknown => refuse .unknownCommand
  | .unfit => refuse .badFormat
  | .fits c => runCommand link c

/-- CONSOLE_BYTE (R175, R176, R178). -/
def execConsoleByte (link : Console) (b : Byte) (stopBit : Bool) : State → Host.Outcome State Fault Refusal :=
  event (receive (runFrame link) link b stopBit)

end Sys2Proof.Machine
end

