-- ==== Sys2Proof/Machine/Dispatch.lean ====
section
/-! DEFINITION. Machine/Dispatch.lean: one arm a row of the table. -/

namespace Sys2Proof.Machine

def exec (i : Instr) (s : State) : Host.Outcome State Fault Refusal :=
  match i with
  | .powerOn => Sys2Proof.Machine.execPowerOn s
  | .resetAssert => Sys2Proof.Machine.execResetAssert s
  | .resetRelease => Sys2Proof.Machine.execResetRelease s
  | .timeBaseTick => Sys2Proof.Machine.execTimeBaseTick s
  | .consoleByte link b stopBit => Sys2Proof.Machine.execConsoleByte link b stopBit s
  | .gapDeadline link => Sys2Proof.Machine.execGapDeadline link s
  | .unknownCommand link code => Sys2Proof.Machine.execUnknownCommand link code s
  | .transmitDone link => Sys2Proof.Machine.execTransmitDone link s
  | .setChannel link ch f => Sys2Proof.Machine.execSetChannel link ch f s
  | .setGlobal link f => Sys2Proof.Machine.execSetGlobal link f s
  | .loadPattern link pat rep steps => Sys2Proof.Machine.execLoadPattern link pat rep steps s
  | .enterService link => Sys2Proof.Machine.execEnterService link s
  | .restart link => Sys2Proof.Machine.execRestart link s
  | .createMove link f => Sys2Proof.Machine.execCreateMove link f s
  | .addMember link move unit => Sys2Proof.Machine.execAddMember link move unit s
  | .removeMember link move unit => Sys2Proof.Machine.execRemoveMember link move unit s
  | .setController link move unit => Sys2Proof.Machine.execSetController link move unit s
  | .moveChannel link move ch => Sys2Proof.Machine.execMoveChannel link move ch s
  | .releaseMove link move => Sys2Proof.Machine.execReleaseMove link move s
  | .takeMove link move => Sys2Proof.Machine.execTakeMove link move s
  | .reinstate link move => Sys2Proof.Machine.execReinstate link move s
  | .talkRequest link ch cls => Sys2Proof.Machine.execTalkRequest link ch cls s
  | .talkEnd link ch => Sys2Proof.Machine.execTalkEnd link ch s
  | .play link ch pat mode => Sys2Proof.Machine.execPlay link ch pat mode s
  | .swapPort link ch => Sys2Proof.Machine.execSwapPort link ch s
  | .isolatePort link port => Sys2Proof.Machine.execIsolatePort link port s
  | .restorePort link port => Sys2Proof.Machine.execRestorePort link port s
  | .startTest link port mode dur remote => Sys2Proof.Machine.execStartTest link port mode dur remote s
  | .stopTest link port => Sys2Proof.Machine.execStopTest link port s
  | .insertError link port => Sys2Proof.Machine.execInsertError link port s
  | .readMove link move => Sys2Proof.Machine.execReadMove link move s
  | .readUnit link unit => Sys2Proof.Machine.execReadUnit link unit s
  | .listUnits link start filter move => Sys2Proof.Machine.execListUnits link start filter move s
  | .readFloor link ch => Sys2Proof.Machine.execReadFloor link ch s
  | .readPort link port => Sys2Proof.Machine.execReadPort link port s
  | .readTest link port => Sys2Proof.Machine.execReadTest link port s
  | .readConditions link => Sys2Proof.Machine.execReadConditions link s
  | .readTime link => Sys2Proof.Machine.execReadTime link s
  | .subscribe link mask => Sys2Proof.Machine.execSubscribe link mask s
  | .healthReport p status => Sys2Proof.Machine.execHealthReport p status s
  | .carrierReport p present source => Sys2Proof.Machine.execCarrierReport p present source s
  | .slotReady p => Sys2Proof.Machine.execSlotReady p s
  | .tuned p => Sys2Proof.Machine.execTuned p s
  | .undefinedPortMessage p bytes => Sys2Proof.Machine.execUndefinedPortMessage p bytes s
  | .unknownAirFrame p bytes => Sys2Proof.Machine.execUnknownAirFrame p bytes s
  | .talkReq p src cls => Sys2Proof.Machine.execTalkReq p src cls s
  | .talkEndFrame p src => Sys2Proof.Machine.execTalkEndFrame p src s
  | .emergency p src => Sys2Proof.Machine.execEmergency p src s
  | .presence p src move => Sys2Proof.Machine.execPresence p src move s
  | .stopAck p src move => Sys2Proof.Machine.execStopAck p src move s
  | .resume p src move => Sys2Proof.Machine.execResume p src move s
  | .handoverOffer p src move target => Sys2Proof.Machine.execHandoverOffer p src move target s
  | .handoverTake p src move => Sys2Proof.Machine.execHandoverTake p src move s
  | .joined p src move ch => Sys2Proof.Machine.execJoined p src move ch s
  | .capability p src kind levels chans flags => Sys2Proof.Machine.execCapability p src kind levels chans flags s
  | .echoTestData p bytes => Sys2Proof.Machine.execEchoTestData p bytes s
  | .testBit p => Sys2Proof.Machine.execTestBit p s
  | .formingDeadline m => Sys2Proof.Machine.execFormingDeadline m s
  | .joinRepetition m unit => Sys2Proof.Machine.execJoinRepetition m unit s
  | .addDeadline m unit => Sys2Proof.Machine.execAddDeadline m unit s
  | .reChannelDeadline m => Sys2Proof.Machine.execReChannelDeadline m s
  | .releaseStopRepetition m => Sys2Proof.Machine.execReleaseStopRepetition m s
  | .releaseDeadline m => Sys2Proof.Machine.execReleaseDeadline m s
  | .windowDeadline m => Sys2Proof.Machine.execWindowDeadline m s
  | .cleanSpanEnd m => Sys2Proof.Machine.execCleanSpanEnd m s
  | .stopOrderRepetition m => Sys2Proof.Machine.execStopOrderRepetition m s
  | .stopConfirmMark m => Sys2Proof.Machine.execStopConfirmMark m s
  | .minimumHoldMark m => Sys2Proof.Machine.execMinimumHoldMark m s
  | .offerCycleRepetition m => Sys2Proof.Machine.execOfferCycleRepetition m s
  | .offerExpiry m => Sys2Proof.Machine.execOfferExpiry m s
  | .takeUpDeadline ch => Sys2Proof.Machine.execTakeUpDeadline ch s
  | .silentCarrierDeadline ch => Sys2Proof.Machine.execSilentCarrierDeadline ch s
  | .overtalkExpiry ch => Sys2Proof.Machine.execOvertalkExpiry ch s
  | .warningMark ch => Sys2Proof.Machine.execWarningMark ch s
  | .lockoutExpiry ch party => Sys2Proof.Machine.execLockoutExpiry ch party s
  | .hangExpiry ch => Sys2Proof.Machine.execHangExpiry ch s
  | .foreignDetection ch => Sys2Proof.Machine.execForeignDetection ch s
  | .quietDeadline ch => Sys2Proof.Machine.execQuietDeadline ch s
  | .timeoutExpiry ch party => Sys2Proof.Machine.execTimeoutExpiry ch party s
  | .healthSilence p => Sys2Proof.Machine.execHealthSilence p s
  | .restorationMark p => Sys2Proof.Machine.execRestorationMark p s
  | .tuneDeadline p => Sys2Proof.Machine.execTuneDeadline p s
  | .testEndTime p => Sys2Proof.Machine.execTestEndTime p s
  | .offerRepetition slot => Sys2Proof.Machine.execOfferRepetition slot s
  | .confirmSpacing slot => Sys2Proof.Machine.execConfirmSpacing slot s
  | .lapseTimer slot => Sys2Proof.Machine.execLapseTimer slot s
  | .stuckMark slot => Sys2Proof.Machine.execStuckMark slot s
  | .failureTimer slot => Sys2Proof.Machine.execFailureTimer slot s
  | .quietListExpiry unit => Sys2Proof.Machine.execQuietListExpiry unit s
  | .agingExpiry unit => Sys2Proof.Machine.execAgingExpiry unit s
  | .toneStepEnd ch => Sys2Proof.Machine.execToneStepEnd ch s

end Sys2Proof.Machine
end

