-- ==== Sys2Proof/Safety.lean ====
section
/-! DEFINITION. Safety.lean: the invariants of the part that the manual's prose states, and the words in which the
statements speak of a command that a link carries. -/

namespace Sys2Proof.Machine

/-! ## The words of the statements -/

/-- R175, R177, R187: the RESET line is released, and a frame of a link can be opened: fewer than 8 responses wait. -/
def Listening (link : Console) (s : State) : Prop :=
  s.resetLine = false ∧ (s.link link).responses.length < 8

/-- R178, R180: the frame of a command has left the framer, the command has had its effect `u`, its answer has entered the
response queue, and the idle transmitters have taken what waits. -/
def answeredWith (link : Console) (code : Byte) (a : Answer) (u : State) : Host.Outcome State Fault Refusal :=
  .next (settle (respond link ⟨some code, a⟩ u))

/-- 12.3: the row of a console command. -/
def commandRow (link : Console) : Command → Instr
  | .setChannel ch f => .setChannel link ch f
  | .setGlobal f => .setGlobal link f
  | .loadPattern pat rep steps => .loadPattern link pat rep steps
  | .enterService => .enterService link
  | .restart => .restart link
  | .createMove f => .createMove link f
  | .addMember m u => .addMember link m u
  | .removeMember m u => .removeMember link m u
  | .setController m u => .setController link m u
  | .moveChannel m ch => .moveChannel link m ch
  | .releaseMove m => .releaseMove link m
  | .takeMove m => .takeMove link m
  | .reinstate m => .reinstate link m
  | .talkRequest ch cls => .talkRequest link ch cls
  | .talkEnd ch => .talkEnd link ch
  | .play ch pat mode => .play link ch pat mode
  | .swapPort ch => .swapPort link ch
  | .isolatePort p => .isolatePort link p
  | .restorePort p => .restorePort link p
  | .startTest p mode dur remote => .startTest link p mode dur remote
  | .stopTest p => .stopTest link p
  | .insertError p => .insertError link p
  | .readMove m => .readMove link m
  | .readUnit u => .readUnit link u
  | .listUnits start filter move => .listUnits link start filter move
  | .readFloor ch => .readFloor link ch
  | .readPort p => .readPort link p
  | .readTest p => .readTest link p
  | .readConditions => .readConditions link
  | .readTime => .readTime link
  | .subscribe mask => .subscribe link mask

/-- 12.3: the command code of a console command. -/
def commandCode : Command → Byte
  | .setChannel .. => 0x01#8 | .setGlobal .. => 0x02#8 | .loadPattern .. => 0x03#8 | .enterService => 0x08#8
  | .restart => 0x09#8 | .createMove .. => 0x10#8 | .addMember .. => 0x11#8 | .removeMember .. => 0x12#8
  | .setController .. => 0x13#8 | .moveChannel .. => 0x14#8 | .releaseMove .. => 0x15#8 | .takeMove .. => 0x16#8
  | .reinstate .. => 0x17#8 | .talkRequest .. => 0x20#8 | .talkEnd .. => 0x21#8 | .play .. => 0x22#8
  | .swapPort .. => 0x28#8 | .isolatePort .. => 0x29#8 | .restorePort .. => 0x2A#8 | .startTest .. => 0x2B#8
  | .stopTest .. => 0x2C#8 | .insertError .. => 0x2D#8 | .readMove .. => 0x30#8 | .readUnit .. => 0x31#8
  | .listUnits .. => 0x32#8 | .readFloor .. => 0x33#8 | .readPort .. => 0x34#8 | .readTest .. => 0x35#8
  | .readConditions => 0x36#8 | .readTime => 0x37#8 | .subscribe .. => 0x38#8

/-- R3, R4, R188: a command makes its checks in their order, each with the reason and the detail (the first offending unit, or
channel and cause; 0 for none) with which it refuses. The first that fails refuses the command, and nothing changes but that
the frame has left the framer. -/
def RefusedAtFirst (link : Console) (c : Command) (checks : List (Prop × Reason × BitVec 16)) (s : State) : Prop :=
  ∀ before ok reason detail behind, checks = before ++ (ok, reason, detail) :: behind → (∀ x ∈ before, x.1) → ¬ ok →
    exec (commandRow link c) s = answeredWith link (commandCode c) (.refused reason detail) (hunt link s)

/-- R4 check 3, R16: a byte names a channel that a move may be placed on. -/
def Placeable (b : Byte) (s : State) : Prop :=
  ∃ ch : Chan, b.toNat = ch.val ∧ ch ≠ 0 ∧ (s.chan ch).inUse = true ∧ (s.floor ch).state ≠ .closed

/-- R4 check 4, R16: fewer than 6 occupied records name the channel of a byte. -/
def HasMoveRoom (b : Byte) (s : State) : Prop :=
  ((List.finRange 24).filter (fun i => (s.move i).any (fun m => m.channel.val == b.toNat))).length < 6

/-- R4 check 10, R11, R16: the channel set of a registered unit contains the channel of a byte. -/
def Supports (x : UnitId) (b : Byte) (s : State) : Prop := ∃ r, s.unit x = some r ∧ r.chans.getLsbD b.toNat = true

/-- R4 checks 1 to 14, in order; a check on several units is made on the locomotive, then on the handsets in list order. -/
def createChecks (f : MoveFields) (s : State) : List (Prop × Reason × BitVec 16) :=
  [(s.part = .service, .wrongState, 0), (∃ i, s.move i = none, .tableFull, 0),
    (Placeable f.channel s, .channelUnusable, 0), (HasMoveRoom f.channel s, .channelFull, 0),
    (1 ≤ f.handsets.length ∧ f.handsets.length ≤ 4, .memberCount, 0),
    ((f.loco :: f.handsets).Nodup, .duplicateUnit, 0)] ++
  (f.loco :: f.handsets).map (fun x => ((s.unit x).isSome = true, .unitUnknown, x)) ++
  (f.loco :: f.handsets).map (fun x => (s.bindingOf (.unit x) = none, .unitBound, x)) ++
  [(s.kindOf f.loco = some .loco ∨ s.kindOf f.loco = some .locoRc, .kindMismatch, f.loco)] ++
  f.handsets.map (fun x => (s.kindOf x = some .handset, .kindMismatch, x)) ++
  (f.loco :: f.handsets).map (fun x => (Supports x f.channel s, .channelUnsupported, x)) ++
  [(s.kindOf f.loco = some .locoRc → f.controller ≠ none, .controllerRequired, 0),
    (s.kindOf f.loco = some .locoRc → ∃ x ∈ f.handsets, f.controller = some x, .controllerNotMember, 0)] ++
  (f.loco :: f.handsets).map (fun x =>
    (s.kindOf f.loco = some .locoRc → ∃ r, s.unit x = some r ∧ r.level = .l3, .levelTooLow, x)) ++
  [(s.kindOf f.loco = some .loco → f.controller = none, .controllerNotAllowed, 0)]

/-- R11, R13, R15, R16, R3's table: the commands that name a move by `b`, each with the states of the move `m` in which it is
taken, and its own checks. -/
def MoveChecks (b : Byte) (m : Move) (s : State) (c : Command) (states : List MoveState)
    (own : List (Prop × Reason × BitVec 16)) : Prop :=
  (∃ x, c = .addMember b x ∧ states = [.active, .recovery, .suspended] ∧ own =
    [(m.handsets.length < 4, .memberCount, 0), ((s.unit x).isSome = true, .unitUnknown, 0),
      (s.bindingOf (.unit x) = none, .unitBound, 0), (s.kindOf x = some .handset, .kindMismatch, 0),
      (∃ r, s.unit x = some r ∧ r.chans.getLsbD m.channel.val = true, .channelUnsupported, 0),
      (m.controller.isSome = true → ∃ r, s.unit x = some r ∧ r.level = .l3, .levelTooLow, 0)]) ∨
  (∃ x, c = .removeMember b x ∧ states = [.active, .recovery, .suspended] ∧ own =
    [(∃ e ∈ m.loco :: m.handsets, e.unit = x, .notMember, 0), (m.loco.unit ≠ x, .useRelease, 0),
      (m.controller ≠ some x, .controllerInUse, 0), (1 < m.handsets.length, .lastHandset, 0)]) ∨
  (∃ x, c = .setController b x ∧ states = [.active, .recovery, .suspended] ∧ own =
    [(m.controller.isSome = true, .controllerNotAllowed, 0), (∃ e ∈ m.handsets, e.unit = x, .notMember, 0),
      (∃ e, m.handsets.find? (fun e => e.unit == x) = some e ∧ e.joined = true, .notJoined, 0)]) ∨
  (∃ d, c = .moveChannel b d ∧ states = [.active, .recovery, .suspended] ∧ own =
    [(d.toNat ≠ m.channel.val, .sameChannel, 0), (Placeable d s, .channelUnusable, 0), (HasMoveRoom d s, .channelFull, 0)] ++
      (m.loco :: m.handsets).map (fun e => (Supports e.unit d s, .channelUnsupported, e.unit))) ∨
  (c = .reinstate b ∧ states = [.suspended] ∧ own = []) ∨
  (c = .releaseMove b ∧ states = [.forming, .active, .stopHeld, .recovery, .suspended] ∧ own = [])

/-- R188 checks 2 to 4 on one channel; the causes of 12.4 are NO_PORT 1, PORT_SHARED 2 and PORT_FAILED 3. -/
def planChecks (ch : Chan) (s : State) : List (Prop × Reason × BitVec 16) :=
  [((s.chan ch).inUse = true → (s.chan ch).port.isSome = true, .configInvalid, BitVec.ofNat 16 (256 * ch.val + 1)),
    ((s.chan ch).inUse = true → ∀ d : Chan, d.val < ch.val → (s.chan d).inUse = true → (s.chan d).port ≠ (s.chan ch).port,
      .configInvalid, BitVec.ofNat 16 (256 * ch.val + 2)),
    ((s.chan ch).inUse = true → ∀ p, (s.chan ch).port = some p → (s.port p).state ≠ .failed,
      .configInvalid, BitVec.ofNat 16 (256 * ch.val + 3))]

/-- R3: a move command of the operating console, in SERVICE, names an occupied move. -/
def NamesMove (link : Console) (b : Byte) (i : MoveIx) (m : Move) (s : State) : Prop :=
  s.part = .service ∧ b.toNat = i.val + 1 ∧ s.move i = some m ∧ m.console = link

/-- R132, R133, R187: an air frame of a registered unit arrives in SERVICE on the channel `ch` that the port carries. -/
def Arrives (p : Port) (ch : Chan) (src : UnitId) (s : State) : Prop :=
  s.resetLine = false ∧ s.part = .service ∧ (s.port p).state = .active ∧ (s.port p).channel = some ch ∧
    isUnitId src = true ∧ (s.unit src).isSome = true

/-- R73: the sender's binding is an occupied RC move. -/
def SendsFor (src : UnitId) (i : MoveIx) (m : Move) (s : State) : Prop :=
  s.bindingOf (.unit src) = some i ∧ s.move i = some m ∧ m.controller.isSome = true

/-- R32, R147, R173: a channel byte names a channel that is in use. -/
def NamesChannel (b : Byte) (ch : Chan) (s : State) : Prop := b.toNat = ch.val ∧ (s.chan ch).inUse = true

/-- R27: the overtalk limit of a class on a channel, in seconds; EMERGENCY has none. -/
def limitOf (c : ChannelConfig) (cls : TalkClass) : Option Nat :=
  match cls with
  | .routine => some c.routineLimit
  | .work => some c.workLimit
  | .urgent => some c.urgentLimit
  | .emergency => none

/-- R33 step 5: a grant is taken up at its issue: a console's, and a unit's that is the heard carrier. -/
def takenUpAtIssue (f : Floor) (p : Party) : Bool :=
  match p with
  | .console _ => true
  | .unit x => f.heard.map (·.source) == some x

/-- R27, R33, R34: in `u` a party holds the floor of a channel by a grant of a class that an event in `s` issued: the grant
record, the gate, and no entry or hang of the party's left. -/
def Granted (ch : Chan) (p : Party) (cls : TalkClass) (s u : State) : Prop :=
  (u.floor ch).state = .granted ∧ (u.floor ch).gate = some p ∧ (u.floor ch).hang = none ∧
  p ∉ (u.floor ch).queue.map (·.party) ∧
  (u.floor ch).grant = some {
    holder := p, move := s.bindingOf p, cls := cls, time := s.time
    takenUp := takenUpAtIssue (s.floor ch) p
    takeUp := if takenUpAtIssue (s.floor ch) p then none else some (s.time + 1500)
    overtalk := (limitOf (s.chan ch) cls).map (fun n => s.time + BitVec.ofNat 32 (1000 * n))
    warning := ((limitOf (s.chan ch) cls).filter (fun n => decide (10 ≤ n))).map
      (fun n => s.time + BitVec.ofNat 32 (1000 * n - 5000))
    silent := none, warned := false }

/-- R41, R111: `out` is the list `xs` of 8 holders with their expiries after `new` has entered it: in the place of its holder's
own entry, else at the end, where at a full list the entry with the earliest expiry has left, of several the one that entered
first. No expiry lies after that of `new`, so the earliest is the one that lies furthest before it. -/
def Enters {α β : Type} [DecidableEq β] (holder : α → β) (expiry : α → Time) (new : α) (xs out : List α) : Prop :=
  ((∃ x ∈ xs, holder x = holder new) → out = xs.map (fun x => if holder x = holder new then new else x)) ∧
  ((∀ x ∈ xs, holder x ≠ holder new) → xs.length < 8 → out = xs ++ [new]) ∧
  ∀ before x behind, (∀ y ∈ xs, holder y ≠ holder new) → 8 ≤ xs.length → xs = before ++ x :: behind →
    (∀ y ∈ before, elapsed (expiry new) (expiry y) < elapsed (expiry new) (expiry x)) →
    (∀ y ∈ behind, elapsed (expiry new) (expiry y) ≤ elapsed (expiry new) (expiry x)) → out = before ++ behind ++ [new]

/-- R57: the best entry of a channel's queue: no entry has a higher rank, and none before it has the same. -/
def IsBest (ch : Chan) (e : Entry) (s : State) : Prop :=
  ∃ before behind, (s.floor ch).queue = before ++ e :: behind ∧
    (∀ x ∈ before, rank s.time (s.chan ch).ageStep x < rank s.time (s.chan ch).ageStep e) ∧
    ∀ x ∈ behind, rank s.time (s.chan ch).ageStep x ≤ rank s.time (s.chan ch).ageStep e

/-- R40, R58, R59: in `u` an event has freed the floor that a party held or a hang kept in `s`, and the service decision has
been made: with nothing waiting the floor is IDLE, with no alert waiting the best entry is granted. -/
def Freed (ch : Chan) (s u : State) : Prop :=
  ((s.floor ch).alerts = [] → (s.floor ch).queue = [] → (u.floor ch).state = .idle ∧ (u.floor ch).grant = none) ∧
  ((s.floor ch).alerts = [] → ∀ e, IsBest ch e s → Granted ch e.party e.cls s u)

/-- R38: in `u` a TALK_END has ended the grant `g` of `s`: into HANG for HANG_MS where no EMERGENCY entry and no PREEMPT
alert waits, else the floor is freed. The gate is that of the grant that `u` has. -/
def TalkEnded (ch : Chan) (g : Grant) (s u : State) : Prop :=
  (u.floor ch).gate = (u.floor ch).grant.map (·.holder) ∧
  (0 < (s.chan ch).hangMs → (∀ e ∈ (s.floor ch).queue, e.cls ≠ .emergency) → (∀ a ∈ (s.floor ch).alerts, a.mode ≠ .preempt) →
    (u.floor ch).state = .hang ∧ (u.floor ch).grant = none ∧ (u.floor ch).queue = (s.floor ch).queue ∧
    (u.floor ch).hang = some {
      reservation := (match g.move with | some i => .move i | none => .party g.holder)
      expiry := s.time + BitVec.ofNat 32 (s.chan ch).hangMs }) ∧
  ((s.chan ch).hangMs = 0 ∨ (∃ e ∈ (s.floor ch).queue, e.cls = .emergency) → Freed ch s u)

/-- What a talk event leaves alone: everything but the floors, the downlink queues, the generators, the gate settings of the
ports, the messages sent and the links; and every other floor. -/
def TalkFrame (ch : Chan) (s u : State) : Prop :=
  u = { s with
    floors := u.floors, downlink := u.downlink, generators := u.generators, links := u.links, ports := u.ports
    sent := u.sent } ∧
  (∀ c, c ≠ ch → u.floor c = s.floor c ∧ u.frames c = s.frames c ∧ u.generator c = s.generator c) ∧
  ∀ p, u.port p = { s.port p with pins := { (s.port p).pins with gate := (u.port p).pins.gate } }

/-- R167 case 1: a waiting entry of a pending alert list, not playing, has the newcomer's pattern and move tag. -/
def Collapses (new : Alert) (l : List Alert) : Prop :=
  ∃ a ∈ l, a.playing = false ∧ a.pattern = new.pattern ∧ a.tag = new.tag

/-- R167 case 3: `a` is the newest entry of mode NEXT_FREE that is not playing, and `rest` is the list without it. -/
def Displaced (a : Alert) (l rest : List Alert) : Prop :=
  ∃ before behind, l = before ++ a :: behind ∧ rest = before ++ behind ∧ a.mode = .nextFree ∧ a.playing = false ∧
    ∀ b ∈ behind, b.mode ≠ .nextFree ∨ b.playing = true

/-- R167 cases 2 and 3: the newcomer is admitted, and `out` is the list with it at the end: a list with room keeps its
entries, and from a full one a PREEMPT newcomer displaces an entry. -/
def Admits (new : Alert) (l out : List Alert) : Prop :=
  ¬ Collapses new l ∧
  (l.length < 4 ∧ out = l ++ [new] ∨
    4 ≤ l.length ∧ new.mode = .preempt ∧ ∃ a rest, Displaced a l rest ∧ out = rest ++ [new])

/-- R167 cases 3 and 4: the newcomer is not admitted: the list is full, and it displaces nothing. -/
def TurnsAway (new : Alert) (l : List Alert) : Prop :=
  ¬ Collapses new l ∧ 4 ≤ l.length ∧ (new.mode = .nextFree ∨ ∀ a ∈ l, a.mode ≠ .nextFree ∨ a.playing = true)

/-- R44: in `u` an event has admitted a PREEMPT alert to a channel of `s`, whose pending alert list is `list` with it. On an
IDLE or HANG floor, or one GRANTED below EMERGENCY, the head of the list plays: the channel is in ALERT with its gate closed
and its hang gone, and the holder, if there was one, is told and has its grant no more. On any other floor the alert waits. -/
def AlertActs (ch : Chan) (list : List Alert) (s u : State) : Prop :=
  ((s.floor ch).state = .idle ∨ (s.floor ch).state = .hang ∨
      (s.floor ch).state = .granted ∧ (∀ g, (s.floor ch).grant = some g → g.cls ≠ .emergency) →
    (u.floor ch).state = .alert ∧ (u.floor ch).gate = none ∧ (u.floor ch).hang = none ∧
    (u.floor ch).queue = (s.floor ch).queue ∧
    (u.floor ch).grant = (if (s.floor ch).state = .granted then none else (s.floor ch).grant) ∧
    (∀ head rest pat st sts, list = head :: rest → s.patterns.get head.pattern = some pat → pat.steps = st :: sts →
      (u.floor ch).alerts = { head with playing := true } :: rest ∧
      u.generator ch = some {
        mode := .seize, pattern := head.pattern, start := s.time, rep := 1, step := 0
        stepEnd := s.time + BitVec.ofNat 32 (10 * st.duration), output := ⟨st.divider, st.level⟩ }) ∧
    ∀ g, (s.floor ch).state = .granted → (s.floor ch).grant = some g →
      (∀ x, g.holder = .unit x → (s.frames ch).length < 15 → ⟨x, .revoke ch .alert⟩ ∈ u.frames ch) ∧
      ∀ c, g.holder = .console c → s.part = .service → (s.link c).notices.length < 28 →
        ∃ n ∈ (u.link c).notices, n.body = .talkRevoked ch g.cls .alert) ∧
  ((s.floor ch).state ≠ .idle → (s.floor ch).state ≠ .hang →
    ((s.floor ch).state = .granted → ∃ g, (s.floor ch).grant = some g ∧ g.cls = .emergency) →
    u.floor ch = { s.floor ch with alerts := list } ∧ u.generator ch = s.generator ch)

/-- R45: a party has no claim on a channel: neither its grant nor an entry in its queue. -/
def Unclaimed (ch : Chan) (p : Party) (s : State) : Prop :=
  (∀ g, (s.floor ch).grant = some g → g.holder ≠ p) ∧ ∀ e ∈ (s.floor ch).queue, e.party ≠ p

/-- R50: the heard carrier of a floor is foreign. -/
def Foreign (f : Floor) : Prop :=
  (f.state = .idle ∨ f.state = .hang ∨ f.state = .granted) ∧
  ∃ h, f.heard = some h ∧ (h.source = 0 ∨ f.grant.map (·.holder) ≠ some (.unit h.source))

/-- R57: the weakest entry of a channel's queue: no entry has a lower rank, and none behind it has the same. -/
def IsWeakest (ch : Chan) (e : Entry) (s : State) : Prop :=
  ∃ before behind, (s.floor ch).queue = before ++ e :: behind ∧
    (∀ x ∈ before, rank s.time (s.chan ch).ageStep e ≤ rank s.time (s.chan ch).ageStep x) ∧
    ∀ x ∈ behind, rank s.time (s.chan ch).ageStep e < rank s.time (s.chan ch).ageStep x

/-- R30, R63: `asked` is an event in which a floor takes, in `s0`, a request of a party, and `taken` completes the event. Where
the party has an entry, the entry stays where it is with the higher class, and is answered QUEUED. -/
def Renews (ch : Chan) (x : Party) (cls : TalkClass) (s s0 : State) (asked : Host.Outcome State Fault Refusal)
    (taken : State → Host.Outcome State Fault Refusal) : Prop :=
  ∀ e, (s.floor ch).queue.find? (fun e => e.party == x) = some e →
    asked = taken (answer ch x (.queued (if e.cls.order < cls.order then cls else e.cls)) { s0 with
      floors := s.floors.put ch { s.floor ch with queue := (s.floor ch).queue.map (fun e =>
        if e.party = x then
          { e with cls := if e.cls.order < cls.order then cls else e.cls, move := s.bindingOf x }
        else e) } })

/-- R30, R53, R55, R61, R62, R63: `asked` is an event in which a floor takes, in `s0`, a request of a party that must wait,
and `taken` completes the event. The party's entry is renewed; a newcomer goes to the end of a queue with room; at a full
one it takes the place of the weakest entry where the base of its class is above that entry's rank, and is denied else. -/
def Waits (ch : Chan) (x : Party) (cls : TalkClass) (base : Nat) (s s0 : State) (asked : Host.Outcome State Fault Refusal)
    (taken : State → Host.Outcome State Fault Refusal) : Prop :=
  Renews ch x cls s s0 asked taken ∧
  ∀ new : Entry, (∀ e ∈ (s.floor ch).queue, e.party ≠ x) →
    new = { party := x, move := s.bindingOf x, cls := cls, arrival := s.time
            expiry := s.time + BitVec.ofNat 32 (s.chan ch).queueTimeout } →
    ((s.floor ch).queue.length < 8 → asked = taken (answer ch x (.queued cls) { s0 with
      floors := s.floors.put ch { s.floor ch with queue := (s.floor ch).queue ++ [new] } })) ∧
    ∀ w, 8 ≤ (s.floor ch).queue.length → IsWeakest ch w s →
      (rank s.time (s.chan ch).ageStep w < base →
        asked = taken (answer ch x (.queued cls) (answer ch w.party (.denied w.cls .queueFull) { s0 with
          floors := s.floors.put ch { s.floor ch with
            queue := (s.floor ch).queue.filter (fun e => e.party ≠ w.party) ++ [new] } }))) ∧
      (base ≤ rank s.time (s.chan ch).ageStep w → asked = taken (answer ch x (.denied cls .queueFull) s0))

/-- R43, R73, R82: `taken` completes the event of a unit's EMERGENCY: with the crew stop where the unit is bound to an RC move
in ACTIVE, STOP_HELD, RECOVERY or SUSPENDED, and without it else. -/
def CrewStops (src : UnitId) (s : State) (taken : State → Host.Outcome State Fault Refusal) : Prop :=
  (∃ i m, SendsFor src i m s ∧
    (m.state = .active ∨ m.state = .stopHeld ∨ m.state = .recovery ∨ m.state = .suspended) ∧
    taken = fun u => .next (settle (raiseFault i .crewStop u))) ∨
  (∀ i m, SendsFor src i m s → m.state = .forming ∨ m.state = .releasing) ∧ taken = fun u => .next (settle u)

/-- R31, R32: `asked` is the event in which a floor takes, in `s0`, an EMERGENCY of a party, a unit on its current channel or a
console, and `taken` completes the event. -/
def AsksEmergency (ch : Chan) (x : Party) (s s0 : State) (asked : Host.Outcome State Fault Refusal)
    (taken : State → Host.Outcome State Fault Refusal) : Prop :=
  (∃ (p : Port) (src : UnitId), x = .unit src ∧ Arrives p ch src s ∧ s.currentOf src = ch ∧
    asked = exec (.emergency p src) s ∧ s0 = refresh src s ∧ CrewStops src s taken) ∨
  ∃ (link : Console) (b k : Byte), x = .console link ∧ Listening link s ∧ s.part = .service ∧ NamesChannel b ch s ∧
    (s.floor ch).state ≠ .transfer ∧ (s.floor ch).state ≠ .closed ∧ k.toNat = 3 ∧
    asked = exec (.talkRequest link b k) s ∧ s0 = hunt link s ∧ taken = answeredWith link 0x20#8 (.accepted false .none)

/-- R154: a register of fifteen stages shifted one place towards stage 15, with the exclusive-or of its stages 15 and 14 in
stage 1: stage i is bit i - 1. -/
def shifted (r : BitVec 15) : BitVec 15 := r <<< 1 ||| (BitVec.ofBool (r.getLsbD 14 ^^ r.getLsbD 13)).setWidth 15

/-- R153: a port's test is running. -/
def Testing (p : Port) (s : State) : Prop := ∃ t, s.testOf p = some t ∧ (t.state = .search ∨ t.state = .synced)

/-- R160: in `u` an event has aborted the test that ran on a port in `s`, if one did, and no other port's test has changed. -/
def Aborted (p : Port) (r : AbortReason) (s u : State) : Prop :=
  (∀ t, s.testOf p = some t → t.state = .search ∨ t.state = .synced →
    u.testOf p = some { t with state := .aborted, abort := some r, endTime := s.time, insertPending := false }) ∧
  (¬ Testing p s → u.tests = s.tests) ∧ ∀ q, q ≠ p → u.testOf q = s.testOf q

/-- R143: the candidate of a spare search: the lowest-numbered port in STANDBY, or where there is none in TEST. -/
def IsSpare (q : Port) (s : State) : Prop :=
  (s.port q).state = .standby ∧ (∀ r : Port, r.val < q.val → (s.port r).state ≠ .standby) ∨
  (∀ r, (s.port r).state ≠ .standby) ∧ (s.port q).state = .test ∧
    ∀ r : Port, r.val < q.val → (s.port r).state ≠ .test

/-- R146 step 4: the ports that the channels without a port of their own take, in this order: of the ports assigned to no
in-use channel, those in STANDBY, then those in TEST, each in ascending number. -/
def spares (s : State) : List Port :=
  (allPorts.filter (fun q => decide ((s.port q).state = .standby ∧ ∀ c, (s.chan c).inUse = true → (s.chan c).port ≠ some q))) ++
  allPorts.filter (fun q => decide ((s.port q).state = .test ∧ ∀ c, (s.chan c).inUse = true → (s.chan c).port ≠ some q))

/-- R143: no port is a candidate. -/
def NoSpare (s : State) : Prop := ∀ q, (s.port q).state ≠ .standby ∧ (s.port q).state ≠ .test

/-- R143: in `u` an event has made a port of `s` tune for a channel in place of the port lost, for 1000 ms. Its test, if one
ran, is aborted, and only then has a downlink queue changed. -/
def TunesFor (q : Port) (ch : Chan) (s u : State) : Prop :=
  u.port q = { s.port q with
    state := .tuning, channel := some ch, purpose := some .transfer, tuneDeadline := some (s.time + 1000) } ∧
  Aborted q .failover s u ∧ (¬ Testing q s → u.downlink = s.downlink)

/-- R141: in `u` an event has failed a port of `s` with a cause: nothing is left of what it carried or tuned for. -/
def FailedBy (p : Port) (cause : FailCause) (s u : State) : Prop :=
  (u.port p).state = .failed ∧ (u.port p).channel = none ∧ (u.port p).purpose = none ∧
  (u.port p).tuneDeadline = none ∧ (u.port p).okStart = none ∧ (u.port p).lastCause = some cause ∧
  (u.port p).pins.gate = (if (s.port p).state = .active then none else (s.port p).pins.gate) ∧
  (u.port p).pins.tone = (if (s.port p).state = .active then none else (s.port p).pins.tone)

/-- R47: in `u` an event has taken a carried floor of `s` to TRANSFER: its state is held, and its queue and the holder of its
grant are kept. No other floor has changed. -/
def Transferred (ch : Chan) (s u : State) : Prop :=
  (∀ d, d ≠ ch → u.floor d = s.floor d) ∧
  (u.floor ch).state = .transfer ∧ (u.floor ch).held = some (s.floor ch).state ∧
  (u.floor ch).queue = (s.floor ch).queue ∧ (u.floor ch).heard = none ∧
  (u.floor ch).grant.map (·.holder) = (s.floor ch).grant.map (·.holder)

/-- R49, R145: in `u` an event has closed a channel of `s`: its floor, queue, generator and downlink queue are empty, and no
other channel has changed. -/
def ClosedBy (ch : Chan) (s u : State) : Prop :=
  (∀ d, d ≠ ch → u.floor d = s.floor d ∧ u.frames d = s.frames d) ∧ u.frames ch = [] ∧ u.generator ch = none ∧
  (u.floor ch).state = .closed ∧ (u.floor ch).held = none ∧ (u.floor ch).grant = none ∧ (u.floor ch).hang = none ∧
  (u.floor ch).gate = none ∧ (u.floor ch).queue = [] ∧ (u.floor ch).heard = none ∧
  (u.floor ch).lockouts = (s.floor ch).lockouts

/-! ## Invariants -/

/-- R53, R41, R167, R122, R115, R110, R177, R182: nothing holds more than its room. -/
def WithinRoom (s : State) : Prop :=
  (∀ ch, (s.floor ch).queue.length ≤ 8 ∧ (s.floor ch).lockouts.length ≤ 8 ∧ (s.floor ch).alerts.length ≤ 4 ∧
    (s.frames ch).length ≤ 16) ∧
  s.units.length ≤ 96 ∧ s.quiet.length ≤ 8 ∧
  ∀ c, (s.link c).responses.length ≤ 8 ∧ (s.link c).notices.length ≤ 32

/-- R177: a link whose framer is IN_FRAME has room for the response to the frame. -/
def FramesHaveRoom (s : State) : Prop := ∀ c, (s.link c).framer.isSome = true → (s.link c).responses.length < 8

/-- R26: a channel has a grant record exactly when its floor, or its held state in TRANSFER, is GRANTED. -/
def GrantLaw (s : State) : Prop := ∀ ch, (s.floor ch).grant.isSome = true ↔ (s.floor ch).effective = .granted

/-- R34: the gate is open for the holder of the grant, and closed where there is none. -/
def GateLaw (s : State) : Prop := ∀ ch, (s.floor ch).gate = (s.floor ch).grant.map (·.holder)

/-- R54: a party has at most one entry in a channel's queue, and none where it holds the channel's grant. -/
def OneClaim (s : State) : Prop :=
  ∀ ch, ((s.floor ch).queue.map (·.party)).Nodup ∧
    ∀ g, (s.floor ch).grant = some g → g.holder ∉ (s.floor ch).queue.map (·.party)

/-- R80, R191: the global default fault limit is 1 to 7, a move's count does not exceed its fault limit, and a move whose
count equals it is in STOP_HELD or SUSPENDED with suspension pending, or in RELEASING. R1: a move with a forming deadline
is in FORMING. -/
def FaultCountLaw (s : State) : Prop :=
  (1 ≤ s.globals.faultLimit ∧ s.globals.faultLimit ≤ 7) ∧
  ∀ i m, s.move i = some m → 1 ≤ m.faultLimit ∧ m.faultLimit ≤ 7 ∧ m.faultCount ≤ m.faultLimit ∧
    (m.faultCount = m.faultLimit →
      m.state = .releasing ∨ (m.state = .stopHeld ∨ m.state = .suspended) ∧ m.suspensionPending = true) ∧
    (m.formingDeadline.isSome = true → m.state = .forming)

/-- R115: no unit has two records, and no time of a record lies more than 2^31 - 1 ms in the past. -/
def RegisterLaw (s : State) : Prop :=
  (s.units.map (·.unit)).Nodup ∧
  ∀ r ∈ s.units, elapsed s.time r.admitted ≤ 2147483647 ∧ elapsed s.time r.lastHeard ≤ 2147483647 ∧
    elapsed s.time r.unboundSince ≤ 2147483647

/-- R2, R116, R186: in CONFIG there is no move; the members of a move are distinct registered units bound to it; and a
bound unit is a member of the move it is bound to. -/
def BindingLaw (s : State) : Prop :=
  (s.part = .config → ∀ i, s.move i = none) ∧
  (∀ i m, s.move i = some m → m.units.Nodup ∧ ∀ u ∈ m.units, s.bindingOf (.unit u) = some i) ∧
  ∀ r ∈ s.units, ∀ i, r.binding = some i → ∃ m, s.move i = some m ∧ r.unit ∈ m.units

/-- R180: no transmitter is idle while a response or a notice waits on its link. -/
def NoIdleTransmitter (s : State) : Prop :=
  ∀ c, (s.link c).tx = none → (s.link c).responses = [] ∧ (s.link c).notices = []

/-- R153: a running test exists only on a port in TEST, and every port in TEST has one. -/
def TestLaw (s : State) : Prop :=
  ∀ p, (s.port p).state = .test ↔ ∃ t, s.testOf p = some t ∧ (t.state = .search ∨ t.state = .synced)

/-- R138: the states in which a channel is carried. -/
def Floor.carried (f : Floor) : Prop := f.state = .idle ∨ f.state = .granted ∨ f.state = .hang ∨ f.state = .alert

/-- R25, R47, R138, R143, R145, R147: in CONFIG every floor is OFF, and in SERVICE exactly those not in use; a channel is
carried exactly when an ACTIVE port names it, and in TRANSFER exactly when a port tunes for it with purpose START or
TRANSFER; no two ports do the same for one channel; and a port tunes for a swap of a carried channel only. -/
def CarrierLaw (s : State) : Prop :=
  (s.part = .config → ∀ ch, (s.floor ch).state = .off) ∧
  (s.part = .service → ∀ ch, (s.chan ch).inUse = true ↔ (s.floor ch).state ≠ .off) ∧
  (∀ ch, (s.floor ch).carried ↔ ∃ p, (s.port p).state = .active ∧ (s.port p).channel = some ch) ∧
  (∀ ch, (s.floor ch).state = .transfer ↔ ∃ p, (s.port p).state = .tuning ∧ (s.port p).channel = some ch ∧
    (s.port p).purpose ≠ some .swap) ∧
  (∀ ch, (s.floor ch).state = .transfer → (s.floor ch).held = some .idle ∨ (s.floor ch).held = some .granted ∨
    (s.floor ch).held = some .hang ∨ (s.floor ch).held = some .alert) ∧
  (∀ p q, (s.port p).state = (s.port q).state → (s.port p).channel = (s.port q).channel →
    ((s.port p).state = .active ∨ (s.port p).state = .tuning ∧
      ((s.port p).purpose = some .swap ↔ (s.port q).purpose = some .swap)) → p = q) ∧
  (∀ p, (s.port p).state = .active ∨ (s.port p).state = .tuning → (s.port p).channel.isSome = true) ∧
  ∀ p, (s.port p).state = .tuning → (s.port p).purpose.isSome = true ∧
    ∀ ch, (s.port p).channel = some ch → (s.port p).purpose = some .swap → (s.floor ch).carried

/-- R190, R191: every parameter lies in its range; AGE_STEP is a multiple of 500 and the presence interval of 100. -/
def ConfigLaw (s : State) : Prop :=
  (∀ ch, (s.chan ch).freq ≤ 4095 ∧
    (500 ≤ (s.chan ch).ageStep ∧ (s.chan ch).ageStep ≤ 8000 ∧ (s.chan ch).ageStep % 500 = 0) ∧
    (s.chan ch).hangMs ≤ 10000 ∧
    (5 ≤ (s.chan ch).routineLimit ∧ (s.chan ch).routineLimit ≤ 255) ∧
    (5 ≤ (s.chan ch).workLimit ∧ (s.chan ch).workLimit ≤ 255) ∧
    (5 ≤ (s.chan ch).urgentLimit ∧ (s.chan ch).urgentLimit ≤ 255) ∧
    (10000 ≤ (s.chan ch).queueTimeout ∧ (s.chan ch).queueTimeout ≤ 300000)) ∧
  s.globals.levels ≠ 0 ∧ (1 ≤ s.globals.ageOut ∧ s.globals.ageOut ≤ 60) ∧
  (500 ≤ s.globals.interval ∧ s.globals.interval ≤ 5000 ∧ s.globals.interval % 100 = 0) ∧
  (1 ≤ s.globals.faultLimit ∧ s.globals.faultLimit ≤ 7)

end Sys2Proof.Machine
end

