-- ==== Sys2Proof/Certificates/Slice0/Obligations.lean ====
section
/-! DEFINITION. Certificates/Slice0/Obligations.lean: the statements for the provers. A command's effect is written by
the fields it changes; `{ s with … }` leaves the rest, so it is also the frame. -/

open Sys2Proof Sys2Proof.Machine

/-! ## The queue and the part as a whole -/

/-- spec/95: events are taken one at a time. A step takes the event at the front of the queue and carries it out on
the state with the queue's rest. That the part idles on an empty queue is the model's choice (log entry 1). -/
def Obligations.StepTakesTheFrontOfTheQueue : Prop :=
  ∀ (c : Instr) (rest : List Instr) (s : State),
    step { s with pending := c :: rest } = exec c { s with pending := rest } ∧
    step { s with pending := [] } = .next { s with pending := [] }

/-- R132, R175, R178, R187, R196: nothing stops the part. Every event has a next state, in every state, and leaves the
queue of waiting events alone (log entry 1). While the RESET line is asserted, every event but POWER_ON, RESET_ASSERT
and RESET_RELEASE leaves the state as it is (log entry 6 reads R187 so). -/
def Obligations.EveryEventIsTakenOrHeld : Prop :=
  (
    ∀ (c : Instr) (s : State), ∃ t, exec c s = .next t ∧ t.pending = s.pending) ∧
  (
    ∀ (c : Instr) (s : State), s.resetLine = true →
      c ≠ .powerOn → c ≠ .resetAssert → c ≠ .resetRelease → exec c s = .next s)

/-- R187, with the records' own rules (R1, R25, R99, R110, R115, R122, R137, R153, R162, R165, R174, R190, R191): the
state after power-on and after the RESET line. -/
def Obligations.ResetLeavesTheInitialState : Prop :=
  (State.reset.time = 0 ∧ State.reset.part = .config ∧ State.reset.resetLine = false) ∧
  (∀ ch : Chan, State.reset.chan ch =
    { inUse := decide (ch.val < 2), port := if ch.val = 0 then some 0 else if ch.val = 1 then some 1 else none
      freq := 200 + 10 * ch.val, ageStep := 2000, hangMs := 2500, routineLimit := 30, workLimit := 60, urgentLimit := 120
      queueTimeout := 60000 }) ∧
  State.reset.globals = { levels := 7, ageOut := 20, interval := 2000, faultLimit := 3 } ∧
  (∀ i, State.reset.move i = none) ∧ State.reset.units = [] ∧ (∀ i, State.reset.slot i = none) ∧ State.reset.quiet = [] ∧
  (∀ ch, State.reset.frames ch = [] ∧ State.reset.generator ch = none ∧ State.reset.floor ch =
    { state := .off, held := none, grant := none, gate := none, hang := none, queue := [], lockouts := [], alerts := []
      heard := none, foreignSince := none, episodeOpen := false, quiet := none }) ∧
  (∀ p, State.reset.testOf p = none ∧ State.reset.sequences.get p = 0 ∧ State.reset.port p =
    { state := .absent, channel := none, purpose := none, tuneDeadline := none, lastHealth := none, status := none
      okStart := none, lastCause := none, pins := { highZ := false, gate := none, tone := none } }) ∧
  (State.reset.patterns.get 0 = some ⟨5, [⟨1800, 20, 12, 3413⟩, ⟨1800, 10, 0, 3413⟩]⟩ ∧
    State.reset.patterns.get 1 = some ⟨3, [⟨1200, 30, 10, 3072⟩, ⟨1800, 30, 10, 3413⟩]⟩ ∧
    State.reset.patterns.get 2 = some ⟨2, [⟨3000, 10, 6, 3686⟩]⟩ ∧
    State.reset.patterns.get 3 = some ⟨2, [⟨1200, 40, 12, 3072⟩, ⟨1200, 20, 0, 3072⟩]⟩ ∧
    ∀ k : PatternIx, 4 ≤ k.val → State.reset.patterns.get k = none) ∧
  (∀ c, (State.reset.link c).framer = none ∧ (State.reset.link c).responses = [] ∧ (State.reset.link c).notices = [] ∧
    (State.reset.link c).nextNumber = 0 ∧ (State.reset.link c).tx = none ∧ (State.reset.link c).latches = Latches.clear ∧
    (State.reset.link c).subs = 0b111111#6)

/-- R187: POWER_ON and RESET_ASSERT give every piece of state its initial value, the second with the RESET line
asserted; after RESET_RELEASE the part is in CONFIG with every piece of state at its initial value. The waiting events
stay (log entry 6). -/
def Obligations.PowerOnAndTheResetLine : Prop :=
  ∀ s : State,
    exec .powerOn s = .next { State.reset with pending := s.pending } ∧
    exec .resetAssert s = .next { State.reset with resetLine := true, pending := s.pending } ∧
    exec .resetRelease s = .next { s with resetLine := false } ∧
    ∀ t, exec .resetAssert s = .next t → exec .resetRelease t = .next { State.reset with pending := s.pending }

/-- R192, R115: a tick raises the Time Base by 1, with 2^32 - 1 followed by 0, and changes nothing else but the
register's times: one that is less than 2^31 - 1 ms old stays, and one of that age moves forward with the Time Base.
-/
def Obligations.TickRaisesTheTimeBase : Prop :=
  ∀ s : State, s.resetLine = false → RegisterLaw s →
    ∃ us, exec .timeBaseTick s = .next (settle { s with time := s.time + 1, units := us }) ∧
      us.length = s.units.length ∧
      ∀ (k : Nat) (r : UnitRec), s.units[k]? = some r → ∃ r', us[k]? = some r' ∧
        r' = { r with admitted := r'.admitted, lastHeard := r'.lastHeard, unboundSince := r'.unboundSince } ∧
        (r'.admitted = if elapsed s.time r.admitted < 2147483647 then r.admitted else r.admitted + 1) ∧
        (r'.lastHeard = if elapsed s.time r.lastHeard < 2147483647 then r.lastHeard else r.lastHeard + 1) ∧
        (r'.unboundSince = if elapsed s.time r.unboundSince < 2147483647 then r.unboundSince else r.unboundSince + 1)

/-! ## Console links -/

/-- R175, R176, R177: the receive framer. In HUNT a sync byte with a valid stop bit opens a frame where fewer than 8
responses wait, with the gap deadline 21 ms ahead, and every other byte is discarded. In IN_FRAME a framing error, a
declared length outside 1 to 120, a gap and a wrong CRC discard the frame with their cause; a byte that does not
complete the frame (length, type, body, CRC: its count and three more) is stored and moves the gap deadline on. That a byte
without a valid stop bit is CHARACTER whatever its value is the model's choice (log entry 33). -/
def Obligations.ReceiveFramer : Prop :=
  (
    ∀ (link : Console) (b : Byte) (stop : Bool) (s : State), s.resetLine = false → (s.link link).framer = none →
      exec (.consoleByte link b stop) s = .next (settle
        (if stop = true ∧ b = 0xA5#8 ∧ (s.link link).responses.length < 8 then
          setLink link { s.link link with framer := some { bytes := [], declared := none, gap := s.time + 21 } } s
        else s))) ∧
  (
    ∀ (link : Console) (b : Byte) (r : Reception) (s : State), s.resetLine = false → (s.link link).framer = some r →
      (exec (.consoleByte link b false) s =
        .next (settle (respond link ⟨none, .frameReject .character⟩ (hunt link s)))) ∧
      ∀ (n : Byte) (frame : List Byte), n = r.declared.getD b → frame = r.bytes ++ [b] →
        (n.toNat = 0 ∨ 120 < n.toNat → exec (.consoleByte link b true) s =
          .next (settle (respond link ⟨none, .frameReject .length⟩ (hunt link s)))) ∧
        (1 ≤ n.toNat → n.toNat ≤ 120 → frame.length ≠ n.toNat + 3 → exec (.consoleByte link b true) s =
          .next (settle
            (setLink link { s.link link with framer := some { bytes := frame, declared := some n, gap := s.time + 21 } } s))) ∧
        (1 ≤ n.toNat → n.toNat ≤ 120 → frame.length = n.toNat + 3 → crcMatches frame = false →
          exec (.consoleByte link b true) s =
            .next (settle (respond link ⟨none, .frameReject .crc⟩ (hunt link s))))) ∧
  (
    ∀ (link : Console) (r : Reception) (s : State), s.resetLine = false → (s.link link).framer = some r →
      reached s.time r.gap = true →
      exec (.gapDeadline link) s = .next (settle (respond link ⟨none, .frameReject .gap⟩ (hunt link s))))

/-- R178: the byte that completes a checked frame carries out its command: it does what the row of that command does.
A type that is no command is answered UNKNOWN_COMMAND, and a body that does not fit is answered BAD_FORMAT. -/
def Obligations.CheckedFrameIsCarriedOut : Prop :=
  ∀ (link : Console) (b : Byte) (r : Reception) (s : State), Listening link s → (s.link link).framer = some r →
    ∀ (n : Byte) (frame : List Byte), n = r.declared.getD b → frame = r.bytes ++ [b] →
      1 ≤ n.toNat → n.toNat ≤ 120 → frame.length = n.toNat + 3 → crcMatches frame = true →
      (∀ c, parseCommand (frameType frame) (frameBody frame) = .fits c →
        exec (.consoleByte link b true) s = exec (commandRow link c) s) ∧
      (parseCommand (frameType frame) (frameBody frame) = .unknown →
        exec (.consoleByte link b true) s = exec (.unknownCommand link (frameType frame)) s) ∧
      (parseCommand (frameType frame) (frameBody frame) = .unfit →
        exec (.consoleByte link b true) s =
          answeredWith link (frameType frame) (.refused .badFormat 0) (hunt link s))

/-- R180, R195: when a transmitter finishes a frame it takes the next one: the next frame of the same message, else
the first frame of the oldest response, else of the oldest notice, else it goes idle. -/
def Obligations.TransmitterTakesTheNextFrame : Prop :=
  ∀ (link : Console) (x : Sending) (s : State), s.resetLine = false → (s.link link).tx = some x →
    ∃ t, exec (.transmitDone link) s = .next t ∧ t = { s with links := t.links } ∧
      (∀ c, c ≠ link → t.link c = (s.link c).settle) ∧
      (∀ f fs, x.rest = f :: fs → t.link link = { s.link link with tx := some ⟨f, fs⟩ }) ∧
      (∀ r rs, x.rest = [] → (s.link link).responses = r :: rs → ∃ f fs, r.frames = f :: fs ∧
        t.link link = { s.link link with responses := rs, tx := some ⟨f, fs⟩ }) ∧
      (∀ n ns, x.rest = [] → (s.link link).responses = [] → (s.link link).notices = n :: ns →
        ∃ f fs, n.frames = f :: fs ∧ t.link link = { s.link link with notices := ns, tx := some ⟨f, fs⟩ }) ∧
      (x.rest = [] → (s.link link).responses = [] → (s.link link).notices = [] →
        t.link link = { s.link link with tx := none })

/-- R179: a command on a link is answered by one response, which names its code and is ACCEPTED or REFUSED; a refused
command changes nothing but the answer (and the framer, which the frame has left). The code is the one under which a
frame's body reads as the command; no other response has entered a queue. -/
def Obligations.RefusedCommandsChangeNothing : Prop :=
  (∀ (link : Console) (c : Command) (s : State), Listening link s →
    ∃ a u, exec (commandRow link c) s = answeredWith link (commandCode c) a u ∧
      (∀ l, (u.link l).responses = (s.link l).responses) ∧ (∀ cause, a ≠ .frameReject cause) ∧
      ∀ reason detail, a = .refused reason detail → u = hunt link s) ∧
  ∀ (c : Command) (code : Byte) (body : List Byte), parseCommand code body = .fits c → code = commandCode c

/-- R181, R182: a directed notice goes to one link, and a category notice to each link that holds its category. It
takes the link's number, which goes up by 1, and enters the buffer; at 32 notices it is discarded and NOTICE_OVERFLOW
is latched. In CONFIG only PORT notices are produced. -/
def Obligations.NoticesAreNumberedAndDelivered : Prop :=
  (∀ (c : Console) (b : NoticeBody) (s : State), s.part = .service →
    ∃ l, notify c b s = { s with links := s.links.put c l } ∧ l.nextNumber = (s.link c).nextNumber + 1 ∧
      ((s.link c).notices.length < 32 →
        l = { s.link c with nextNumber := l.nextNumber, notices := (s.link c).notices ++ [⟨(s.link c).nextNumber, s.time, b⟩] }) ∧
      (32 ≤ (s.link c).notices.length →
        l = { s.link c with nextNumber := l.nextNumber, latches := { (s.link c).latches with noticeOverflow := true } })) ∧
  (∀ (b : NoticeBody) (k : Category) (s : State), b.category = some k → s.part = .service ∨ k = .port →
    broadcast b s = { s with links := (broadcast b s).links } ∧
    ∀ c, (broadcast b s).link c =
      if (s.link c).subs.getLsbD k.bit then (s.link c).deliver s.time b else s.link c) ∧
  (∀ (b : NoticeBody) (s : State), s.part = .config → b.category ≠ some .port →
    broadcast b s = s ∧ ∀ c, notify c b s = s)

/-! ## Reads and subscriptions -/

/-- R19, R52, R152, R161, R192: READ_TIME, READ_MOVE, READ_FLOOR, READ_PORT and READ_TEST report and change nothing.
The rank of a queue entry is that of R56; a port assigned to one channel at most is reported with that channel. -/
def Obligations.ReadsReportAndChangeNothing : Prop :=
  ∀ (link : Console) (s : State), Listening link s →
    (exec (.readTime link) s = answeredWith link 0x37#8 (.accepted false (.clock s.time s.part)) (hunt link s)) ∧
    (∀ (b : Byte) (i : MoveIx) (m : Move), b.toNat = i.val + 1 → s.move i = some m →
      exec (.readMove link b) s = answeredWith link 0x30#8 (.accepted false (.moveRecord i m)) (hunt link s)) ∧
    (∀ (b : Byte) (ch : Chan), b.toNat = ch.val →
      exec (.readFloor link b) s = answeredWith link 0x33#8
        (.accepted false (.floorRecord (s.floor ch) ((s.floor ch).queue.map (fun e =>
          match e.cls with
          | .routine => min 15 (elapsed s.time e.arrival / (s.chan ch).ageStep)
          | .work => 10 + min 15 (elapsed s.time e.arrival / (s.chan ch).ageStep)
          | .urgent => 30 + min 15 (elapsed s.time e.arrival / (s.chan ch).ageStep)
          | .emergency => 60)))) (hunt link s)) ∧
    (∀ (b : Byte) (p : Port) (a : Option Chan), b.toNat = p.val →
      (∀ ch, (s.chan ch).port = some p ↔ a = some ch) →
      exec (.readPort link b) s = answeredWith link 0x34#8
        (.accepted false (.portRecord (s.port p) a
          (if (s.port p).state = .failed then (s.port p).okStart.map (fun t => t + 10000) else none))) (hunt link s)) ∧
    (∀ (b : Byte) (p : Port) (t : TestRec), b.toNat = p.val → s.testOf p = some t →
      exec (.readTest link b) s = answeredWith link 0x35#8 (.accepted false (.testRecord t)) (hunt link s))

/-- R120, R121: READ_UNIT reports what there is of a unit's record with its aging expiry, of its slot and of its
quiet-list expiry, and refuses a unit that has none of them and an ID that no unit can have; LIST_UNITS reports the first 24 of the records from a starting ID that pass the filter, in ascending order, whether
more follow, and the counts; a move number outside 1 to 24 is refused. Both change nothing. That a refusal of READ_UNIT carries
detail 0 and not the unit is the model's choice (log entry 21, DEDUCED). -/
def Obligations.RegisterReadsReportAndChangeNothing : Prop :=
  ∀ (link : Console) (s : State), Listening link s →
    (∀ u : UnitId,
      (isUnitId u = true → (s.unit u).isSome = true ∨ (∃ i sl, s.slot i = some sl ∧ sl.unit = u) ∨
        (∃ q ∈ s.quiet, q.unit = u) →
        exec (.readUnit link u) s = answeredWith link 0x31#8
          (.accepted false (.unitRecord
            ((s.unit u).map (fun r => (r, r.agingExpiry s.time s.globals.ageOut))) (slotOf s u) (quietExpiry s u)))
          (hunt link s)) ∧
      (isUnitId u = false ∨ s.unit u = none ∧ (∀ i sl, s.slot i = some sl → sl.unit ≠ u) ∧ (∀ q ∈ s.quiet, q.unit ≠ u) →
        exec (.readUnit link u) s = answeredWith link 0x31#8 (.refused .unitUnknown 0) (hunt link s))) ∧
    (∀ (start : UnitId) (filter : Byte) (move : Option Byte) (pass : UnitRec → Bool),
      (filter = 0 ∧ move = none ∧ (∀ r, pass r = true) ∨
        filter = 1 ∧ move = none ∧ (∀ r, pass r = true ↔ r.binding = none) ∨
        ∃ (b : Byte) (i : MoveIx), filter = 2 ∧ move = some b ∧ b.toNat = i.val + 1 ∧
          ∀ r, pass r = true ↔ r.binding = some i) →
      ∃ us : List UnitRec, us.Pairwise (fun a b => a.unit.toNat ≤ b.unit.toNat) ∧
        us.Perm (s.units.filter (fun r => decide (min 0xFFEF start.toNat ≤ r.unit.toNat) && pass r)) ∧
        exec (.listUnits link start filter move) s = answeredWith link 0x32#8
          (.accepted (decide (0xFFEF < start.toNat)) (.unitList
            ((us.take 24).map (fun r => ⟨r.unit, r.kind, r.level, r.binding, r.current⟩)) (decide (24 < us.length))
            s.units.length (s.units.filter (fun r => r.binding.isSome)).length)) (hunt link s)) ∧
    ∀ (start : UnitId) (b : Byte), b.toNat = 0 ∨ 24 < b.toNat →
      exec (.listUnits link start 2 (some b)) s = answeredWith link 0x32#8 (.refused .moveUnknown 0) (hunt link s)

/-- R183, R185: READ_CONDITIONS reports the link's latches, the waiting notices and the next number, and clears the
latches of that link alone. SUBSCRIBE sets the issuing link's subscription set to the named categories, and refuses a
set that names any other value. -/
def Obligations.ConditionsAndSubscriptions : Prop :=
  (
    ∀ (link : Console) (s : State), Listening link s →
      exec (.readConditions link) s = answeredWith link 0x36#8
        (.accepted false
          (.conditions (s.link link).latches (s.link link).notices.length (s.link link).nextNumber))
        (setLink link { s.link link with framer := none, latches := Latches.clear } s)) ∧
  (
    ∀ (link : Console) (mask : Byte) (s : State), Listening link s →
      (mask.toNat < 64 → exec (.subscribe link mask) s = answeredWith link 0x38#8
        (.accepted false (.categories (mask.setWidth 6)))
        (setLink link { s.link link with framer := none, subs := mask.setWidth 6 } s)) ∧
      (64 ≤ mask.toNat → exec (.subscribe link mask) s =
        answeredWith link 0x38#8 (.refused .badCategory 0) (hunt link s)))

/-! ## Configuration and the part state -/

/-- R190: SET_CHANNEL, in CONFIG or without a structural field, applies the fields present, clamped and rounded,
answers every field of the channel after the change, and changes nothing else. CLAMPED is set exactly where a value
lay outside its range. -/
def Obligations.SetChannelAppliesItsFields : Prop :=
  ∀ (link : Console) (b : Byte) (ch : Chan) (f : ChannelFields) (s : State), Listening link s → b.toNat = ch.val →
    (∀ v, f.inUse = some v → v.toNat ≤ 1) → (∀ v, f.port = some v → v.toNat ≤ 6 ∨ v = 0xFF#8) →
    (s.part = .config ∨ f.inUse = none ∧ f.port = none ∧ f.freq = none) →
    ∃ (clamped : Bool) (c : ChannelConfig),
      exec (.setChannel link b f) s = answeredWith link 0x01#8 (.accepted clamped (.channel c))
        { hunt link s with channels := s.channels.put ch c } ∧
      c.inUse = (match f.inUse with | none => (s.chan ch).inUse | some v => v == 1) ∧
      (f.port = none → c.port = (s.chan ch).port) ∧ (f.port = some 0xFF#8 → c.port = none) ∧
      (∀ (v : Byte) (p : Port), f.port = some v → v.toNat = p.val → c.port = some p) ∧
      c.freq = (match f.freq with | none => (s.chan ch).freq | some v => min 4095 v.toNat) ∧
      c.ageStep = (match f.ageStep with
        | none => (s.chan ch).ageStep
        | some v => min 8000 (max 500 v.toNat) - min 8000 (max 500 v.toNat) % 500) ∧
      c.hangMs = (match f.hangMs with | none => (s.chan ch).hangMs | some v => min 10000 v.toNat) ∧
      c.routineLimit = (match f.routineLimit with | none => (s.chan ch).routineLimit | some v => max 5 v.toNat) ∧
      c.workLimit = (match f.workLimit with | none => (s.chan ch).workLimit | some v => max 5 v.toNat) ∧
      c.urgentLimit = (match f.urgentLimit with | none => (s.chan ch).urgentLimit | some v => max 5 v.toNat) ∧
      c.queueTimeout = (match f.queueTimeout with
        | none => (s.chan ch).queueTimeout | some v => min 300000 (max 10000 v.toNat)) ∧
      (clamped = true ↔ (∃ v, f.freq = some v ∧ 4095 < v.toNat) ∨
        (∃ v, f.ageStep = some v ∧ (v.toNat < 500 ∨ 8000 < v.toNat)) ∨ (∃ v, f.hangMs = some v ∧ 10000 < v.toNat) ∨
        (∃ v, f.routineLimit = some v ∧ v.toNat < 5) ∨ (∃ v, f.workLimit = some v ∧ v.toNat < 5) ∨
        (∃ v, f.urgentLimit = some v ∧ v.toNat < 5) ∨
        ∃ v, f.queueTimeout = some v ∧ (v.toNat < 10000 ∨ 300000 < v.toNat))

/-- R3, R4, R11, R13, R15, R16, R188, R190, R191: checks that refuse a command as a whole. In SERVICE, SET_CHANNEL with a
structural field and SET_GLOBAL with a level set; a channel outside CH0 to CH5, an assigned port outside BP0 to BP6, an empty
level set. Where two of the checks of SET_CHANNEL or of SET_GLOBAL fail, the reason is the model's choice (log entry 19).
ENTER_SERVICE, CREATE_MOVE and every command that names a move make their checks in order, and the first that fails gives the
reason and the detail: ENTER_SERVICE the first offending channel and cause; CREATE_MOVE its fourteen checks; a command that
names a move the part's state, the record, the operating console, the move's state and its own checks. That a refusal carries
detail 0 where its rule names no offending unit (R11, R13, R15, and the checks of R4 that name none) is the model's choice (log
entry 21, DEDUCED). -/
def Obligations.CommandsAreGuarded : Prop :=
  (
    ∀ (link : Console) (s : State), Listening link s →
      (∀ (b : Byte) (ch : Chan) (f : ChannelFields), s.part = .service → b.toNat = ch.val →
        (∀ v, f.inUse = some v → v.toNat ≤ 1) → (∀ v, f.port = some v → v.toNat ≤ 6 ∨ v = 0xFF#8) →
        ¬ (f.inUse = none ∧ f.port = none ∧ f.freq = none) →
        exec (.setChannel link b f) s = answeredWith link 0x01#8 (.refused .wrongState 0) (hunt link s)) ∧
      (∀ (b : Byte) (f : ChannelFields), (∀ v, f.inUse = some v → v.toNat ≤ 1) → 6 ≤ b.toNat →
        exec (.setChannel link b f) s = answeredWith link 0x01#8 (.refused .channelUnknown 0) (hunt link s)) ∧
      (∀ (b v : Byte) (ch : Chan) (f : ChannelFields), (∀ v, f.inUse = some v → v.toNat ≤ 1) → b.toNat = ch.val →
        f.port = some v → 7 ≤ v.toNat → v ≠ 0xFF#8 →
        exec (.setChannel link b f) s = answeredWith link 0x01#8 (.refused .portUnknown 0) (hunt link s)) ∧
      (∀ (v : Byte) (f : GlobalFields), s.part = .service → f.levels = some v → 1 ≤ v.toNat → v.toNat ≤ 7 →
        exec (.setGlobal link f) s = answeredWith link 0x02#8 (.refused .wrongState 0) (hunt link s)) ∧
      (∀ f : GlobalFields, f.levels = some 0 →
        exec (.setGlobal link f) s = answeredWith link 0x02#8 (.refused .badLevelSet 0) (hunt link s))) ∧
  (∀ (link : Console) (s : State), Listening link s →
    RefusedAtFirst link .enterService
      ([(s.part = .config, .wrongState, 0), ((s.chan 0).inUse = true, .configInvalid, 0)] ++
        (List.finRange 6).flatMap (fun ch => planChecks ch s)) s) ∧
  (∀ (link : Console) (f : MoveFields) (s : State), Listening link s →
    RefusedAtFirst link (.createMove f) (createChecks f s) s) ∧
  ∀ (link : Console) (b : Byte) (m : Move) (s : State), Listening link s →
    (∀ i : MoveIx, b.toNat = i.val + 1 → s.move i = none ∨ s.move i = some m) →
    RefusedAtFirst link (.readMove b) [(∃ i : MoveIx, b.toNat = i.val + 1 ∧ s.move i = some m, .moveUnknown, 0)] s ∧
    RefusedAtFirst link (.takeMove b)
      [(s.part = .service, .wrongState, 0), (∃ i : MoveIx, b.toNat = i.val + 1 ∧ s.move i = some m, .moveUnknown, 0)] s ∧
    ∀ c states own, MoveChecks b m s c states own →
      RefusedAtFirst link c
        ([(s.part = .service, .wrongState, 0), (∃ i : MoveIx, b.toNat = i.val + 1 ∧ s.move i = some m, .moveUnknown, 0),
          (m.console = link, .notOperator, 0), (m.state ∈ states, .wrongState, 0)] ++ own) s

/-- R191, R119: SET_GLOBAL, in CONFIG or without a level set, applies the fields present, clamped and rounded. With
AGE_OUT present, the unbound records whose age (from the later of last heard and unbound since) has reached the new
value are removed, with the claims of their units on every channel; without it nothing else changes. -/
def Obligations.SetGlobalAppliesItsFields : Prop :=
  ∀ (link : Console) (f : GlobalFields) (s : State), Listening link s → (s.units.map (·.unit)).Nodup →
    (∀ v, f.levels = some v → 1 ≤ v.toNat ∧ v.toNat ≤ 7) → (s.part = .config ∨ f.levels = none) →
    ∃ (clamped : Bool) (g : GlobalConfig) (u : State),
      exec (.setGlobal link f) s = answeredWith link 0x02#8 (.accepted clamped (.globals g)) u ∧
      u = { s with
        globals := g, units := u.units, floors := u.floors, downlink := u.downlink, generators := u.generators
        links := u.links, ports := u.ports, sent := u.sent } ∧
      g.levels = (match f.levels with | none => s.globals.levels | some v => v.setWidth 3) ∧
      g.ageOut = (match f.ageOut with | none => s.globals.ageOut | some v => min 60 (max 1 v.toNat)) ∧
      g.interval = (match f.interval with
        | none => s.globals.interval
        | some v => min 5000 (max 500 v.toNat) - min 5000 (max 500 v.toNat) % 100) ∧
      g.faultLimit = (match f.faultLimit with | none => s.globals.faultLimit | some v => min 7 (max 1 v.toNat)) ∧
      (clamped = true ↔ (∃ v, f.ageOut = some v ∧ (v.toNat < 1 ∨ 60 < v.toNat)) ∨
        (∃ v, f.interval = some v ∧ (v.toNat < 500 ∨ 5000 < v.toNat)) ∨
        ∃ v, f.faultLimit = some v ∧ (v.toNat < 1 ∨ 7 < v.toNat)) ∧
      (f.ageOut = none → u = { hunt link s with globals := g }) ∧
      (∀ v, f.ageOut = some v → u.units = s.units.filter (fun r => decide (¬ (r.binding = none ∧
        60000 * g.ageOut ≤ min (elapsed s.time r.lastHeard) (elapsed s.time r.unboundSince))))) ∧
      (∀ v r, f.ageOut = some v → OneClaim s → r ∈ s.units → r ∉ u.units → ∀ ch, Unclaimed ch (.unit r.unit) u)

/-- R188, R146, R143: ENTER_SERVICE. Where CH0 is in use and every in-use channel has an assigned port of its own that
is not FAILED, the part becomes SERVICE; a channel whose port is STANDBY or in TEST is carried by it, and an OFF floor
becomes IDLE; a channel whose port is ABSENT is in TRANSFER with held state IDLE while that port tunes for 1000 ms
with purpose START; of the channels whose port is ISOLATED, in ascending order, each is in TRANSFER while the next spare tunes
for it with purpose TRANSFER, or closes where no spare is left. The test of a port that a channel takes is aborted. A floor
not in use stays as it is. -/
def Obligations.EnterServicePlacesTheChannels : Prop :=
  ∀ (link : Console) (s : State), Listening link s → s.part = .config → (s.chan 0).inUse = true →
    (∀ ch, (s.chan ch).inUse = true → ∃ p, (s.chan ch).port = some p ∧ (s.port p).state ≠ .failed) →
    (∀ ch ch' p, (s.chan ch).inUse = true → (s.chan ch').inUse = true → (s.chan ch).port = some p →
      (s.chan ch').port = some p → ch = ch') →
    ∃ u, exec (.enterService link) s = answeredWith link 0x08#8 (.accepted false .none) u ∧
      u = { s with
        part := .service, floors := u.floors, downlink := u.downlink, generators := u.generators, ports := u.ports
        tests := u.tests, links := u.links, sent := u.sent } ∧
      (∀ ch p, (s.chan ch).inUse = true → (s.chan ch).port = some p →
        ((s.port p).state = .standby ∨ (s.port p).state = .test) →
        (u.port p).state = .active ∧ (u.port p).channel = some ch ∧ (p, PortMsg.tune (s.chan ch).freq) ∈ u.sent ∧
        ((s.floor ch).state = .off → (u.floor ch).state = .idle) ∧
        ∀ t, (s.port p).state = .test → s.testOf p = some t → t.state = .search ∨ t.state = .synced →
          u.testOf p = some { t with state := .aborted, abort := some .failover, endTime := s.time, insertPending := false }) ∧
      (∀ ch p, (s.chan ch).inUse = true → (s.chan ch).port = some p → (s.port p).state = .absent →
        (u.port p).state = .tuning ∧ (u.port p).channel = some ch ∧ (u.port p).purpose = some .start ∧
        (u.port p).tuneDeadline = some (s.time + 1000) ∧ (u.port p).lastHealth = some s.time ∧
        (p, PortMsg.tune (s.chan ch).freq) ∈ u.sent ∧
        ((s.floor ch).state = .off → (u.floor ch).state = .transfer ∧ (u.floor ch).held = some .idle)) ∧
      (∀ (chs : List Chan) (k : Nat) (ch : Chan),
        chs = allChans.filter (fun c => decide ((s.chan c).inUse = true ∧
          ∃ p, (s.chan c).port = some p ∧ (s.port p).state = .isolated)) → chs[k]? = some ch →
        (∀ q, (spares s)[k]? = some q →
          u.port q = { s.port q with
            state := .tuning, channel := some ch, purpose := some .transfer, tuneDeadline := some (s.time + 1000) } ∧
          (q, PortMsg.tune (s.chan ch).freq) ∈ u.sent ∧
          (∀ t, s.testOf q = some t → t.state = .search ∨ t.state = .synced →
            u.testOf q = some { t with
              state := .aborted, abort := some .failover, endTime := s.time, insertPending := false }) ∧
          ((s.floor ch).state = .off → (u.floor ch).state = .transfer ∧ (u.floor ch).held = some .idle)) ∧
        ((spares s)[k]? = none →
          (u.floor ch).state = .closed ∧ (u.floor ch).held = none ∧ (u.floor ch).grant = none ∧
          (u.floor ch).queue = [] ∧ u.frames ch = [])) ∧
      (∀ ch, (s.chan ch).inUse = false → u.floor ch = s.floor ch)

/-- R189: RESTART, in CONFIG or with an empty move table, empties the notice buffers, latches, floors, generators,
downlink queues, slots, quiet list, register and test records, makes the part CONFIG, and takes ACTIVE, TUNING and
TEST ports to STANDBY, each former ACTIVE port sent a closed gate and a silent tone line. The notices of these changes of
port state, in ascending port number, are all that a notice buffer then holds. In SERVICE with a move it is refused. -/
def Obligations.RestartEmptiesThePart : Prop :=
  ∀ (link : Console) (s : State), Listening link s →
    ((s.part = .config ∨ ∀ i, s.move i = none) →
      ∃ u, exec (.restart link) s = answeredWith link 0x09#8 (.accepted false .none) u ∧
        u = { s with
          part := .config, floors := State.reset.floors, generators := State.reset.generators
          downlink := State.reset.downlink, slots := State.reset.slots, quiet := [], units := [], tests := State.reset.tests
          ports := u.ports, links := u.links, sent := u.sent } ∧
        (∀ c, (u.link c).latches = Latches.clear ∧ (u.link c).responses = (s.link c).responses ∧
          (u.link c).subs = (s.link c).subs ∧ (u.link c).tx = (s.link c).tx ∧
          (c ≠ link → (u.link c).framer = (s.link c).framer) ∧
          ∀ ps : List Port, ps = ([0, 1, 2, 3, 4, 5, 6] : List Port).filter (fun p => decide
              ((s.port p).state = .active ∨ (s.port p).state = .tuning ∨ (s.port p).state = .test)) →
            (u.link c).notices = if (s.link c).subs.getLsbD 2 then
              ps.mapIdx (fun k p => ⟨(s.link c).nextNumber + BitVec.ofNat 8 k, s.time,
                .portState p (s.port p).state .standby .restart⟩)
            else []) ∧
        ∀ p, ((s.port p).state = .active →
            u.port p = { s.port p with
              state := .standby, channel := none, pins := { (s.port p).pins with gate := none, tone := none } } ∧
            (p, PortMsg.gate none) ∈ u.sent) ∧
          ((s.port p).state = .tuning →
            u.port p = { s.port p with state := .standby, channel := none, purpose := none, tuneDeadline := none }) ∧
          ((s.port p).state = .test → u.port p = { s.port p with state := .standby }) ∧
          ((s.port p).state ≠ .active → (s.port p).state ≠ .tuning → (s.port p).state ≠ .test →
            u.port p = s.port p)) ∧
    (∀ i m, s.part = .service → s.move i = some m →
      exec (.restart link) s = answeredWith link 0x09#8 (.refused .movesPresent 0) (hunt link s))

/-! ## The Move Table -/

/-- R4, R5, R6: CREATE_MOVE that passes every check fills the lowest-numbered free record, binds every named unit to
it and changes no other move and no other unit; the response names the move, with CLAMPED exactly where a parameter
was outside its range. -/
def Obligations.CreateMoveFillsTheRecord : Prop :=
  ∀ (link : Console) (f : MoveFields) (i : MoveIx) (ch : Chan) (s : State), Listening link s → s.part = .service →
    s.move i = none → (∀ j : MoveIx, j.val < i.val → (s.move j).isSome = true) →
    f.channel.toNat = ch.val → ch ≠ 0 → (s.chan ch).inUse = true → (s.floor ch).state ≠ .closed →
    movesOn s ch < 6 → 1 ≤ f.handsets.length → f.handsets.length ≤ 4 → (f.loco :: f.handsets).Nodup →
    (∀ u ∈ f.loco :: f.handsets, ∃ r, s.unit u = some r ∧ r.binding = none ∧ hasChan r.chans ch = true) →
    (∀ u ∈ f.handsets, s.kindOf u = some .handset) →
    (s.kindOf f.loco = some .loco ∧ f.controller = none ∨
      s.kindOf f.loco = some .locoRc ∧ (∃ c ∈ f.handsets, f.controller = some c) ∧
        ∀ u ∈ f.loco :: f.handsets, ∀ r, s.unit u = some r → r.level = .l3) →
    ∃ (clamped : Bool) (m : Move) (u : State),
      exec (.createMove link f) s = answeredWith link 0x10#8 (.accepted clamped (.move i)) u ∧
      u = { s with moves := u.moves, units := u.units, downlink := u.downlink, links := u.links } ∧
      u.move i = some m ∧ (∀ j, j ≠ i → u.move j = s.move j) ∧
      (∀ x ∈ f.loco :: f.handsets, u.bindingOf (.unit x) = some i) ∧
      (∀ x, x ∉ f.loco :: f.handsets → u.unit x = s.unit x) ∧ (∀ x, u.currentOf x = s.currentOf x) ∧
      m.loco = { unit := f.loco, joined := false, sends := 1, roundStart := s.time, addDeadline := none } ∧
      m.handsets = f.handsets.map (fun x =>
        { unit := x, joined := false, sends := 1, roundStart := s.time, addDeadline := none }) ∧
      m = {
        state := .forming, channel := ch, console := link, loco := m.loco, handsets := m.handsets
        controller := f.controller, interval := m.interval, faultLimit := m.faultLimit, windowStart := none
        closedEnd := none, deadline := none, faultCount := 0, cleanStart := none, lastFault := none, holdStart := none
        stopAckSeen := false, presenceNoted := false, suspensionPending := false, handover := none
        formingDeadline := some (s.time + 5000), rechannel := none, releaseDeadline := none, repeats := 0
        unconfirmedSent := false } ∧
      m.interval = (match f.interval with
        | none => s.globals.interval
        | some v => min 5000 (max 500 v.toNat) - min 5000 (max 500 v.toNat) % 100) ∧
      m.faultLimit = (match f.faultLimit with | none => s.globals.faultLimit | some v => min 7 (max 1 v.toNat)) ∧
      (clamped = true ↔ (∃ v, f.interval = some v ∧ (v.toNat < 500 ∨ 5000 < v.toNat)) ∨
        ∃ v, f.faultLimit = some v ∧ (v.toNat < 1 ∨ 7 < v.toNat))

/-- R7, R11, R13, R14: ADD_MEMBER adds a handset at the end of the list, not joined, with a join round and an add
deadline, binds the unit and places a JOIN_ORDER on its current channel. REMOVE_MEMBER takes a handset that is neither
the controller nor the last one out of the list, with a pending handover that names it, unbinds the unit and cancels its
claims on the move's channel and on its own; no other move and no other unit changes. -/
def Obligations.MembersAreAddedAndRemoved : Prop :=
  (
    ∀ (link : Console) (b : Byte) (x : UnitId) (i : MoveIx) (m : Move) (r : UnitRec) (s : State), Listening link s →
      NamesMove link b i m s → (m.state = .active ∨ m.state = .recovery ∨ m.state = .suspended) →
      m.handsets.length < 4 → s.unit x = some r → r.binding = none → r.kind = .handset → hasChan r.chans m.channel = true →
      (m.controller = none ∨ r.level = .l3) →
      ∃ u, exec (.addMember link b x) s = answeredWith link 0x11#8 (.accepted false .none) u ∧
        u = placeFrame r.current ⟨x, .joinOrder i m.channel⟩
          { hunt link s with
            moves := s.moves.put i (some { m with handsets := m.handsets ++
              [{ unit := x, joined := false, sends := 1, roundStart := s.time, addDeadline := some (s.time + 5000) }] })
            units := s.units.map (fun y => if y.unit = x then { y with binding := some i } else y) }) ∧
  (
    ∀ (link : Console) (b : Byte) (x : UnitId) (i : MoveIx) (m : Move) (r : UnitRec) (s : State), Listening link s →
      NamesMove link b i m s → (m.state = .active ∨ m.state = .recovery ∨ m.state = .suspended) →
      x ∈ m.handsets.map (·.unit) → x ≠ m.loco.unit → m.controller ≠ some x → 2 ≤ m.handsets.length →
      s.unit x = some r →
      ∃ u, exec (.removeMember link b x) s = answeredWith link 0x12#8 (.accepted false .none) u ∧
        u = { s with
          moves := u.moves, units := u.units, floors := u.floors, downlink := u.downlink, generators := u.generators
          links := u.links, ports := u.ports, sent := u.sent } ∧
        u.move i = some { m with
          handsets := m.handsets.filter (fun e => e.unit ≠ x)
          handover := if m.handover.map (·.target) = some x then none else m.handover } ∧
        (∀ j, j ≠ i → u.move j = s.move j) ∧
        u.unit x = some { r with binding := none, current := 0, unboundSince := s.time } ∧
        (OneClaim s → Unclaimed m.channel (.unit x) u ∧ Unclaimed r.current (.unit x) u) ∧
        ∀ y, y ≠ x → u.unit y = s.unit y)

/-- R15, R18, R20, R89: SET_CONTROLLER makes a joined handset the controller and removes a pending handover; in ACTIVE
the long open window begins, in RECOVERY the offer cycle; naming the present controller changes nothing. TAKE_MOVE
makes the issuing console the operating console and tells the former one. REINSTATE takes a suspended move to RECOVERY
with its count at 0, and offers its controller to resume. -/
def Obligations.ControllerConsoleAndReinstatement : Prop :=
  (
    ∀ (link : Console) (b : Byte) (x former : UnitId) (i : MoveIx) (m : Move) (s : State), Listening link s →
      NamesMove link b i m s → m.controller = some former → (∃ e, m.handsets.find? (fun e => e.unit == x) = some e ∧ e.joined = true) →
      (m.state = .active ∨ m.state = .recovery ∨ m.state = .suspended) →
      ∃ u, exec (.setController link b x) s = answeredWith link 0x13#8 (.accepted false .none) u ∧
        (x = former → u = hunt link s) ∧
        (x ≠ former →
          u = { s with moves := u.moves, downlink := u.downlink, links := u.links } ∧ (∀ j, j ≠ i → u.move j = s.move j) ∧
          (m.state = .active → u.move i = some { m with
            controller := some x, handover := none, windowStart := some s.time, closedEnd := none
            deadline := some (s.time + BitVec.ofNat 32 (4 * m.interval)) }) ∧
          (m.state = .recovery → u.move i = some { m with
            controller := some x, handover := none, windowStart := some s.time, closedEnd := none, deadline := none
            repeats := 0 }) ∧
          (m.state = .suspended → u.move i = some { m with controller := some x, handover := none }))) ∧
  (
    ∀ (link : Console) (b : Byte) (i : MoveIx) (m : Move) (s : State), Listening link s → s.part = .service →
      b.toNat = i.val + 1 → s.move i = some m →
      (m.console = link →
        exec (.takeMove link b) s = answeredWith link 0x16#8 (.accepted false .none) (hunt link s)) ∧
      (m.console ≠ link →
        exec (.takeMove link b) s = answeredWith link 0x16#8 (.accepted false .none)
          (notify m.console (.moveTaken i link)
            { hunt link s with moves := s.moves.put i (some { m with console := link }) })) ∧
      (∀ x, m.console = link → m.state = .suspended → m.controller = some x →
        exec (.reinstate link b) s = answeredWith link 0x17#8 (.accepted false .none)
          (placeFrame (s.currentOf x) ⟨x, .resumeOffer i⟩
            { hunt link s with
              moves := s.moves.put i (some { m with
                state := .recovery, faultCount := 0, suspensionPending := false, windowStart := some s.time
                closedEnd := none, deadline := none, repeats := 0 }) })))

/-- R16: MOVE_CHANNEL makes the target the move's channel, starts every member's join round afresh, sets the
re-channel record, removes a pending handover and cancels the members' claims on the old channel; the units' records,
their bindings and current channels, stay. -/
def Obligations.MoveChannelRestartsTheJoinRounds : Prop :=
  ∀ (link : Console) (b c : Byte) (ch : Chan) (i : MoveIx) (m : Move) (s : State), Listening link s →
    NamesMove link b i m s → (m.state = .active ∨ m.state = .recovery ∨ m.state = .suspended) →
    c.toNat = ch.val → ch ≠ m.channel → ch ≠ 0 → (s.chan ch).inUse = true → (s.floor ch).state ≠ .closed →
    movesOn s ch < 6 → (∀ x ∈ m.units, ∃ r, s.unit x = some r ∧ hasChan r.chans ch = true) →
    ∃ u, exec (.moveChannel link b c) s = answeredWith link 0x14#8 (.accepted false .none) u ∧
      u = { s with
        moves := u.moves, floors := u.floors, downlink := u.downlink, generators := u.generators, links := u.links
        ports := u.ports, sent := u.sent } ∧
      u.move i = some { m with
        channel := ch
        loco := { m.loco with joined := false, addDeadline := none, roundStart := s.time, sends := 1 }
        handsets := m.handsets.map (fun e =>
          { e with joined := false, addDeadline := none, roundStart := s.time, sends := 1 })
        handover := none, rechannel := some { channel := ch, deadline := s.time + 5000 } } ∧
      (OneClaim s → ∀ x ∈ m.units, Unclaimed m.channel (.unit x) u) ∧
      ∀ j, j ≠ i → u.move j = s.move j

/-- R21, R22: RELEASE_MOVE. Of a move that does not run under supervision: its record is free, its members' claims on the
move's channel and on their own are cancelled, its members are unbound and on CH0, and no other move or unit has changed.
Of an RC move in ACTIVE or STOP_HELD: the move is RELEASING, and its locomotive is ordered to stop. -/
def Obligations.ReleaseMoveFreesOrStops : Prop :=
  ∀ (link : Console) (b : Byte) (i : MoveIx) (m : Move) (s : State), Listening link s → NamesMove link b i m s →
    (m.state ≠ .releasing → (m.controller = none ∨ m.state ≠ .active ∧ m.state ≠ .stopHeld) →
      ∃ u, exec (.releaseMove link b) s = answeredWith link 0x15#8 (.accepted false .none) u ∧
        u = { s with
          moves := u.moves, units := u.units, floors := u.floors, downlink := u.downlink, generators := u.generators
          links := u.links, ports := u.ports, sent := u.sent } ∧
        u.move i = none ∧ (∀ j, j ≠ i → u.move j = s.move j) ∧
        (OneClaim s → ∀ x ∈ m.units, Unclaimed m.channel (.unit x) u ∧ Unclaimed (s.currentOf x) (.unit x) u) ∧
        (∀ x ∈ m.units, ∀ r, s.unit x = some r →
          u.unit x = some { r with binding := none, current := 0, unboundSince := s.time }) ∧
        ∀ x, x ∉ m.units → u.unit x = s.unit x) ∧
    (m.controller.isSome = true → m.state = .active ∨ m.state = .stopHeld →
      ∃ u, exec (.releaseMove link b) s = answeredWith link 0x15#8 (.accepted false .none) u ∧
        u = { s with moves := u.moves, downlink := u.downlink, links := u.links } ∧
        u.move i = some { m with
          state := .releasing, releaseDeadline := some (s.time + 5000), windowStart := none, closedEnd := none
          deadline := none, handover := none, stopAckSeen := false, repeats := 0 } ∧
        (∀ j, j ≠ i → u.move j = s.move j) ∧
        (takesFrames (s.floor (s.currentOf m.loco.unit)) = true →
          (s.frames (s.currentOf m.loco.unit)).length < 16 →
          ⟨m.loco.unit, .stopOrder i⟩ ∈ u.frames (s.currentOf m.loco.unit)))

/-- R8, R9, R118: a JOINED of a member that had not joined, naming the move's channel, sets its flag and brings the
unit to the channel, without its claims on the channel that it leaves; with the last of them a FORMING move becomes ACTIVE (an RC move with the long open window), and
in any other state the re-channel record goes. `m1` is the record with the flag set. -/
def Obligations.JoinedSetsTheFlag : Prop :=
  ∀ (p : Port) (ch0 : Chan) (src : UnitId) (mv c : Byte) (i : MoveIx) (m m1 : Move) (e : Member) (r : UnitRec) (s : State),
    Arrives p ch0 src s → s.unit src = some r → mv.toNat = i.val + 1 → s.move i = some m → m.state ≠ .releasing →
    m.members.find? (fun e => e.unit == src) = some e → e.joined = false → c.toNat = m.channel.val →
    m1 = { m with
      loco := if m.loco.unit = src then { m.loco with joined := true, addDeadline := none } else m.loco
      handsets := m.handsets.map (fun e =>
        if e.unit = src then { e with joined := true, addDeadline := none } else e) } →
    ∃ u, exec (.joined p src mv c) s = .next (settle u) ∧
      u = { s with
        moves := u.moves, units := u.units, floors := u.floors, downlink := u.downlink, generators := u.generators
        links := u.links, ports := u.ports, sent := u.sent } ∧
      (∀ j, j ≠ i → u.move j = s.move j) ∧ (∀ x, x ≠ src → u.unit x = s.unit x) ∧
      u.unit src = some { r with lastHeard := s.time, current := m.channel } ∧
      (r.current ≠ m.channel → OneClaim s → Unclaimed r.current (.unit src) u) ∧
      ((∃ e' ∈ m1.loco :: m1.handsets, e'.joined = false) → u.move i = some m1) ∧
      ((∀ e' ∈ m1.loco :: m1.handsets, e'.joined = true) →
        (m.state = .forming → m.controller = none →
          u.move i = some { m1 with state := .active, formingDeadline := none }) ∧
        (m.state = .forming → m.controller.isSome = true →
          u.move i = some { m1 with
            state := .active, formingDeadline := none, windowStart := some s.time, closedEnd := none
            deadline := some (s.time + BitVec.ofNat 32 (4 * m.interval)), cleanStart := some s.time }) ∧
        (m.state ≠ .forming → u.move i = some { m1 with rechannel := none }))

/-- R7, R10, R12, R14, R17: the forming deadline with a member missing: without the locomotive or the controller the
record is freed and its members unbound; else the missing handsets leave (where every handset is missing, all but the
first), and the move is ACTIVE. A JOIN_ORDER repetition of a member that has not joined; its add deadline; the
re-channel deadline with a member missing. -/
def Obligations.FormingAndJoiningTimers : Prop :=
  (
    ∀ (i : MoveIx) (m : Move) (d : Time) (s : State), s.resetLine = false → s.move i = some m →
      m.state = .forming → m.handover = none → m.formingDeadline = some d → reached s.time d = true → m.units.Nodup →
      (∃ e ∈ m.loco :: m.handsets, e.joined = false) →
      ∃ u, exec (.formingDeadline i) s = .next (settle u) ∧
        u = { s with
          moves := u.moves, units := u.units, floors := u.floors, downlink := u.downlink, generators := u.generators
          links := u.links, ports := u.ports, sent := u.sent } ∧
        (∀ j, j ≠ i → u.move j = s.move j) ∧ (∀ x, x ∉ m.units → u.unit x = s.unit x) ∧
        ((m.loco.joined = false ∨ ∃ c, m.controller = some c ∧ ∀ e ∈ m.loco :: m.handsets, e.unit = c → e.joined = false) →
          u.move i = none ∧
          ∀ x ∈ m.units, ∀ r, s.unit x = some r →
            u.unit x = some { r with binding := none, current := 0, unboundSince := s.time }) ∧
        (∀ dropped : List UnitId, m.loco.joined = true →
          (∀ c, m.controller = some c → ∃ e ∈ m.loco :: m.handsets, e.unit = c ∧ e.joined = true) →
          ((∃ e ∈ m.handsets, e.joined = true) ∧ dropped = (m.handsets.filter (fun e => !e.joined)).map (·.unit) ∨
            (∀ e ∈ m.handsets, e.joined = false) ∧ dropped = m.handsets.tail.map (·.unit)) →
          (∃ m', u.move i = some m' ∧ m'.state = .active ∧ m'.formingDeadline = none ∧ m'.loco = m.loco ∧
            m'.controller = m.controller ∧ m'.handsets = m.handsets.filter (fun e => decide (e.unit ∉ dropped)) ∧
            (m.controller.isSome = true → m'.windowStart = some s.time ∧
              m'.deadline = some (s.time + BitVec.ofNat 32 (4 * m.interval)))) ∧
          ∀ x ∈ m.units, ∀ r, s.unit x = some r → u.unit x =
            if x ∈ dropped then some { r with binding := none, current := 0, unboundSince := s.time } else some r)) ∧
  (
    ∀ (i : MoveIx) (m : Move) (s : State), s.resetLine = false → s.move i = some m →
      (∀ (x : UnitId) (e : Member), m.state ≠ .releasing → m.members.find? (fun e => e.unit == x) = some e →
        e.joined = false → 1 ≤ e.sends → e.sends ≤ 4 → 1000 * e.sends ≤ elapsed s.time e.roundStart →
        elapsed s.time e.roundStart < 5000 →
        exec (.joinRepetition i x) s = .next (settle (placeFrame (s.currentOf x) ⟨x, .joinOrder i m.channel⟩
          { s with moves := s.moves.put i (some (m.modMember x (fun e => { e with sends := e.sends + 1 }))) }))) ∧
      (∀ (x : UnitId) (e : Member) (d : Time), m.members.find? (fun e => e.unit == x) = some e → e.joined = false →
        e.addDeadline = some d → reached s.time d = true →
        exec (.addDeadline i x) s = .next (settle (notify m.console (.memberNotJoined i x)
          { s with moves := s.moves.put i (some (m.modMember x (fun e => { e with addDeadline := none }))) }))) ∧
      (∀ r : Rechannel, m.rechannel = some r → reached s.time r.deadline = true →
        (∃ e ∈ m.loco :: m.handsets, e.joined = false) →
        exec (.reChannelDeadline i) s = .next (settle (notify m.console
          (.moveChannelIncomplete i m.channel (((m.loco :: m.handsets).filter (fun e => !e.joined)).map (·.unit)))
          { s with moves := s.moves.put i (some { m with rechannel := none }) }))))

/-! ## The Supervision Monitor -/

/-- R44, R79, R80, R167: a fault counts (EARLY and MISSED), takes the move to STOP_HELD with a fresh hold, stops its window,
removes a pending handover and orders the locomotive to stop; suspension becomes pending when the count reaches the
limit. No other move changes. Its STOP alert collapses onto a waiting one of the move, is admitted to the pending alert list of
the move's channel, at a full list in place of the newest NEXT_FREE entry that is not playing, whose console is told, or is
turned away, and SUPERVISION_FAULT says which. An alert that is admitted acts on the floor; no other floor changes, and
without admission none does. -/
def Obligations.FaultOpensAStopHold : Prop :=
  ∀ (i : MoveIx) (k : FaultKind) (m : Move) (n : Nat) (s : State), s.move i = some m →
    n = (match k with | .crewStop => m.faultCount | .early | .missed => m.faultCount + 1) →
    raiseFault i k s = { s with
      moves := (raiseFault i k s).moves, floors := (raiseFault i k s).floors, downlink := (raiseFault i k s).downlink
      generators := (raiseFault i k s).generators, links := (raiseFault i k s).links
      ports := (raiseFault i k s).ports, sent := (raiseFault i k s).sent } ∧
    (raiseFault i k s).move i = some { m with
      state := .stopHeld, faultCount := n
      suspensionPending := m.suspensionPending || (k != .crewStop && n == m.faultLimit), lastFault := some k
      windowStart := none, closedEnd := none, deadline := none, holdStart := some s.time, stopAckSeen := false
      presenceNoted := false, handover := none, repeats := 0, unconfirmedSent := false } ∧
    (∀ j, j ≠ i → (raiseFault i k s).move j = s.move j) ∧
    (takesFrames (s.floor (s.currentOf m.loco.unit)) = true → (s.frames (s.currentOf m.loco.unit)).length < 16 →
      ⟨m.loco.unit, .stopOrder i⟩ ∈ (raiseFault i k s).frames (s.currentOf m.loco.unit)) ∧
    (∀ c, c ≠ m.channel →
      (raiseFault i k s).floor c = s.floor c ∧ (raiseFault i k s).generator c = s.generator c) ∧
    ∀ new : Alert,
      new = { pattern := 0, mode := .preempt, tag := some i, requester := .supervision, admitted := s.time, playing := false } →
      (Collapses new (s.floor m.channel).alerts ∨ TurnsAway new (s.floor m.channel).alerts →
        (raiseFault i k s).floor m.channel = s.floor m.channel ∧
        (raiseFault i k s).generator m.channel = s.generator m.channel) ∧
      (∀ list, Admits new (s.floor m.channel).alerts list → AlertActs m.channel list s (raiseFault i k s)) ∧
      (∀ a rest c, ¬ Collapses new (s.floor m.channel).alerts → 4 ≤ (s.floor m.channel).alerts.length →
        Displaced a (s.floor m.channel).alerts rest → a.requester = .console c → s.part = .service →
        (s.link c).notices.length < 32 →
        ∃ x ∈ ((raiseFault i k s).link c).notices, x.body = .alertDiscarded m.channel a.pattern) ∧
      ∀ fate, s.part = .service → (s.link m.console).notices.length < 28 →
        (fate = .collapsed ∧ Collapses new (s.floor m.channel).alerts ∨
          fate = .notAdmitted ∧ TurnsAway new (s.floor m.channel).alerts ∨
          fate = .admitted ∧ ∃ list, Admits new (s.floor m.channel).alerts list) →
        ∃ x ∈ ((raiseFault i k s).link m.console).notices, x.body = .supervisionFault i k n
          (m.suspensionPending || (k != .crewStop && n == m.faultLimit)) fate

/-- R75, R76, R87, R118: a PRESENCE of the controller before the closed-window end raises EARLY, and at or after it
opens a new window of length P with a closed part of floor(P / 4); in STOP_HELD it is noted; from another member, or
in another state, it changes nothing but the time last heard. -/
def Obligations.PresenceWindow : Prop :=
  ∀ (p : Port) (ch : Chan) (src : UnitId) (mv : Byte) (i : MoveIx) (m : Move) (s : State),
    Arrives p ch src s → SendsFor src i m s →
    (m.controller = some src → m.state = .active → (∃ d, m.closedEnd = some d ∧ reached s.time d = false) →
      exec (.presence p src mv) s = .next (settle (raiseFault i .early (refresh src s)))) ∧
    (m.controller = some src → m.state = .active → (∀ d, m.closedEnd = some d → reached s.time d = true) →
      exec (.presence p src mv) s = .next (settle { refresh src s with
        moves := s.moves.put i (some { m with
          windowStart := some s.time, closedEnd := some (s.time + BitVec.ofNat 32 (m.interval / 4))
          deadline := some (s.time + BitVec.ofNat 32 m.interval) }) })) ∧
    (m.controller = some src → m.state = .stopHeld →
      exec (.presence p src mv) s = .next (settle { refresh src s with
        moves := s.moves.put i (some { m with presenceNoted := true }) })) ∧
    (m.controller ≠ some src ∨ m.state ≠ .active ∧ m.state ≠ .stopHeld →
      exec (.presence p src mv) s = .next (settle (refresh src s)))

/-- R84, R86, R89, R91: a STOP_ACK of the locomotive confirms the hold; the hold ends with the later of the STOP_ACK
and the mark 3000 ms after its start: in SUSPENDED where suspension is pending, else in RECOVERY with an offer to the
controller. -/
def Obligations.StopHoldEnds : Prop :=
  ∀ (p : Port) (ch : Chan) (src : UnitId) (mv : Byte) (i : MoveIx) (m : Move) (t0 : Time) (c : UnitId) (s : State),
    Arrives p ch src s → SendsFor src i m s → m.loco.unit = src → m.state = .stopHeld → m.holdStart = some t0 →
    m.controller = some c →
    (m.stopAckSeen = false → elapsed s.time t0 < 3000 →
      exec (.stopAck p src mv) s = .next (settle { refresh src s with
        moves := s.moves.put i (some { m with stopAckSeen := true }) })) ∧
    (m.stopAckSeen = true → exec (.stopAck p src mv) s = .next (settle (refresh src s))) ∧
    (m.stopAckSeen = false → 3000 ≤ elapsed s.time t0 → m.suspensionPending = true →
      exec (.stopAck p src mv) s = .next (settle
        (notify m.console (.moveSuspended i m.faultCount m.lastFault m.presenceNoted) { refresh src s with
          moves := s.moves.put i (some { m with stopAckSeen := true, state := .suspended }) }))) ∧
    (m.stopAckSeen = false → 3000 ≤ elapsed s.time t0 → m.suspensionPending = false →
      exec (.stopAck p src mv) s = .next (settle
        (notify m.console (.moveRecovery i m.presenceNoted) (placeFrame (s.currentOf c) ⟨c, .resumeOffer i⟩
          { refresh src s with
            moves := s.moves.put i (some { m with
              stopAckSeen := true, state := .recovery, windowStart := some s.time, closedEnd := none
              deadline := none, repeats := 0 }) }))))

/-- R22, R23, R24: in RELEASING a STOP_ACK of the locomotive, or the release deadline, frees the record and unbinds
its members; until then a STOP_ORDER goes out every 200 ms from the start of the release, 5000 ms before its deadline.
-/
def Obligations.ReleasesEnd : Prop :=
  (
    ∀ (p : Port) (ch : Chan) (src : UnitId) (mv : Byte) (i : MoveIx) (m : Move) (s : State),
      Arrives p ch src s → SendsFor src i m s → m.loco.unit = src → m.state = .releasing →
      ∃ u, exec (.stopAck p src mv) s = .next (settle u) ∧
        u = { s with
          moves := u.moves, units := u.units, floors := u.floors, downlink := u.downlink, generators := u.generators
          links := u.links, ports := u.ports, sent := u.sent } ∧
        u.move i = none ∧ (∀ j, j ≠ i → u.move j = s.move j) ∧
        (∀ x ∈ m.units, ∀ r, s.unit x = some r → u.unit x = some { r with
          binding := none, current := 0, unboundSince := s.time
          lastHeard := if x = src then s.time else r.lastHeard }) ∧
        ∀ x, x ∉ m.units → u.unit x = s.unit x) ∧
  (
    ∀ (i : MoveIx) (m : Move) (d : Time) (s : State), s.resetLine = false → s.move i = some m → m.state = .releasing →
      m.releaseDeadline = some d →
      (reached s.time (d - 5000 + BitVec.ofNat 32 (200 * (m.repeats + 1))) = true →
        exec (.releaseStopRepetition i) s = .next (settle (placeFrame (s.currentOf m.loco.unit) ⟨m.loco.unit, .stopOrder i⟩
          { s with moves := s.moves.put i (some { m with repeats := m.repeats + 1 }) }))) ∧
      (reached s.time d = true →
        ∃ u, exec (.releaseDeadline i) s = .next (settle u) ∧
          u = { s with
            moves := u.moves, units := u.units, floors := u.floors, downlink := u.downlink, generators := u.generators
            links := u.links, ports := u.ports, sent := u.sent } ∧
          u.move i = none ∧ (∀ j, j ≠ i → u.move j = s.move j) ∧
          (∀ x ∈ m.units, ∀ r, s.unit x = some r →
            u.unit x = some { r with binding := none, current := 0, unboundSince := s.time }) ∧
          ∀ x, x ∉ m.units → u.unit x = s.unit x))

/-- R77, R81, R83, R85, R86, R89, R94: the timers of a running move: the window deadline, which raises MISSED; the end
of a clean span; the STOP_ORDER repetition every 200 ms of an unconfirmed hold and its STOP_UNCONFIRMED mark at 2000
ms, once; the mark at 3000 ms that ends a confirmed hold; the expiry of a handover offer; the offer repetition every
2000 ms in RECOVERY. -/
def Obligations.SupervisionTimers : Prop :=
  ∀ (i : MoveIx) (m : Move) (t0 : Time) (s : State), s.resetLine = false → s.move i = some m →
    (m.state = .active → m.cleanStart = some t0 → 60000 ≤ elapsed s.time t0 →
      exec (.cleanSpanEnd i) s = .next (settle
        { s with moves := s.moves.put i (some { m with faultCount := 0, cleanStart := some s.time }) })) ∧
    (m.state = .stopHeld → m.stopAckSeen = false → m.holdStart = some t0 →
      (reached s.time (t0 + BitVec.ofNat 32 (200 * (m.repeats + 1))) = true →
        exec (.stopOrderRepetition i) s = .next (settle
          (placeFrame (s.currentOf m.loco.unit) ⟨m.loco.unit, .stopOrder i⟩
            { s with moves := s.moves.put i (some { m with repeats := m.repeats + 1 }) }))) ∧
      (m.unconfirmedSent = false → reached s.time (t0 + 2000) = true →
        exec (.stopConfirmMark i) s = .next (settle (notify m.console (.stopUnconfirmed i m.loco.unit)
          { s with moves := s.moves.put i (some { m with unconfirmedSent := true }) }))) ∧
      (m.unconfirmedSent = true → exec (.stopConfirmMark i) s = .next (settle s))) ∧
    (∀ d, m.state = .active → m.deadline = some d → reached s.time d = true →
      exec (.windowDeadline i) s = .next (settle (raiseFault i .missed s))) ∧
    (m.state = .stopHeld → m.stopAckSeen = true → m.holdStart = some t0 → 3000 ≤ elapsed s.time t0 →
      (m.suspensionPending = true →
        exec (.minimumHoldMark i) s = .next (settle
          (notify m.console (.moveSuspended i m.faultCount m.lastFault m.presenceNoted)
            { s with moves := s.moves.put i (some { m with state := .suspended }) }))) ∧
      ∀ c, m.suspensionPending = false → m.controller = some c →
        exec (.minimumHoldMark i) s = .next (settle
          (notify m.console (.moveRecovery i m.presenceNoted) (placeFrame (s.currentOf c) ⟨c, .resumeOffer i⟩
            { s with moves := s.moves.put i (some { m with
                state := .recovery, windowStart := some s.time, closedEnd := none, deadline := none, repeats := 0 }) })))) ∧
    (∀ h : Handover, m.handover = some h → reached s.time h.expiry = true →
      exec (.offerExpiry i) s = .next (settle (notify m.console (.handoverLapsed i h.target)
        { s with moves := s.moves.put i (some { m with handover := none }) }))) ∧
    ∀ c, m.state = .recovery → m.windowStart = some t0 → m.controller = some c →
      reached s.time (t0 + BitVec.ofNat 32 (2000 * (m.repeats + 1))) = true →
      exec (.offerCycleRepetition i) s = .next (settle (placeFrame (s.currentOf c) ⟨c, .resumeOffer i⟩
        { s with moves := s.moves.put i (some { m with repeats := m.repeats + 1 }) }))

/-- R2, R90, R92, R93: a RESUME of the controller in RECOVERY makes the move ACTIVE with the long open window; an offer in
ACTIVE to another joined handset becomes the pending handover for 10,000 ms; a take by its target makes it the
controller, tells both, in the order of the move's members, and opens the long open window. -/
def Obligations.ResumeAndHandover : Prop :=
  ∀ (p : Port) (ch : Chan) (src : UnitId) (mv : Byte) (i : MoveIx) (m : Move) (c : UnitId) (s : State),
    Arrives p ch src s → SendsFor src i m s → m.controller = some c →
    (c = src → m.state = .recovery →
      exec (.resume p src mv) s = .next (settle (notify m.console (.moveResumed i src) { refresh src s with
        moves := s.moves.put i (some { m with
          state := .active, windowStart := some s.time, closedEnd := none
          deadline := some (s.time + BitVec.ofNat 32 (4 * m.interval)), cleanStart := some s.time
          formingDeadline := none }) }))) ∧
    (∀ x, c = src → m.state = .active → x ≠ c → (∃ e ∈ m.handsets, e.unit = x ∧ e.joined = true) →
      exec (.handoverOffer p src mv x) s = .next (settle
        (placeFrame (s.currentOf x) ⟨x, .handoverOffered i src⟩ { refresh src s with
          moves := s.moves.put i (some { m with
            handover := some { target := x, expiry := s.time + 10000 } }) }))) ∧
    ∀ (h : Handover) (first second : UnitId), m.handover = some h → h.target = src → m.state = .active →
      first = (if m.units.idxOf src < m.units.idxOf c then src else c) →
      second = (if m.units.idxOf src < m.units.idxOf c then c else src) →
      exec (.handoverTake p src mv) s = .next (settle
        (notify m.console (.controllerChanged i c src)
          (placeFrame (s.currentOf second) ⟨second, .controlAssigned i src⟩
            (placeFrame (s.currentOf first) ⟨first, .controlAssigned i src⟩ { refresh src s with
              moves := s.moves.put i (some { m with
                controller := some src, handover := none, windowStart := some s.time, closedEnd := none
                deadline := some (s.time + BitVec.ofNat 32 (4 * m.interval)) }) }))))

/-! ## The Talk Floor -/

/-- R57, R58, R59, R169: the service decision. On an IDLE floor it plays the head of the pending alert list as SEIZE,
else grants the best entry, else changes nothing; in every other state none is made. -/
def Obligations.ServiceDecisionPlaysOrGrants : Prop :=
  ∀ (ch : Chan) (s : State),
    ((s.floor ch).state ≠ .idle → serviceDecision ch s = s) ∧
    ((s.floor ch).state = .idle → (s.floor ch).alerts = [] → (s.floor ch).queue = [] → serviceDecision ch s = s) ∧
    (∀ e, (s.floor ch).state = .idle → (s.floor ch).alerts = [] → IsBest ch e s →
      Granted ch e.party e.cls s (serviceDecision ch s) ∧ TalkFrame ch s (serviceDecision ch s) ∧
      ((serviceDecision ch s).floor ch).queue = (s.floor ch).queue.filter (fun x => x.party ≠ e.party)) ∧
    (∀ a rest pat st sts, (s.floor ch).state = .idle → (s.floor ch).alerts = a :: rest →
      s.patterns.get a.pattern = some pat → pat.steps = st :: sts →
      TalkFrame ch s (serviceDecision ch s) ∧
      ((serviceDecision ch s).floor ch).state = .alert ∧ ((serviceDecision ch s).floor ch).gate = none ∧
      ((serviceDecision ch s).floor ch).queue = (s.floor ch).queue ∧
      ((serviceDecision ch s).floor ch).alerts = { a with playing := true } :: rest ∧
      (serviceDecision ch s).generator ch = some {
        mode := .seize, pattern := a.pattern, start := s.time, rep := 1, step := 0
        stepEnd := s.time + BitVec.ofNat 32 (10 * st.duration), output := ⟨st.divider, st.level⟩ })

/-- R29, R30, R32, R33: a talk request of a unit or a console that is not locked out is granted at once where the
floor is IDLE with nothing waiting, and where the floor is in a HANG reserved for the party's move (for the party
itself, where it has none) with no EMERGENCY entry waiting. -/
def Obligations.TalkRequestOnAFreeFloorIsGranted : Prop :=
  ∀ (ch : Chan) (x : Party) (cls : TalkClass) (s : State),
    (s.floor ch).grant = none → (∀ l ∈ (s.floor ch).lockouts, l.party ≠ x) → (∀ e ∈ (s.floor ch).queue, e.party ≠ x) →
    ((s.floor ch).state = .idle ∧ (s.floor ch).queue = [] ∧ (s.floor ch).alerts = [] ∨
      (s.floor ch).state = .hang ∧ (∀ e ∈ (s.floor ch).queue, e.cls ≠ .emergency) ∧
        ∃ h, (s.floor ch).hang = some h ∧
          h.reservation = (match s.bindingOf x with | some i => .move i | none => .party x)) →
    (∀ (p : Port) (src : UnitId) (b : Byte), x = .unit src → Arrives p ch src s → s.currentOf src = ch →
      b.toNat ≤ 2 → b.toNat = (match cls with | .routine => 0 | .work => 1 | .urgent => 2 | .emergency => 3) →
      ∃ u, exec (.talkReq p src b) s = .next (settle u) ∧ Granted ch x cls s u ∧ TalkFrame ch (refresh src s) u ∧
        (u.floor ch).queue = (s.floor ch).queue) ∧
    (∀ (link : Console) (b k : Byte), x = .console link → Listening link s → s.part = .service → NamesChannel b ch s →
      k.toNat ≤ 2 → k.toNat = (match cls with | .routine => 0 | .work => 1 | .urgent => 2 | .emergency => 3) →
      ∃ u, exec (.talkRequest link b k) s = answeredWith link 0x20#8 (.accepted false .none) u ∧ Granted ch x cls s u ∧
        TalkFrame ch s u ∧ (u.floor ch).queue = (s.floor ch).queue)

/-- R29, R30, R32, R53, R55, R61, R62, R63, R65: a talk request on a floor that it does not free. The holder's own
request is ignored. On a floor GRANTED to another party, in ALERT, or in a HANG that is reserved for another party or move or
has an EMERGENCY entry waiting, a new entry goes to the end of a queue with room, answered QUEUED; a party's entry is renewed with the higher class; at a full
queue a newcomer whose base is above the weakest entry's rank displaces that entry, which is answered QUEUE_FULL, and any
other is itself answered QUEUE_FULL. A party in the lockout list is answered LOCKED_OUT (for a console that holds the
grant, log entry 28). A unit off its current channel is answered WRONG_CHANNEL, and nothing for a class that is not
ROUTINE, WORK or URGENT; a console is refused for a class above EMERGENCY and on a channel that is not carried. A unit's
answer is a frame on the channel, a console's a notice behind ACCEPTED. -/
def Obligations.TalkRequestOnABusyFloor : Prop :=
  (∀ (p : Port) (ch : Chan) (src : UnitId) (b : Byte) (s : State), Arrives p ch src s →
    (3 ≤ b.toNat → exec (.talkReq p src b) s = .next (settle (refresh src s))) ∧
    (b.toNat ≤ 2 → s.currentOf src ≠ ch → exec (.talkReq p src b) s =
      .next (settle (placeFrame ch ⟨src, .deny ch .wrongChannel⟩ (refresh src s))))) ∧
  (∀ (link : Console) (b k : Byte) (ch : Chan) (s : State), Listening link s → s.part = .service →
    (4 ≤ k.toNat → exec (.talkRequest link b k) s = answeredWith link 0x20#8 (.refused .badClass 0) (hunt link s)) ∧
    (k.toNat ≤ 3 → NamesChannel b ch s → (s.floor ch).state = .transfer ∨ (s.floor ch).state = .closed →
      exec (.talkRequest link b k) s = answeredWith link 0x20#8 (.refused .channelUnavailable 0) (hunt link s))) ∧
  ∀ (ch : Chan) (x : Party) (cls : TalkClass) (n base : Nat) (s s0 : State) (asked : Host.Outcome State Fault Refusal)
    (taken : State → Host.Outcome State Fault Refusal),
    (cls, n, base) ∈ [(TalkClass.routine, 0, 0), (TalkClass.work, 1, 10), (TalkClass.urgent, 2, 30)] →
    ((∃ (p : Port) (src : UnitId) (b : Byte), x = .unit src ∧ Arrives p ch src s ∧ s.currentOf src = ch ∧ b.toNat = n ∧
        asked = exec (.talkReq p src b) s ∧ s0 = refresh src s ∧ taken = fun u => .next (settle u)) ∨
      ∃ (link : Console) (b k : Byte), x = .console link ∧ Listening link s ∧ s.part = .service ∧ NamesChannel b ch s ∧
        (s.floor ch).state ≠ .transfer ∧ (s.floor ch).state ≠ .closed ∧ k.toNat = n ∧
        asked = exec (.talkRequest link b k) s ∧ s0 = hunt link s ∧
        taken = answeredWith link 0x20#8 (.accepted false .none)) →
    ((∃ l ∈ (s.floor ch).lockouts, l.party = x) → asked = taken (answer ch x (.denied cls .lockedOut) s0)) ∧
    ((∀ l ∈ (s.floor ch).lockouts, l.party ≠ x) →
      (∀ g, (s.floor ch).grant = some g → g.holder = x → asked = taken s0) ∧
      ((∀ g, (s.floor ch).grant = some g → g.holder ≠ x) →
        Renews ch x cls s s0 asked taken ∧
        ((s.floor ch).state = .granted ∨ (s.floor ch).state = .alert ∨
            (s.floor ch).state = .hang ∧ ((∃ e ∈ (s.floor ch).queue, e.cls = .emergency) ∨
              ∀ h, (s.floor ch).hang = some h →
                h.reservation ≠ (match s.bindingOf x with | some i => .move i | none => .party x)) →
          Waits ch x cls base s s0 asked taken)))

/-- R31, R32, R42, R43, R53, R61, R62, R63, R82, R171: an EMERGENCY on an IDLE, HANG or ALERT floor, or one GRANTED at another class to another
party, is granted at once, whatever the lockout list; the former holder's grant is gone. The holder's own raises its grant
to EMERGENCY, without overtalk expiry and warning mark, and is ignored where the grant is at EMERGENCY already; behind another
party's EMERGENCY grant it waits, with base 60. A unit off its current channel is answered WRONG_CHANNEL. From a unit bound to
an RC move in ACTIVE, STOP_HELD, RECOVERY or SUSPENDED it is a crew stop too, whatever the floor's answer. -/
def Obligations.EmergencyPreempts : Prop :=
  (∀ (p : Port) (ch : Chan) (src : UnitId) (s : State) (taken : State → Host.Outcome State Fault Refusal),
    Arrives p ch src s → s.currentOf src ≠ ch → CrewStops src s taken →
    exec (.emergency p src) s = taken (placeFrame ch ⟨src, .deny ch .wrongChannel⟩ (refresh src s))) ∧
  (∀ (ch : Chan) (x : Party) (g : Grant) (s s0 : State) (asked : Host.Outcome State Fault Refusal)
    (taken : State → Host.Outcome State Fault Refusal),
    AsksEmergency ch x s s0 asked taken → (s.floor ch).state = .granted → (s.floor ch).grant = some g →
    (g.holder = x → g.cls = .emergency → asked = taken s0) ∧
    (∀ pat st sts, g.holder = x → g.cls ≠ .emergency → s.patterns.get 1 = some pat → pat.steps = st :: sts →
      asked = taken (answer ch x (.granted .emergency) { s0 with
        floors := s.floors.put ch { s.floor ch with
          grant := some { g with cls := .emergency, overtalk := none, warning := none } }
        generators := if s.generator ch = none then
            s.generators.put ch (some {
              mode := .mix, pattern := 1, start := s.time, rep := 1, step := 0
              stepEnd := s.time + BitVec.ofNat 32 (10 * st.duration), output := ⟨st.divider, st.level⟩ })
          else s.generators })) ∧
    (g.holder ≠ x → g.cls = .emergency → Waits ch x .emergency 60 s s0 asked taken)) ∧
  ∀ (ch : Chan) (x : Party) (s : State),
    ((s.floor ch).state = .idle ∨ (s.floor ch).state = .hang ∨ (s.floor ch).state = .alert ∨
      (s.floor ch).state = .granted ∧ ∃ g, (s.floor ch).grant = some g ∧ g.cls ≠ .emergency) →
    (∀ g, (s.floor ch).grant = some g → g.holder ≠ x) →
    (∀ (p : Port) (src : UnitId), x = .unit src → Arrives p ch src s → s.currentOf src = ch →
      ((∀ i m, SendsFor src i m s → m.state = .forming ∨ m.state = .releasing) →
        ∃ u, exec (.emergency p src) s = .next (settle u) ∧ Granted ch x .emergency s u ∧
          TalkFrame ch (refresh src s) u) ∧
      ∀ i m, SendsFor src i m s →
        (m.state = .active ∨ m.state = .stopHeld ∨ m.state = .recovery ∨ m.state = .suspended) →
        ∃ u m', exec (.emergency p src) s = .next (settle u) ∧ Granted ch x .emergency s u ∧ u.move i = some m' ∧
          u = { refresh src s with
            moves := u.moves, floors := u.floors, downlink := u.downlink, generators := u.generators, links := u.links
            ports := u.ports, sent := u.sent } ∧
          m' = { m with
            state := .stopHeld, lastFault := some .crewStop, windowStart := none, closedEnd := none, deadline := none
            holdStart := some s.time, stopAckSeen := false, presenceNoted := false, handover := none, repeats := 0
            unconfirmedSent := false } ∧
          ∀ j, j ≠ i → u.move j = s.move j) ∧
    (∀ (link : Console) (b k : Byte), x = .console link → Listening link s → s.part = .service → NamesChannel b ch s →
      k.toNat = 3 →
      ∃ u, exec (.talkRequest link b k) s = answeredWith link 0x20#8 (.accepted false .none) u ∧
        Granted ch x .emergency s u ∧ TalkFrame ch s u)

/-- R32, R38, R40, R64: TALK_END. The holder's ends the grant; a waiting party's withdraws its entry; a unit's with no
claim changes nothing, and a console's is refused. -/
def Obligations.TalkEndReleasesTheFloor : Prop :=
  ∀ (ch : Chan) (s : State),
    (∀ (p : Port) (src : UnitId), Arrives p ch src s →
      (∀ g, (s.floor ch).state = .granted → (s.floor ch).grant = some g → g.holder = .unit src →
        ∃ u, exec (.talkEndFrame p src) s = .next (settle u) ∧ TalkFrame ch (refresh src s) u ∧ TalkEnded ch g s u) ∧
      ((∀ g, (s.floor ch).grant = some g → g.holder ≠ .unit src) →
        exec (.talkEndFrame p src) s = .next (settle { refresh src s with
          floors := s.floors.put ch { s.floor ch with
            queue := (s.floor ch).queue.filter (fun e => e.party ≠ .unit src) } }))) ∧
    (∀ (link : Console) (b : Byte), Listening link s → s.part = .service → NamesChannel b ch s →
      (∀ g, (s.floor ch).state = .granted → (s.floor ch).grant = some g → g.holder = .console link →
        ∃ u, exec (.talkEnd link b) s = answeredWith link 0x21#8 (.accepted false .none) u ∧ TalkFrame ch s u ∧
          TalkEnded ch g s u) ∧
      ((∀ g, (s.floor ch).grant = some g → g.holder ≠ .console link) →
        ((∃ e ∈ (s.floor ch).queue, e.party = .console link) →
          exec (.talkEnd link b) s = answeredWith link 0x21#8 (.accepted false .none) { hunt link s with
            floors := s.floors.put ch { s.floor ch with
              queue := (s.floor ch).queue.filter (fun e => e.party ≠ .console link) } }) ∧
        ((∀ e ∈ (s.floor ch).queue, e.party ≠ .console link) →
          exec (.talkEnd link b) s = answeredWith link 0x21#8 (.refused .notClaimant 0) (hunt link s))))

/-- R35, R37, R39, R40, R41, R50, R51, R65, R171: the take-up deadline, the silent-carrier deadline and the overtalk
expiry end the grant with REVOKE and free the floor; overtalk locks the holder out for 10,000 ms, in a list of 8 that an entry
enters as a unit enters the quiet list (log entry 15), and the others leave the lockout list alone. The warning mark, once for each grant; a lockout expiry; a hang expiry, which frees the floor;
a foreign-carrier detection; an episode's quiet deadline; an entry's timeout. -/
def Obligations.FloorExpiries : Prop :=
  (
    ∀ (ch : Chan) (g : Grant) (c : Instr) (r : AirReason) (s : State), s.resetLine = false →
      (s.floor ch).state = .granted → (s.floor ch).grant = some g →
      ((c = .takeUpDeadline ch ∧ r = .notTaken ∧ ∃ d, g.takeUp = some d ∧ reached s.time d = true) ∨
        (c = .silentCarrierDeadline ch ∧ r = .silent ∧ ∃ d, g.silent = some d ∧ reached s.time d = true) ∨
        (c = .overtalkExpiry ch ∧ r = .overtalk ∧ ∃ d, g.overtalk = some d ∧ reached s.time d = true)) →
      ∃ u, exec c s = .next (settle u) ∧ TalkFrame ch s u ∧ Freed ch s u ∧
        (u.floor ch).gate = (u.floor ch).grant.map (·.holder) ∧
        (∀ x, g.holder = .unit x → (s.frames ch).length < 16 → ⟨x, .revoke ch r⟩ ∈ u.frames ch) ∧
        (r ≠ .overtalk → (u.floor ch).lockouts = (s.floor ch).lockouts) ∧
        (r = .overtalk →
          Enters (·.party) (·.expiry) ⟨g.holder, s.time + 10000⟩ (s.floor ch).lockouts (u.floor ch).lockouts)) ∧
  (
    ∀ (ch : Chan) (s : State), s.resetLine = false →
      (∀ g d pat st sts, (s.floor ch).grant = some g → g.warning = some d → reached s.time d = true → g.warned = false →
        s.patterns.get 2 = some pat → pat.steps = st :: sts →
        exec (.warningMark ch) s = .next (settle { s with
          floors := s.floors.put ch { s.floor ch with grant := some { g with warned := true } }
          generators := if (s.floor ch).effective = .granted ∧ s.generator ch = none then
              s.generators.put ch (some {
                mode := .mix, pattern := 2, start := s.time, rep := 1, step := 0
                stepEnd := s.time + BitVec.ofNat 32 (10 * st.duration), output := ⟨st.divider, st.level⟩ })
            else s.generators })) ∧
      (∀ x, exec (.lockoutExpiry ch x) s = .next (settle { s with
        floors := s.floors.put ch { s.floor ch with
          lockouts := (s.floor ch).lockouts.filter (fun l => !(l.party == x && reached s.time l.expiry)) } })) ∧
      (∀ h, (s.floor ch).state = .hang → (s.floor ch).grant = none → (s.floor ch).hang = some h →
        reached s.time h.expiry = true →
        ∃ u, exec (.hangExpiry ch) s = .next (settle u) ∧ TalkFrame ch s u ∧ Freed ch s u ∧ (u.floor ch).hang = none) ∧
      (∀ t0 h, (s.floor ch).foreignSince = some t0 → (s.floor ch).heard = some h → reached s.time (t0 + 2000) = true →
        ((s.floor ch).episodeOpen = true → exec (.foreignDetection ch) s = .next (settle (latchAll ch .interference
          { s with floors := s.floors.put ch { s.floor ch with foreignSince := none, episodeOpen := true } }))) ∧
        ((s.floor ch).episodeOpen = false → exec (.foreignDetection ch) s = .next (settle
          (broadcast (.interference ch h.source) (latchAll ch .interference
            { s with floors := s.floors.put ch { s.floor ch with foreignSince := none, episodeOpen := true } }))))) ∧
      (∀ d, (s.floor ch).quiet = some d → reached s.time d = true →
        exec (.quietDeadline ch) s = .next (settle { s with
          floors := s.floors.put ch { s.floor ch with episodeOpen := false, quiet := none } })) ∧
      (∀ x e, (s.floor ch).queue.find? (fun e => e.party == x) = some e → reached s.time e.expiry = true →
        exec (.timeoutExpiry ch x) s = .next (settle (answer ch x (.denied e.cls .timeout) { s with
          floors := s.floors.put ch { s.floor ch with queue := (s.floor ch).queue.filter (fun e => e.party ≠ x) } }))))

/-- R35, R36, R50: a carrier report of a channel's carrying port. It replaces the heard carrier, keeping the time of a
source already recorded; the holder's carrier takes its grant up, or removes the silent-carrier deadline of a grant
taken up; its end on a grant taken up sets that deadline 5000 ms ahead. Where the carrier becomes foreign, the foreign-since
time is set, unless it is set already, and an open episode's quiet deadline is removed; where it stops being foreign, that
time is removed, and an open episode's quiet deadline is set 2000 ms ahead; else both stay ("becomes" and "stops" compare
the floor before and after the report, log entry 9). A report from a port that carries no channel is ignored. -/
def Obligations.CarrierReportMovesTheGrant : Prop :=
  ∀ (p : Port) (ch : Chan) (present : Bool) (src : UnitId) (s : State), s.resetLine = false →
    ((s.port p).state ≠ .active → exec (.carrierReport p present src) s = .next (settle s)) ∧
    ((s.port p).state = .active → (s.port p).channel = some ch →
      ∃ f, exec (.carrierReport p present src) s = .next (settle { s with floors := s.floors.put ch f }) ∧
        f = { s.floor ch with
          heard := f.heard, grant := f.grant, foreignSince := f.foreignSince, quiet := f.quiet } ∧
        (present = false → f.heard = none) ∧
        (present = true → ∃ h, f.heard = some h ∧ h.source = (if 0xFFF0 ≤ src.toNat then 0 else src) ∧
          h.time = (match (s.floor ch).heard with
            | some old => if old.source = h.source then old.time else s.time
            | none => s.time)) ∧
        (∀ g x, (s.floor ch).grant = some g → g.holder = .unit x → x.toNat < 0xFFF0 →
          (present = true → src = x → g.takenUp = false → f.grant = some { g with takenUp := true, takeUp := none }) ∧
          (present = true → src = x → g.takenUp = true → f.grant = some { g with silent := none }) ∧
          (present = false ∨ (src ≠ x ∧ src.toNat < 0xFFF0) →
            f.grant = some (if g.takenUp ∧ (s.floor ch).heard.map (·.source) = some x then
              { g with silent := some (s.time + 5000) } else g))) ∧
        (∀ g c, (s.floor ch).grant = some g → g.holder = .console c → f.grant = some g) ∧
        (¬ Foreign (s.floor ch) → Foreign f →
          f.foreignSince = some ((s.floor ch).foreignSince.getD s.time) ∧
          f.quiet = if (s.floor ch).episodeOpen then none else (s.floor ch).quiet) ∧
        (Foreign (s.floor ch) → ¬ Foreign f → f.foreignSince = none ∧
          f.quiet = if (s.floor ch).episodeOpen then some (s.time + 2000) else (s.floor ch).quiet) ∧
        ((Foreign (s.floor ch) ↔ Foreign f) →
          f.foreignSince = (s.floor ch).foreignSince ∧ f.quiet = (s.floor ch).quiet))

/-! ## The Downlink Scheduler -/

/-- R124, R125, R126: placing a frame. An OFF or CLOSED channel discards it; a STOP_ORDER or RESUME_OFFER collapses
onto a waiting frame of its kind for the same unit, which keeps its place and takes the newcomer's contents; a queue
with room takes any other at the end; a full one loses its latest frame of the highest class number, where that is
above the newcomer's, else drops the newcomer, and DOWNLINK_OVERFLOW is latched for the channel on all four links. -/
def Obligations.PlacingAFrame : Prop :=
  ∀ (ch : Chan) (new : Frame) (s : State),
    ((s.floor ch).state = .off ∨ (s.floor ch).state = .closed → placeFrame ch new s = s) ∧
    ((s.floor ch).state ≠ .off → (s.floor ch).state ≠ .closed →
      (∀ i old j, new.body = .stopOrder i → old ∈ s.frames ch → old.dest = new.dest → old.body = .stopOrder j →
        placeFrame ch new s = { s with downlink := s.downlink.put ch ((s.frames ch).map (fun f =>
          match f.body with
          | .stopOrder _ => if f.dest = new.dest then new else f
          | _ => f)) }) ∧
      (∀ i old j, new.body = .resumeOffer i → old ∈ s.frames ch → old.dest = new.dest → old.body = .resumeOffer j →
        placeFrame ch new s = { s with downlink := s.downlink.put ch ((s.frames ch).map (fun f =>
          match f.body with
          | .resumeOffer _ => if f.dest = new.dest then new else f
          | _ => f)) }) ∧
      ((∀ old ∈ s.frames ch, old.dest = new.dest →
          (∀ i j, ¬ (new.body = .stopOrder i ∧ old.body = .stopOrder j)) ∧
          ∀ i j, ¬ (new.body = .resumeOffer i ∧ old.body = .resumeOffer j)) →
        ((s.frames ch).length < 16 →
          placeFrame ch new s = { s with downlink := s.downlink.put ch (s.frames ch ++ [new]) }) ∧
        (∀ before f behind, 16 ≤ (s.frames ch).length → s.frames ch = before ++ f :: behind →
          new.priority < f.priority → (∀ x ∈ before, x.priority ≤ f.priority) → (∀ x ∈ behind, x.priority < f.priority) →
          placeFrame ch new s = latchAll ch .downlinkOverflow
            { s with downlink := s.downlink.put ch (before ++ behind ++ [new]) }) ∧
        (16 ≤ (s.frames ch).length → (∀ f ∈ s.frames ch, f.priority ≤ new.priority) →
          placeFrame ch new s = latchAll ch .downlinkOverflow s)) ∧
      ∀ c, (latchAll ch .downlinkOverflow s).link c = if (s.chan ch).inUse = true then
        (s.link c).latch ch .downlinkOverflow else s.link c)

/-- R105, R108, R111 to R115, R123, R127: a SLOT_READY of a carrying port hands the port the head of its channel's
queue, the earliest frame of the lowest class number, and nothing from an empty queue; a port that carries no channel
is handed nothing. The hand-over of the fourth CONFIRM of a slot in CONFIRM frees the slot and admits its unit: an unbound
record of the unit is replaced in its place; else a free record is filled; else the unbound record longest unheard (of
equals the earliest admitted, then of the lowest unit ID) is evicted; the claims of a unit whose record is removed are
cancelled. Where the unit is bound it is rejected, and where every record is bound it is rejected and quiet. -/
def Obligations.SlotReadyHandsTheHead : Prop :=
  (
    ∀ (p : Port) (ch : Chan) (s : State), s.resetLine = false →
      ((s.port p).state ≠ .active → exec (.slotReady p) s = .next (settle s)) ∧
      ((s.port p).state = .active → (s.port p).channel = some ch →
        (s.frames ch = [] → exec (.slotReady p) s = .next (settle s)) ∧
        ∀ before f behind, s.frames ch = before ++ f :: behind → (∀ x ∈ before, f.priority < x.priority) →
          (∀ x ∈ behind, f.priority ≤ x.priority) → (∀ l c n, f.body = .confirm l c n → n ≠ 4) →
          exec (.slotReady p) s = .next (settle { s with
            downlink := s.downlink.put ch (before ++ behind), sent := s.sent ++ [(p, .air f)] }))) ∧
  (
    ∀ (p : Port) (i : SlotIx) (sl : Slot) (l : Level) (cs : BitVec 6) (behind : List Frame) (new : UnitRec) (s : State),
      s.resetLine = false → (s.port p).state = .active → (s.port p).channel = some 0 →
      s.frames 0 = ⟨sl.unit, .confirm l cs 4⟩ :: behind → (∀ x ∈ behind, 3 ≤ x.priority) →
      s.slot i = some sl → (∀ j sl', s.slot j = some sl' → sl'.unit = sl.unit → j = i) → sl.phase = .confirm →
      sl.level = some l → sl.chans = some cs →
      new = {
        unit := sl.unit, kind := sl.word.kind, level := l, chans := cs, current := 0, binding := none
        admitted := s.time, lastHeard := s.time, unboundSince := s.time } →
      ∃ u, exec (.slotReady p) s = .next (settle u) ∧
        u = { s with
          units := u.units, slots := s.slots.put i none, quiet := u.quiet, floors := u.floors, downlink := u.downlink
          generators := u.generators, links := u.links, ports := u.ports, sent := u.sent } ∧
        u.sent.take (s.sent.length + 1) = s.sent ++ [(p, .air ⟨sl.unit, .confirm l cs 4⟩)] ∧
        (∀ r, s.unit sl.unit = some r → r.binding = none →
          u.units = s.units.map (fun y => if y.unit = sl.unit then new else y) ∧ u.quiet = s.quiet ∧
          (OneClaim s → ∀ ch, Unclaimed ch (.unit sl.unit) u)) ∧
        (s.unit sl.unit = none → s.units.length < 96 →
          u.units = s.units ++ [new] ∧ u.quiet = s.quiet ∧ ∀ c, c ≠ 0 → u.frames c = s.frames c) ∧
        (∀ old ∈ s.units, s.unit sl.unit = none → 96 ≤ s.units.length → old.binding = none →
          (∀ y ∈ s.units, y.binding = none → y ≠ old →
            elapsed s.time y.lastHeard < elapsed s.time old.lastHeard ∨
            y.lastHeard = old.lastHeard ∧ (elapsed s.time y.admitted < elapsed s.time old.admitted ∨
              y.admitted = old.admitted ∧ old.unit.toNat < y.unit.toNat)) →
          u.units = s.units.filter (fun y => y.unit ≠ old.unit) ++ [new] ∧ u.quiet = s.quiet ∧
          (OneClaim s → ∀ ch, Unclaimed ch (.unit old.unit) u)) ∧
        (∀ r, s.unit sl.unit = some r → r.binding.isSome = true →
          u.units = s.units ∧ u.quiet = s.quiet ∧
          (takesFrames (s.floor 0) = true → behind.length < 16 → ⟨sl.unit, .enrolReject .bound⟩ ∈ u.frames 0)) ∧
        (s.unit sl.unit = none → 96 ≤ s.units.length → (∀ y ∈ s.units, y.binding.isSome = true) →
          u.units = s.units ∧ u.quiet = enterQuiet s.time sl.unit s.quiet ∧
          (takesFrames (s.floor 0) = true → behind.length < 16 → ⟨sl.unit, .enrolReject .registerFull⟩ ∈ u.frames 0)))

/-! ## The Tone Unit -/

/-- R163, R164: LOAD_PATTERN defines the pattern with the clamped contents and answers each step's divider and
reported frequency. The period count N = 4096 - D is 1,228,800 / f rounded to the nearest, a half upwards. -/
def Obligations.LoadPatternDefinesThePattern : Prop :=
  ∀ (link : Console) (b rep : Byte) (pat : PatternIx) (steps : List StepField) (s : State), Listening link s →
    b.toNat = pat.val → 1 ≤ steps.length → steps.length ≤ 8 →
    (∀ ch, (∀ g, s.generator ch = some g → g.pattern ≠ pat) ∧ ∀ a ∈ (s.floor ch).alerts, a.pattern ≠ pat) →
    ∃ (clamped : Bool) (t : Pattern),
      exec (.loadPattern link b rep steps) s = answeredWith link 0x03#8
        (.accepted clamped (.tones (t.steps.map (fun st => (st.divider, 122880000 / (4096 - st.divider))))))
        { hunt link s with patterns := s.patterns.put pat (some t) } ∧
      t.repeatCount = min 15 (max 1 rep.toNat) ∧
      t.steps.map (fun st => (st.freq, st.duration, st.level)) = steps.map (fun f =>
        (min 3000 (max 300 f.freq.toNat), max 1 f.duration.toNat, min 15 f.level.toNat)) ∧
      (∀ st ∈ t.steps, st.divider ≤ 3686 ∧ 2 * (4096 - st.divider) * st.freq ≤ 2 * 1228800 + st.freq ∧
        2 * 1228800 < 2 * (4096 - st.divider) * st.freq + st.freq) ∧
      (clamped = true ↔ rep.toNat < 1 ∨ 15 < rep.toNat ∨ ∃ f ∈ steps,
        f.freq.toNat < 300 ∨ 3000 < f.freq.toNat ∨ f.duration.toNat < 1 ∨ 15 < f.level.toNat)

/-- R44, R163, R165, R166, R167, R169, R171, R172, R173: PLAY MIX over a grant starts the pattern on an IDLE generator; PLAY
NEXT_FREE joins the list, where the floor is IDLE with a service decision, collapses onto a waiting entry, or is refused at a
full list; a step end time begins the
next step, the next repeat, or ends a MIX play. Each step begun gives the output its divider and level, which the tone
line of the port that carries the channel takes; in IDLE, and in a step of level 0, the line is silent. -/
def Obligations.TonesPlayByTheirSteps : Prop :=
  ∀ (ch : Chan) (s : State),
    (∀ p : Port, (s.port p).pins.tone = some ch →
      (s.generator ch = none → s.toneLine p = none) ∧
      ∀ g, s.generator ch = some g → s.toneLine p = if g.output.level = 0 then none else some g.output) ∧
    (∀ (link : Console) (b k : Byte) (pat : PatternIx) (t : Pattern) (st : ToneStep) (sts : List ToneStep),
      Listening link s → s.part = .service → NamesChannel b ch s → k.toNat = pat.val →
      s.patterns.get pat = some t → t.steps = st :: sts →
      ((s.floor ch).effective = .granted → s.generator ch = none →
        exec (.play link b k 2) s = answeredWith link 0x22#8 (.accepted false .none) { hunt link s with
          generators := s.generators.put ch (some {
            mode := .mix, pattern := pat, start := s.time, rep := 1, step := 0
            stepEnd := s.time + BitVec.ofNat 32 (10 * st.duration), output := ⟨st.divider, st.level⟩ }) }) ∧
      ∀ new : Alert,
        new = { pattern := pat, mode := .nextFree, tag := none, requester := .console link, admitted := s.time
                playing := false } →
        (∀ list u, Admits new (s.floor ch).alerts list →
          u = { hunt link s with floors := s.floors.put ch { s.floor ch with alerts := list } } →
          exec (.play link b k 1) s = answeredWith link 0x22#8 (.accepted false (.alert .admitted))
            (if (s.floor ch).state = .idle then serviceDecision ch u else u)) ∧
        (Collapses new (s.floor ch).alerts →
          exec (.play link b k 1) s = answeredWith link 0x22#8 (.accepted false (.alert .collapsed)) (hunt link s)) ∧
        (TurnsAway new (s.floor ch).alerts →
          exec (.play link b k 1) s = answeredWith link 0x22#8 (.refused .alertListFull 0) (hunt link s))) ∧
    (∀ (g : Play) (t : Pattern), s.resetLine = false → s.generator ch = some g → reached s.time g.stepEnd = true →
      s.patterns.get g.pattern = some t →
      (∀ st, t.steps[g.step + 1]? = some st → exec (.toneStepEnd ch) s = .next (settle { s with
        generators := s.generators.put ch (some { g with
          step := g.step + 1, stepEnd := g.stepEnd + BitVec.ofNat 32 (10 * st.duration)
          output := ⟨st.divider, st.level⟩ }) })) ∧
      (∀ st sts, t.steps = st :: sts → t.steps[g.step + 1]? = none → g.rep < t.repeatCount →
        exec (.toneStepEnd ch) s = .next (settle { s with
          generators := s.generators.put ch (some { g with
            rep := g.rep + 1, step := 0, stepEnd := g.stepEnd + BitVec.ofNat 32 (10 * st.duration)
            output := ⟨st.divider, st.level⟩ }) })) ∧
      (g.mode = .mix → t.steps[g.step + 1]? = none → t.repeatCount ≤ g.rep →
        exec (.toneStepEnd ch) s = .next (settle { s with generators := s.generators.put ch none })) ∧
      (g.mode = .seize → t.steps[g.step + 1]? = none → t.repeatCount ≤ g.rep → (s.floor ch).state = .alert →
        (∀ a, (s.floor ch).alerts = [a] → a.playing = true → (s.floor ch).queue = [] →
          ∃ u, exec (.toneStepEnd ch) s = .next (settle u) ∧ TalkFrame ch s u ∧ u.generator ch = none ∧
            (u.floor ch).alerts = [] ∧ (u.floor ch).state = .idle) ∧
        ∀ a e, (s.floor ch).alerts = [a] → a.playing = true → IsBest ch e s →
          ∃ u, exec (.toneStepEnd ch) s = .next (settle u) ∧ TalkFrame ch s u ∧ (u.floor ch).alerts = [] ∧
            Granted ch e.party e.cls s u))

/-! ## The Port Manager -/

/-- R139, R145, R196: health reports that do not fail a port. An ABSENT port becomes STANDBY, and in SERVICE tunes at
once for the lowest-numbered CLOSED channel; a FAILED port's run of healthy reports begins, or a FAULT breaks it; in
STANDBY and TEST the report is recorded, and a change between OK and DEGRADED sent; an ISOLATED port and an undefined
status are ignored. -/
def Obligations.HealthReportsAreTaken : Prop :=
  ∀ (p : Port) (b : Byte) (h : Health) (s : State), s.resetLine = false →
    ((s.port p).state = .isolated ∨ 3 ≤ b.toNat → exec (.healthReport p b) s = .next (settle s)) ∧
    (b.toNat = (match h with | .ok => 0 | .degraded => 1 | .fault => 2) →
      (h ≠ .fault → (s.port p).state = .absent → (s.part = .config ∨ ∀ ch, (s.floor ch).state ≠ .closed) →
        exec (.healthReport p b) s = .next (settle (broadcast (.portState p .absent .standby .healthy) { s with
          ports := s.ports.put p { s.port p with
            state := .standby, lastHealth := some s.time, status := some h } }))) ∧
      (∀ ch, h ≠ .fault → (s.port p).state = .absent → s.part = .service → (s.floor ch).state = .closed →
        (∀ c : Chan, c.val < ch.val → (s.floor c).state ≠ .closed) →
        ∃ u, exec (.healthReport p b) s = .next (settle u) ∧
          u = { s with ports := u.ports, floors := u.floors, links := u.links, sent := s.sent ++ [(p, .tune (s.chan ch).freq)] } ∧
          u.port p = { s.port p with
            state := .tuning, channel := some ch, purpose := some .transfer, tuneDeadline := some (s.time + 1000)
            lastHealth := some s.time, status := some h } ∧
          (∀ q, q ≠ p → u.port q = s.port q) ∧
          u.floor ch = { s.floor ch with state := .transfer, held := some .idle } ∧
          ∀ c, c ≠ ch → u.floor c = s.floor c) ∧
      ((s.port p).state = .failed → exec (.healthReport p b) s = .next (settle { s with
        ports := s.ports.put p { s.port p with
          lastHealth := some s.time, status := some h
          okStart := if h = .fault then none else some ((s.port p).okStart.getD s.time) } })) ∧
      (h ≠ .fault → (s.port p).state = .standby ∨ (s.port p).state = .test →
        exec (.healthReport p b) s = .next (settle
          ((if (s.port p).status = some .ok ∧ h = .degraded ∨ (s.port p).status = some .degraded ∧ h = .ok
            then broadcast (.portHealth p h) else id) { s with
              ports := s.ports.put p { s.port p with lastHealth := some s.time, status := some h } }))) ∧
      ∀ ch, h ≠ .fault → (s.port p).state = .active ∨ (s.port p).state = .tuning → (s.port p).channel = some ch →
        exec (.healthReport p b) s = .next (settle
          ((if h = .degraded then latchAll ch .degraded else id)
            ((if (s.port p).status = some .ok ∧ h = .degraded ∨ (s.port p).status = some .degraded ∧ h = .ok
              then broadcast (.portHealth p h) else id) { s with
                ports := s.ports.put p { s.port p with lastHealth := some s.time, status := some h } }))))

/-- R47, R48, R49, R139, R140, R141, R143, R145, R148, R160: a FAULT report and 500 ms of silence fail a port in STANDBY, TEST,
ACTIVE or TUNING, and a FAULT report a port in ABSENT. In FAILED both break the run of healthy reports; an ISOLATED port, and
the silence of an ABSENT one, change nothing. A STANDBY or ABSENT port just fails. The test of a port in TEST is aborted. A channel that the port carried is taken up by the candidate of
the spare search (the lowest-numbered STANDBY port, else TEST port, whose test is aborted), which tunes for it for 1000
ms, and its floor is in TRANSFER with its state held, its grant and queue kept; where a swap of it is under way the swap
port goes on instead; with no candidate it is CLOSED, its floor, queue and downlink queue emptied. For a channel that the
port tuned for, the search is made again, and the floor stays in TRANSFER; a swap port leaves its channel as it is. -/
def Obligations.PortFailureTransfersOrCloses : Prop :=
  ∀ (p : Port) (c : Instr) (cause : FailCause) (s : State), s.resetLine = false →
    (c = .healthReport p 2 ∧ cause = .fault ∨
      c = .healthSilence p ∧ cause = .silent ∧ ∃ t0, (s.port p).lastHealth = some t0 ∧ reached s.time (t0 + 500) = true) →
    ((s.port p).state = .standby ∨ (s.port p).state = .absent ∧ cause = .fault →
      ∃ u, exec c s = .next (settle u) ∧ u = { s with ports := u.ports, links := u.links } ∧
        (∀ q, q ≠ p → u.port q = s.port q) ∧ FailedBy p cause s u) ∧
    ((s.port p).state = .failed → exec c s = .next (settle { s with
      ports := s.ports.put p { s.port p with
        okStart := none
        lastHealth := if cause = .fault then some s.time else (s.port p).lastHealth
        status := if cause = .fault then some .fault else (s.port p).status } })) ∧
    ((s.port p).state = .isolated ∨ (s.port p).state = .absent ∧ cause = .silent → exec c s = .next (settle s)) ∧
    ((s.port p).state = .test →
      ∃ u, exec c s = .next (settle u) ∧
        u = { s with ports := u.ports, tests := u.tests, downlink := u.downlink, links := u.links } ∧
        (∀ q, q ≠ p → u.port q = s.port q) ∧ FailedBy p cause s u ∧ Aborted p .portFailed s u) ∧
    (∀ ch : Chan, (s.port p).state = .active → (s.port p).channel = some ch →
      (∀ q, (s.port q).state = .tuning → (s.port q).channel = some ch → (s.port q).purpose ≠ some .swap) →
      (∀ q : Port, IsSpare q s → (s.floor ch).carried →
        ∃ u, exec c s = .next (settle u) ∧
          u = { s with
            ports := u.ports, floors := u.floors, tests := u.tests, downlink := u.downlink, links := u.links
            sent := s.sent ++ [(p, .gate none), (q, .tune (s.chan ch).freq)] } ∧
          (∀ r, r ≠ p → r ≠ q → u.port r = s.port r) ∧ FailedBy p cause s u ∧ TunesFor q ch s u ∧ Transferred ch s u) ∧
      (NoSpare s → (∀ r, (s.port r).state = .active → (s.port r).channel = some ch → r = p) →
        ∃ u, exec c s = .next (settle u) ∧
          u = { s with
            ports := u.ports, floors := u.floors, downlink := u.downlink, generators := u.generators, links := u.links
            sent := s.sent ++ [(p, .gate none)] } ∧
          (∀ r, r ≠ p → u.port r = s.port r) ∧ FailedBy p cause s u ∧ ClosedBy ch s u)) ∧
    (∀ (ch : Chan) (q : Port), (s.port p).state = .active → (s.port p).channel = some ch → (s.port q).state = .tuning →
      (s.port q).channel = some ch → (s.port q).purpose = some .swap →
      (∀ r, (s.port r).state = .tuning → (s.port r).channel = some ch → (s.port r).purpose = some .swap → r = q) →
      (s.floor ch).carried →
      ∃ u, exec c s = .next (settle u) ∧
        u = { s with
          ports := u.ports, floors := u.floors, links := u.links, sent := s.sent ++ [(p, .gate none)] } ∧
        (∀ r, r ≠ p → r ≠ q → u.port r = s.port r) ∧ FailedBy p cause s u ∧
        u.port q = { s.port q with purpose := some .transfer } ∧ Transferred ch s u) ∧
    ∀ ch : Chan, (s.port p).state = .tuning → (s.port p).channel = some ch →
      ((s.port p).purpose = some .swap →
        ∃ u, exec c s = .next (settle u) ∧ u = { s with ports := u.ports, links := u.links } ∧
          (∀ r, r ≠ p → u.port r = s.port r) ∧ FailedBy p cause s u) ∧
      (∀ q : Port, (s.port p).purpose ≠ some .swap → IsSpare q s →
        ∃ u, exec c s = .next (settle u) ∧
          u = { s with
            ports := u.ports, tests := u.tests, downlink := u.downlink, links := u.links
            sent := s.sent ++ [(q, .tune (s.chan ch).freq)] } ∧
          (∀ r, r ≠ p → r ≠ q → u.port r = s.port r) ∧ FailedBy p cause s u ∧ TunesFor q ch s u) ∧
      ((s.port p).purpose ≠ some .swap → NoSpare s →
        (∀ r, (s.port r).state = .active → (s.port r).channel ≠ some ch) →
        ∃ u, exec c s = .next (settle u) ∧
          u = { s with
            ports := u.ports, floors := u.floors, downlink := u.downlink, generators := u.generators, links := u.links } ∧
          (∀ r, r ≠ p → u.port r = s.port r) ∧ FailedBy p cause s u ∧ ClosedBy ch s u)

/-- R141 to R145, R148, R151: the restoration mark makes a FAILED port STANDBY, and in SERVICE the lowest-numbered CLOSED
channel takes it at once; TUNED makes a port that tunes with
purpose START or TRANSFER the carrier of its channel, sent the gate, and the floor takes its held state; a tune
deadline fails the port: a swap port leaves its channel as it is (that PORT_STATE goes out before SWAP_FAILED is log entry
18, DEDUCED), and for a channel that a port tuned for with purpose
START or TRANSFER the spare search is made again; TUNED from a port that is not TUNING is ignored. -/
def Obligations.TuningEnds : Prop :=
  ∀ (p : Port) (s : State), s.resetLine = false →
    ((s.port p).state ≠ .tuning → exec (.tuned p) s = .next (settle s)) ∧
    (∀ t0, (s.port p).state = .failed → (s.port p).okStart = some t0 → reached s.time (t0 + 10000) = true →
      (s.part = .config ∨ ∀ ch, (s.floor ch).state ≠ .closed) →
      exec (.restorationMark p) s = .next (settle (broadcast (.portState p .failed .standby .recovered) { s with
        ports := s.ports.put p { s.port p with state := .standby, okStart := none } }))) ∧
    (∀ t0 ch, (s.port p).state = .failed → (s.port p).okStart = some t0 → reached s.time (t0 + 10000) = true →
      s.part = .service → (s.floor ch).state = .closed → (∀ c : Chan, c.val < ch.val → (s.floor c).state ≠ .closed) →
      ∃ u, exec (.restorationMark p) s = .next (settle u) ∧
        u = { s with ports := u.ports, floors := u.floors, links := u.links, sent := s.sent ++ [(p, .tune (s.chan ch).freq)] } ∧
        u.port p = { s.port p with
          state := .tuning, okStart := none, channel := some ch, purpose := some .transfer
          tuneDeadline := some (s.time + 1000) } ∧
        (∀ q, q ≠ p → u.port q = s.port q) ∧ u.floor ch = { s.floor ch with state := .transfer, held := some .idle } ∧
        ∀ c, c ≠ ch → u.floor c = s.floor c) ∧
    (∀ ch u0, (s.port p).state = .tuning → (s.port p).channel = some ch → (s.port p).purpose = some u0 → u0 ≠ .swap →
      (s.floor ch).state = .transfer → (s.floor ch).alerts = [] →
      (∀ q, q ≠ p → (s.port q).state = .active → (s.port q).channel ≠ some ch) →
      ∃ u, exec (.tuned p) s = .next (settle u) ∧
        u = { s with
          ports := u.ports, floors := u.floors, downlink := u.downlink, generators := u.generators, links := u.links
          sent := u.sent } ∧
        (u.port p).state = .active ∧ (u.port p).channel = some ch ∧ (u.port p).purpose = none ∧
        (u.port p).tuneDeadline = none ∧ (u.port p).pins.tone = some ch ∧ (p, PortMsg.gate (s.floor ch).gate) ∈ u.sent ∧
        (∀ q, q ≠ p → u.port q = s.port q) ∧ (∀ d, d ≠ ch → u.floor d = s.floor d) ∧ (u.floor ch).held = none ∧
        (∀ st, (s.floor ch).held = some st → st ≠ .idle →
          (u.floor ch).state = st ∧ (u.floor ch).queue = (s.floor ch).queue ∧ (u.floor ch).grant = (s.floor ch).grant ∧
          (u.floor ch).hang = (s.floor ch).hang ∧ (u.floor ch).gate = (s.floor ch).gate) ∧
        ((s.floor ch).held = some .idle → (s.floor ch).queue = [] → (u.floor ch).state = .idle) ∧
        (∀ e, (s.floor ch).held = some .idle → IsBest ch e s → Granted ch e.party e.cls s u)) ∧
    (∀ ch d, (s.port p).state = .tuning → (s.port p).channel = some ch → (s.port p).purpose = some .swap →
      (s.port p).tuneDeadline = some d → reached s.time d = true →
      exec (.tuneDeadline p) s = .next (settle (broadcast (.swapFailed ch p .tuneTimeout)
        (broadcast (.portState p .tuning .failed .tuneTimeout) { s with
          ports := s.ports.put p { s.port p with
            state := .failed, channel := none, purpose := none, tuneDeadline := none, okStart := none
            lastCause := some .tuneTimeout } })))) ∧
    ∀ ch d, (s.port p).state = .tuning → (s.port p).channel = some ch → (s.port p).purpose ≠ some .swap →
      (s.port p).tuneDeadline = some d → reached s.time d = true →
      (∀ q : Port, IsSpare q s →
        ∃ u, exec (.tuneDeadline p) s = .next (settle u) ∧
          u = { s with
            ports := u.ports, tests := u.tests, downlink := u.downlink, links := u.links
            sent := s.sent ++ [(q, .tune (s.chan ch).freq)] } ∧
          (∀ r, r ≠ p → r ≠ q → u.port r = s.port r) ∧ FailedBy p .tuneTimeout s u ∧ TunesFor q ch s u) ∧
      (NoSpare s → (∀ r, (s.port r).state = .active → (s.port r).channel ≠ some ch) →
        ∃ u, exec (.tuneDeadline p) s = .next (settle u) ∧
          u = { s with
            ports := u.ports, floors := u.floors, downlink := u.downlink, generators := u.generators, links := u.links } ∧
          (∀ r, r ≠ p → u.port r = s.port r) ∧ FailedBy p .tuneTimeout s u ∧ ClosedBy ch s u)

/-- R143, R145, R147, R148, R149, R150, R160: SWAP_PORT tunes the lowest-numbered STANDBY port beside the carrying one, and
its TUNED hands the channel over; ISOLATE_PORT puts a port's outputs at high impedance and sends it nothing: a spare
takes up the channel that it carried or tuned for, or the port that tunes for the channel's swap goes on in its place, or the
channel closes; a swap for which it tuned fails (that PORT_STATE goes out before SWAP_FAILED is log entry 18, DEDUCED), a test
on it is aborted; RESTORE_PORT makes an ISOLATED port ABSENT. The former carrier of a swap is STANDBY, or is taken at once by
the lowest-numbered CLOSED channel. -/
def Obligations.PortCommands : Prop :=
  ∀ (link : Console) (b : Byte) (p : Port) (s : State),
    (∀ ch, Listening link s → s.part = .service → NamesChannel b ch s → (s.floor ch).state ≠ .transfer →
      (s.floor ch).state ≠ .closed →
      (∀ q, (s.port q).state = .tuning → (s.port q).channel = some ch → (s.port q).purpose ≠ some .swap) →
      (s.port p).state = .standby → (∀ q : Port, q.val < p.val → (s.port q).state ≠ .standby) →
      exec (.swapPort link b) s = answeredWith link 0x28#8 (.accepted false (.port p))
        (send p (.tune (s.chan ch).freq) (broadcast (.portState p .standby .tuning .tune) { hunt link s with
          ports := s.ports.put p { s.port p with
            state := .tuning, channel := some ch, purpose := some .swap, tuneDeadline := some (s.time + 1000) } }))) ∧
    (∀ ch q, s.resetLine = false → (s.port p).state = .tuning → (s.port p).channel = some ch →
      (s.port p).purpose = some .swap → q ≠ p → (s.port q).state = .active → (s.port q).channel = some ch →
      (∀ r, (s.port r).state = .active → (s.port r).channel = some ch → r = q) → (∀ c, (s.floor c).state ≠ .closed) →
      ∃ u, exec (.tuned p) s = .next (settle u) ∧
        u = { s with ports := u.ports, floors := u.floors, links := u.links, sent := u.sent } ∧
        u.port p = { s.port p with
          state := .active, purpose := none, tuneDeadline := none
          pins := { (s.port p).pins with gate := (s.floor ch).gate, tone := some ch } } ∧
        u.port q = { s.port q with
          state := .standby, channel := none, pins := { (s.port q).pins with gate := none, tone := none } } ∧
        (∀ r, r ≠ p → r ≠ q → u.port r = s.port r) ∧ (∀ d, d ≠ ch → u.floor d = s.floor d) ∧
        (u.floor ch).state = (s.floor ch).state ∧ (u.floor ch).heard = none ∧ (u.floor ch).queue = (s.floor ch).queue ∧
        (u.floor ch).episodeOpen = false ∧ (u.floor ch).foreignSince = none) ∧
    (∀ ch q c, s.resetLine = false → s.part = .service → (s.port p).state = .tuning → (s.port p).channel = some ch →
      (s.port p).purpose = some .swap → q ≠ p → (s.port q).state = .active → (s.port q).channel = some ch →
      (∀ r, (s.port r).state = .active → (s.port r).channel = some ch → r = q) → (s.floor ch).state ≠ .closed →
      (s.floor c).state = .closed → (∀ d : Chan, d.val < c.val → (s.floor d).state ≠ .closed) →
      ∃ u, exec (.tuned p) s = .next (settle u) ∧
        u = { s with ports := u.ports, floors := u.floors, links := u.links, sent := u.sent } ∧
        (u.port p).state = .active ∧ (u.port p).channel = some ch ∧
        u.port q = { s.port q with
          state := .tuning, channel := some c, purpose := some .transfer, tuneDeadline := some (s.time + 1000)
          pins := { (s.port q).pins with gate := none, tone := none } } ∧
        (∀ r, r ≠ p → r ≠ q → u.port r = s.port r) ∧ (q, PortMsg.tune (s.chan c).freq) ∈ u.sent ∧
        u.floor c = { s.floor c with state := .transfer, held := some .idle } ∧
        (u.floor ch).state = (s.floor ch).state ∧ ∀ d, d ≠ ch → d ≠ c → u.floor d = s.floor d) ∧
    (Listening link s → b.toNat = p.val →
      ((s.port p).state = .isolated →
        exec (.isolatePort link b) s = answeredWith link 0x29#8 (.accepted false .none) (hunt link s)) ∧
      (∀ st, (s.port p).state = st → st = .standby ∨ st = .failed ∨ st = .absent →
        exec (.isolatePort link b) s = answeredWith link 0x29#8 (.accepted false .none)
          (broadcast (.portState p st .isolated .isolated) { hunt link s with
            ports := s.ports.put p { s.port p with
              state := .isolated, channel := none, purpose := none, tuneDeadline := none, okStart := none
              pins := { (s.port p).pins with highZ := true, tone := none } } })) ∧
      (∀ isolated : PortRec, isolated = { s.port p with
            state := .isolated, channel := none, purpose := none, tuneDeadline := none, okStart := none
            pins := { (s.port p).pins with highZ := true, tone := none } } →
        ((s.port p).state = .test →
          ∃ u, exec (.isolatePort link b) s = answeredWith link 0x29#8 (.accepted false .none) u ∧
            u = { s with
              ports := s.ports.put p isolated, tests := u.tests, downlink := u.downlink, links := u.links } ∧
            Aborted p .portFailed s u) ∧
        ∀ ch : Chan, (s.port p).channel = some ch →
          ((s.port p).state = .tuning → (s.port p).purpose = some .swap →
            exec (.isolatePort link b) s = answeredWith link 0x29#8 (.accepted false .none)
              (broadcast (.swapFailed ch p .isolated) (broadcast (.portState p .tuning .isolated .isolated)
                { hunt link s with ports := s.ports.put p isolated }))) ∧
          (∀ q : Port, IsSpare q s →
            (s.port p).state = .tuning ∧ (s.port p).purpose ≠ some .swap ∨
              (s.port p).state = .active ∧ (s.floor ch).carried ∧
                (∀ r, (s.port r).state = .tuning → (s.port r).channel = some ch → (s.port r).purpose ≠ some .swap) →
            ∃ u, exec (.isolatePort link b) s = answeredWith link 0x29#8 (.accepted false .none) u ∧
              u = { s with
                ports := u.ports, floors := u.floors, tests := u.tests, downlink := u.downlink, links := u.links
                sent := s.sent ++ [(q, .tune (s.chan ch).freq)] } ∧
              u.port p = isolated ∧ (∀ r, r ≠ p → r ≠ q → u.port r = s.port r) ∧ TunesFor q ch s u ∧
              ((s.port p).state = .active → Transferred ch s u) ∧ ((s.port p).state = .tuning → u.floors = s.floors)) ∧
          (∀ q : Port, (s.port p).state = .active → (s.floor ch).carried → (s.port q).state = .tuning →
            (s.port q).channel = some ch → (s.port q).purpose = some .swap →
            (∀ r, (s.port r).state = .tuning → (s.port r).channel = some ch → (s.port r).purpose = some .swap → r = q) →
            ∃ u, exec (.isolatePort link b) s = answeredWith link 0x29#8 (.accepted false .none) u ∧
              u = { s with ports := u.ports, floors := u.floors, links := u.links } ∧
              u.port p = isolated ∧ (∀ r, r ≠ p → r ≠ q → u.port r = s.port r) ∧
              u.port q = { s.port q with purpose := some .transfer } ∧ Transferred ch s u) ∧
          (NoSpare s → (∀ r, r ≠ p → (s.port r).state = .active → (s.port r).channel ≠ some ch) →
            (s.port p).state = .tuning ∧ (s.port p).purpose ≠ some .swap ∨
              (s.port p).state = .active ∧
                (∀ r, (s.port r).state = .tuning → (s.port r).channel = some ch → (s.port r).purpose ≠ some .swap) →
            ∃ u, exec (.isolatePort link b) s = answeredWith link 0x29#8 (.accepted false .none) u ∧
              u = { s with
                ports := s.ports.put p isolated, floors := u.floors, downlink := u.downlink
                generators := u.generators, links := u.links } ∧
              ClosedBy ch s u)) ∧
      ((s.port p).state = .isolated →
        exec (.restorePort link b) s = answeredWith link 0x2A#8 (.accepted false .none)
          (broadcast (.portState p .isolated .absent .restored) { hunt link s with
            ports := s.ports.put p { s.port p with
              state := .absent, lastHealth := none, status := none
              pins := { (s.port p).pins with highZ := false } } })) ∧
      ((s.port p).state ≠ .isolated →
        exec (.restorePort link b) s = answeredWith link 0x2A#8 (.refused .notIsolated 0) (hunt link s)))

/-! ## The Path Tester -/

/-- R153, R155: START_TEST on a STANDBY port, in LOCAL (0) or UNIT (1) mode, raises the port's sequence, starts a
fresh record with the clamped duration, and makes the port TEST; in UNIT mode the port is sent LOOP. In REMOTE (2), in
SERVICE with an unbound registered unit on a channel that is not CLOSED, the order is AIR and ECHO_ON is placed for
the unit. -/
def Obligations.StartTestStartsARecord : Prop :=
  ∀ (link : Console) (b : Byte) (p : Port) (dur : BitVec 16) (n d : Nat) (t : TestRec) (s : State), Listening link s →
    b.toNat = p.val → (s.port p).state = .standby →
    n = (if s.sequences.get p < 255 then s.sequences.get p + 1 else 1) → d = min 3600 (max 1 dur.toNat) →
    t = {
      mode := .loc, echoUnit := none, echoChannel := none, freq := none, seq := n, duration := d, state := .search
      bits := 0, errors := 0, losses := 0, inserted := 0, insertPending := false, start := s.time
      endTime := s.time + BitVec.ofNat 32 (1000 * d), firstSync := none, abort := none
      generator := BitVec.allOnes 15, checker := BitVec.allOnes 15, windowBits := 0, windowErrors := 0 } →
    (exec (.startTest link b 0 dur none) s = answeredWith link 0x2B#8
      (.accepted (decide (dur.toNat < 1 ∨ 3600 < dur.toNat)) (.sequence n))
      (broadcast (.portState p .standby .test .testStart) { hunt link s with
        ports := s.ports.put p { s.port p with state := .test }
        tests := s.tests.put p (some t), sequences := s.sequences.put p n })) ∧
    (exec (.startTest link b 1 dur none) s = answeredWith link 0x2B#8
      (.accepted (decide (dur.toNat < 1 ∨ 3600 < dur.toNat)) (.sequence n))
      (send p .testLoop (broadcast (.portState p .standby .test .testStart) { hunt link s with
        ports := s.ports.put p { s.port p with state := .test }
        tests := s.tests.put p (some { t with mode := .unit }), sequences := s.sequences.put p n }))) ∧
    ∀ (x : UnitId) (r : UnitRec) (f : BitVec 16), s.part = .service → s.unit x = some r → r.binding = none →
      (s.floor r.current).state ≠ .closed →
      exec (.startTest link b 2 dur (some (x, f))) s = answeredWith link 0x2B#8
        (.accepted (decide (dur.toNat < 1 ∨ 3600 < dur.toNat ∨ 4095 < f.toNat)) (.sequence n))
        (placeFrame r.current ⟨x, .echoOn p n (min 4095 f.toNat) d⟩
          (send p (.testAir (min 4095 f.toNat)) (broadcast (.portState p .standby .test .testStart) { hunt link s with
            ports := s.ports.put p { s.port p with state := .test }
            tests := s.tests.put p (some { t with
              mode := .remote, echoUnit := some x, echoChannel := some r.current, freq := some (min 4095 f.toNat) })
            sequences := s.sequences.put p n })))

/-- R158, R159: STOP_TEST and the end time end a running test: the record is DONE with its counts and the end time
now, and the port is STANDBY (with no channel CLOSED); INSERT_ERROR sets insert pending once. -/
def Obligations.TestsEndAndTakeErrors : Prop :=
  ∀ (p : Port) (t : TestRec) (s : State), s.testOf p = some t → t.state = .search ∨ t.state = .synced →
    (∀ (link : Console) (b : Byte), Listening link s → b.toNat = p.val →
      ((s.part = .config ∨ ∀ ch, (s.floor ch).state ≠ .closed) →
        ∃ u, exec (.stopTest link b) s = answeredWith link 0x2C#8 (.accepted false .none) u ∧
          u = { s with ports := u.ports, tests := u.tests, downlink := u.downlink, links := u.links, sent := u.sent } ∧
          u.testOf p = some { t with state := .done, abort := none, endTime := s.time, insertPending := false } ∧
          (∀ q, q ≠ p → u.testOf q = s.testOf q ∧ u.port q = s.port q) ∧
          u.port p = { s.port p with state := .standby } ∧
          (t.mode = .loc → u.sent = s.sent) ∧ (t.mode ≠ .loc → u.sent = s.sent ++ [(p, .testEnd)])) ∧
      (t.insertPending = false →
        exec (.insertError link b) s = answeredWith link 0x2D#8 (.accepted false .none) { hunt link s with
          tests := s.tests.put p (some { t with insertPending := true }) }) ∧
      (t.insertPending = true →
        exec (.insertError link b) s = answeredWith link 0x2D#8 (.refused .insertPending 0) (hunt link s))) ∧
    (s.resetLine = false → reached s.time t.endTime = true → (s.part = .config ∨ ∀ ch, (s.floor ch).state ≠ .closed) →
      ∃ u, exec (.testEndTime p) s = .next (settle u) ∧
        u = { s with ports := u.ports, tests := u.tests, downlink := u.downlink, links := u.links, sent := u.sent } ∧
        u.testOf p = some { t with state := .done, abort := none, endTime := s.time, insertPending := false } ∧
        (∀ q, q ≠ p → u.testOf q = s.testOf q ∧ u.port q = s.port q) ∧ u.port p = { s.port p with state := .standby })

/-- R154, R156, R157, R158: a generated bit is stage 15 of the generator, inverted where an insertion waits, and the register
shifts. In UNIT and REMOTE modes the bit is sent; in LOCAL mode nothing is sent, the checker takes the bit, and ECHO test data
is ignored. A received bit is an error where it is not stage 15 of the checker; it is counted in the window and in SYNCED in
the test, and the 128th bit of a window judges it (below 4 errors: SYNCED; 16 or more: SEARCH). In SYNCED the checker shifts as
the generator does. In SEARCH it shifts so too, but for the received bit (log entry 27): where it holds the state that fifteen
shifts make of a register of bits, it then holds that of the register with the received bit entered at stage 1. A checker in
SEARCH that takes fifteen bits of an undamaged stream holds the sender's state, and keeps it; one that begins with it, as
at the start of a test, has it throughout. -/
def Obligations.TestBitsAreGeneratedAndChecked : Prop :=
  (∀ (p : Port) (t : TestRec) (s : State), s.resetLine = false → s.testOf p = some t →
    t.state = .search ∨ t.state = .synced →
    (∀ bytes : List Byte, t.mode = .loc → exec (.echoTestData p bytes) s = .next (settle s)) ∧
    (t.mode = .loc → exec (.testBit p) s = .next (settle { s with
      tests := s.tests.put p (some (TestRec.takes s.time { t with
        generator := shifted t.generator
        insertPending := false
        inserted := min 65535 (t.inserted + t.insertPending.toNat) } (t.generator.getLsbD 14 ^^ t.insertPending))) })) ∧
    (t.mode ≠ .loc → exec (.testBit p) s = .next (settle { s with
      tests := s.tests.put p (some { t with
        generator := shifted t.generator
        insertPending := false
        inserted := min 65535 (t.inserted + t.insertPending.toNat) })
      sent := s.sent ++ [(p, .bit (t.generator.getLsbD 14 ^^ t.insertPending))] })) ∧
    (∀ bytes : List Byte, t.mode ≠ .loc → (s.port p).state = .test → 1 ≤ bytes.length → bytes.length ≤ 32 →
      exec (.echoTestData p bytes) s = .next (settle { s with
        tests := s.tests.put p (some ((bitsOf bytes).foldl (TestRec.takes s.time) t)) })) ∧
    ∀ bytes : List Byte, (s.port p).state ≠ .test → exec (.echoTestData p bytes) s = .next (settle s)) ∧
  (∀ (sender : Nat → BitVec 15) (t : Nat → TestRec) (now : Nat → Time),
    (∀ k, sender (k + 1) = shifted (sender k)) →
    (∀ k, t (k + 1) = (t k).takes (now k) ((sender k).getLsbD 14)) → (t 0).state = .search → (t 0).windowBits + 15 < 128 →
    ∀ k, 15 ≤ k ∨ (t 0).checker = sender 0 → (t k).checker = sender k) ∧
  (∀ (t : TestRec) (now : Time) (b : Bool) (h h' : BitVec 15), t.state = .search →
    h' = h <<< 1 ||| (BitVec.ofBool b).setWidth 15 →
    t.checker = shifted^[15] h → (t.takes now b).checker = shifted^[15] h') ∧
  (∀ (t : TestRec) (now : Time) (b : Bool) (e : Nat),
    e = t.windowErrors + (if b = t.checker.getLsbD 14 then 0 else 1) →
    (t.state = .search → ∀ next,
      next = { t with checker := if b = t.checker.getLsbD 14 then shifted t.checker else shifted t.checker ^^^ 0b11#15 } →
      (t.windowBits + 1 < 128 → t.takes now b = { next with windowBits := t.windowBits + 1, windowErrors := e }) ∧
      (128 ≤ t.windowBits + 1 → 4 ≤ e → t.takes now b = { next with windowBits := 0, windowErrors := 0 }) ∧
      (128 ≤ t.windowBits + 1 → e < 4 → t.takes now b = { next with
        windowBits := 0, windowErrors := 0, state := .synced, firstSync := some (t.firstSync.getD now) })) ∧
    (t.state = .synced → ∀ next, next = { t with
        bits := min 4294967295 (t.bits + 1)
        errors := min 4294967295 (t.errors + (if b = t.checker.getLsbD 14 then 0 else 1))
        checker := shifted t.checker } →
      (t.windowBits + 1 < 128 → t.takes now b = { next with windowBits := t.windowBits + 1, windowErrors := e }) ∧
      (128 ≤ t.windowBits + 1 → e < 16 → t.takes now b = { next with windowBits := 0, windowErrors := 0 }) ∧
      (128 ≤ t.windowBits + 1 → 16 ≤ e → t.takes now b = { next with
        windowBits := 0, windowErrors := 0, state := .search, losses := min 65535 (t.losses + 1) })))

/-! ## Enrolment -/

/-- R98, R100, R101, R102, R103, R105, R108: a CAPABILITY burst on CH0. A quiet unit is ignored; a bound unit is
answered ENROL_REJECT(BOUND), and its slot, if it holds one, is freed. A unit without a slot takes the lowest-numbered free
one, and with none free is ignored. In LISTEN a consistent burst is counted, and the third resolves the level: with a level
the slot enters ACK_WAIT with an OFFER, and with none it is freed with ENROL_REJECT(NO_LEVEL); an inconsistent one begins the
count afresh. In ACK_WAIT the third acknowledging burst enters CONFIRM with the first CONFIRM, one without the flag keeps
the slot alive, and an inconsistent one returns it to LISTEN and withdraws its frames. In CONFIRM a burst is only heard.
`s1` is the state after the time last heard of a registered unit is refreshed (R118, R133). The resolved level is the highest
that is in the offered set and in the unit's; there is none where they have none in common, and for a LOCO_RC where it is not
L3. The effective channel set is the unit's set restricted to the channels in use, with CH0 added. That bits 1 to 7 of the
flags byte are ignored is the model's choice (log entry 32, DEDUCED). -/
def Obligations.CapabilityBurstsNegotiate : Prop :=
  (∀ (offered : BitVec 3) (w : Capability),
    (resolvedLevel offered w = none ↔
      offered &&& w.levels = 0 ∨ w.kind = .locoRc ∧ (offered &&& w.levels).getLsbD 2 = false) ∧
    ∀ (l : Level) (n : Nat), n = (match l with | .l1 => 0 | .l2 => 1 | .l3 => 2) →
      (resolvedLevel offered w = some l ↔
        (offered.getLsbD n = true ∧ w.levels.getLsbD n = true) ∧
        (∀ k, n < k → ¬ (offered.getLsbD k = true ∧ w.levels.getLsbD k = true)) ∧ (w.kind = .locoRc → l = .l3))) ∧
  (∀ (w : Capability) (s : State) (ch : Chan),
    (effectiveSet s w).getLsbD ch.val = true ↔ ch = 0 ∨ w.chans.getLsbD ch.val = true ∧ (s.chan ch).inUse = true) ∧
  ∀ (p : Port) (src : UnitId) (k ls cs fl : Byte) (kind : UnitKind) (w : Capability) (s s1 : State) (queue0 : List Frame),
    s.resetLine = false →
    s.part = .service → (s.port p).state = .active → (s.port p).channel = some 0 → isUnitId src = true →
    k.toNat = (match kind with | .handset => 0 | .loco => 1 | .locoRc => 2) →
    w = { unit := src, kind := kind, levels := ls.setWidth 3, chans := cs.setWidth 6, ack := fl.getLsbD 0 } →
    s1 = refresh src s → queue0 = (s.frames 0).filter (fun f => !f.isEnrolmentOf src) →
    ((∃ q ∈ s.quiet, q.unit = src) → exec (.capability p src k ls cs fl) s = .next (settle s1)) ∧
    ((∀ q ∈ s.quiet, q.unit ≠ src) → (s.bindingOf (.unit src)).isSome = true →
      ((∀ j sl, s.slot j = some sl → sl.unit ≠ src) →
        exec (.capability p src k ls cs fl) s = .next (settle (placeFrame 0 ⟨src, .enrolReject .bound⟩ s1))) ∧
      ∀ i sl, s.slot i = some sl → sl.unit = src → (∀ j sl', s.slot j = some sl' → sl'.unit = src → j = i) →
        exec (.capability p src k ls cs fl) s = .next (settle (broadcast (.enrolFailed src .bound sl.phase)
          (placeFrame 0 ⟨src, .enrolReject .bound⟩ { s1 with
            slots := s.slots.put i none, downlink := s.downlink.put 0 queue0 })))) ∧
    ((∀ q ∈ s.quiet, q.unit ≠ src) → s.bindingOf (.unit src) = none →
      ((∀ i, ∃ sl, s.slot i = some sl ∧ sl.unit ≠ src) →
        exec (.capability p src k ls cs fl) s = .next (settle s1)) ∧
      (∀ i, (∀ j sl, s.slot j = some sl → sl.unit ≠ src) → s.slot i = none →
        (∀ j : SlotIx, j.val < i.val → (s.slot j).isSome = true) →
        exec (.capability p src k ls cs fl) s = .next (settle { s1 with
          slots := s.slots.put i (some {
            unit := src, word := w, phase := .listen, consistent := 1, acked := 0, slotStart := s.time
            phaseStart := s.time, lastBurst := s.time, level := none, chans := none, stuck := false, confirms := 0
            offers := 0 }) })) ∧
      ∀ i sl, s.slot i = some sl → sl.unit = src → (∀ j sl', s.slot j = some sl' → sl'.unit = src → j = i) →
        (sl.phase = .listen → w.agrees sl.word = false →
          exec (.capability p src k ls cs fl) s = .next (settle { s1 with
            slots := s.slots.put i (some { sl with lastBurst := s.time, word := w, consistent := 1 }) })) ∧
        (sl.phase = .listen → w.agrees sl.word = true → sl.consistent ≠ 2 →
          exec (.capability p src k ls cs fl) s = .next (settle { s1 with
            slots := s.slots.put i (some { sl with lastBurst := s.time, consistent := sl.consistent + 1 }) })) ∧
        (∀ l set, sl.phase = .listen → w.agrees sl.word = true → sl.consistent = 2 →
          resolvedLevel s.globals.levels sl.word = some l → set = effectiveSet s sl.word →
          exec (.capability p src k ls cs fl) s = .next (settle (placeFrame 0 ⟨src, .offer l set⟩ { s1 with
            slots := s.slots.put i (some { sl with
              lastBurst := s.time, consistent := 3, phase := .ackWait, phaseStart := s.time, level := some l
              chans := some set, acked := 0, offers := 0 }) }))) ∧
        (sl.phase = .listen → w.agrees sl.word = true → sl.consistent = 2 →
          resolvedLevel s.globals.levels sl.word = none →
          exec (.capability p src k ls cs fl) s = .next (settle (broadcast (.enrolFailed src .noLevel .listen)
            (placeFrame 0 ⟨src, .enrolReject .noLevel⟩ { s1 with
              slots := s.slots.put i none, quiet := enterQuiet s.time src s.quiet
              downlink := s.downlink.put 0 queue0 })))) ∧
        (sl.phase = .ackWait → w.agrees sl.word = false →
          exec (.capability p src k ls cs fl) s = .next (settle { s1 with
            downlink := s.downlink.put 0 queue0
            slots := s.slots.put i (some { sl with
              lastBurst := s.time, phase := .listen, phaseStart := s.time, word := w, consistent := 1, acked := 0
              level := none, chans := none }) })) ∧
        (sl.phase = .ackWait → w.agrees sl.word = true → w.ack = false →
          exec (.capability p src k ls cs fl) s = .next (settle { s1 with
            slots := s.slots.put i (some { sl with lastBurst := s.time }) })) ∧
        (sl.phase = .ackWait → w.agrees sl.word = true → w.ack = true → sl.acked ≠ 2 →
          exec (.capability p src k ls cs fl) s = .next (settle { s1 with
            slots := s.slots.put i (some { sl with lastBurst := s.time, acked := sl.acked + 1 }) })) ∧
        (∀ l set, sl.phase = .ackWait → w.agrees sl.word = true → w.ack = true → sl.acked = 2 → sl.level = some l →
          sl.chans = some set →
          exec (.capability p src k ls cs fl) s = .next (settle (placeFrame 0 ⟨src, .confirm l set 1⟩ { s1 with
            slots := s.slots.put i (some { sl with
              lastBurst := s.time, acked := 3, phase := .confirm, phaseStart := s.time, confirms := 1 }) }))) ∧
        (sl.phase = .confirm →
          exec (.capability p src k ls cs fl) s = .next (settle { s1 with
            slots := s.slots.put i (some { sl with lastBurst := s.time }) })))

/-- R103 to R108, R111, R119: the timers of a slot (OFFER every 200 ms in ACK_WAIT, CONFIRMs 2 to 4 in CONFIRM, the
lapse at 1000 ms, the stuck mark at 1500 ms, the failure at 6000 ms), of the quiet list, and of an unbound record,
which ages out: its unit's claims on every channel are cancelled with UNREGISTERED, and a hang that names the unit ends. A
unit enters the quiet list with an expiry 1500 ms ahead: its own entry's expiry is replaced (where the entry stands, log entry
15), or it is added to a list of fewer than 8, or at a full list it displaces the entry with the earliest expiry, of several
the one that entered first. -/
def Obligations.EnrolmentTimers : Prop :=
  (∀ (now : Time) (x : UnitId) (qs : List Quiet),
    Enters (·.unit) (·.expiry) ⟨x, now + 1500⟩ qs (enterQuiet now x qs)) ∧
  (∀ (i : SlotIx) (sl : Slot) (s : State), s.resetLine = false → s.slot i = some sl →
    (∀ l set, sl.phase = .ackWait → sl.level = some l → sl.chans = some set →
      reached s.time (sl.phaseStart + BitVec.ofNat 32 (200 * (sl.offers + 1))) = true →
      exec (.offerRepetition i) s = .next (settle (placeFrame 0 ⟨sl.unit, .offer l set⟩
        { s with slots := s.slots.put i (some { sl with offers := sl.offers + 1 }) }))) ∧
    (∀ l set, sl.phase = .confirm → sl.confirms < 4 → sl.level = some l → sl.chans = some set →
      reached s.time (sl.phaseStart + BitVec.ofNat 32 (200 * sl.confirms)) = true →
      exec (.confirmSpacing i) s = .next (settle (placeFrame 0 ⟨sl.unit, .confirm l set (sl.confirms + 1)⟩
        { s with slots := s.slots.put i (some { sl with confirms := sl.confirms + 1 }) }))) ∧
    (sl.phase = .ackWait → sl.stuck = false → reached s.time (sl.phaseStart + 1500) = true →
      exec (.stuckMark i) s = .next (settle (broadcast (.enrolStuck i sl.unit sl.level sl.acked)
        { s with
          slots := s.slots.put i (some { sl with stuck := true })
          links := s.links.each (fun l => { l with latches := { l.latches with enrolStuckSeen := true } }) }))) ∧
    (sl.phase ≠ .confirm → reached s.time (sl.lastBurst + 1000) = true →
      exec (.lapseTimer i) s = .next (settle { s with
        slots := s.slots.put i none
        quiet := enterQuiet s.time sl.unit s.quiet
        downlink := s.downlink.put 0 ((s.frames 0).filter (fun f => !f.isEnrolmentOf sl.unit)) })) ∧
    (reached s.time (sl.slotStart + 6000) = true →
      ∃ u, exec (.failureTimer i) s = .next (settle u) ∧
        u = { s with slots := s.slots.put i none, quiet := enterQuiet s.time sl.unit s.quiet, downlink := u.downlink
                     links := u.links } ∧
        ∀ c, c ≠ 0 → u.frames c = s.frames c)) ∧
  (∀ (x : UnitId) (s : State), s.resetLine = false →
    exec (.quietListExpiry x) s = .next (settle { s with
      quiet := s.quiet.filter (fun q => !(q.unit == x && reached s.time q.expiry)) })) ∧
  ∀ (x : UnitId) (r : UnitRec) (s : State), s.resetLine = false → s.unit x = some r → r.binding = none →
    60000 * s.globals.ageOut ≤ min (elapsed s.time r.lastHeard) (elapsed s.time r.unboundSince) →
    ∃ u, exec (.agingExpiry x) s = .next (settle u) ∧
      u = { s with
        units := s.units.filter (fun y => y.unit ≠ x), floors := u.floors, downlink := u.downlink
        generators := u.generators, links := u.links, ports := u.ports, sent := u.sent } ∧
      (OneClaim s → ∀ ch, Unclaimed ch (.unit x) u ∧
        (takesFrames (s.floor ch) = true → (s.frames ch).length < 16 →
          (∀ g, (s.floor ch).grant = some g → g.holder = .unit x → ⟨x, .revoke ch .unregistered⟩ ∈ u.frames ch) ∧
          ∀ e ∈ (s.floor ch).queue, e.party = .unit x → ⟨x, .deny ch .unregistered⟩ ∈ u.frames ch)) ∧
      ∀ ch h, GrantLaw s → (s.floor ch).effective = .hang → (s.floor ch).hang = some h → h.reservation = .party (.unit x) →
        (u.floor ch).hang = none

/-! ## What is discarded -/

/-- R133, R178, R196: an air frame of no kind or of the wrong length and a port message of no type or of the wrong
length are discarded, in every state of the port and of the part; a code that is no command is refused. -/
def Obligations.UndefinedThingsChangeNothing : Prop :=
  ∀ (p : Port) (bytes : List Byte) (link : Console) (code : Byte) (s : State),
    (s.resetLine = false → exec (.unknownAirFrame p bytes) s = .next (settle s) ∧
      exec (.undefinedPortMessage p bytes) s = .next (settle s)) ∧
    (Listening link s →
      exec (.unknownCommand link code) s = answeredWith link code (.refused .unknownCommand 0) (hunt link s))

/-! ## Invariants: what every step keeps, from every state that meets it -/

/-- R41, R53, R110, R115, R122, R167, R177, R180, R182: nothing exceeds its room, an open frame has room for its
response, and no transmitter is idle while something waits. -/
def Obligations.EveryStepKeepsTheRooms : Prop :=
  ∀ s t : State, WithinRoom s → FramesHaveRoom s → NoIdleTransmitter s → step s = .next t →
    WithinRoom t ∧ FramesHaveRoom t ∧ NoIdleTransmitter t

/-- R26, R34: a grant record exists exactly while the floor, or its held state, is GRANTED, and the gate is open for
its holder. -/
def Obligations.EveryStepKeepsTheGrantLaw : Prop :=
  ∀ s t : State, GrantLaw s → GateLaw s → step s = .next t → GrantLaw t ∧ GateLaw t

/-- R54: one entry for a party in a queue, and none for the holder. -/
def Obligations.EveryStepKeepsOneClaim : Prop :=
  ∀ s t : State, OneClaim s → step s = .next t → OneClaim t

/-- R80, R190, R191: parameters stay in their ranges, and the fault count of a move at or below its limit, at it only
in a hold with suspension pending, in SUSPENDED or in RELEASING. -/
def Obligations.EveryStepKeepsTheLimits : Prop :=
  ∀ s t : State, ConfigLaw s → FaultCountLaw s → step s = .next t → ConfigLaw t ∧ FaultCountLaw t

/-- R2, R115, R116: no unit has two records, and no register time is older than 2^31 - 1 ms; the members of moves and
the bindings of the register agree. -/
def Obligations.EveryStepKeepsTheRegister : Prop :=
  (
    ∀ s t : State, RegisterLaw s → step s = .next t → RegisterLaw t) ∧
  (
    ∀ s t : State, RegisterLaw s → BindingLaw s → step s = .next t → BindingLaw t)

/-- R25, R138, R143, R145, R147: a channel is carried by exactly one ACTIVE port, is in TRANSFER exactly while one
port tunes for it, and is swapped only while carried. -/
def Obligations.EveryStepKeepsTheCarriers : Prop :=
  ∀ s t : State, GrantLaw s → CarrierLaw s → step s = .next t → GrantLaw t ∧ CarrierLaw t

/-- R153: tests run on ports in TEST, and only there. -/
def Obligations.EveryStepKeepsTheTests : Prop :=
  ∀ s t : State, TestLaw s → step s = .next t → TestLaw t

/-- The state after power-on meets every invariant above. -/
def Obligations.ResetMeetsTheInvariants : Prop :=
  WithinRoom State.reset ∧ FramesHaveRoom State.reset ∧ NoIdleTransmitter State.reset ∧ GrantLaw State.reset ∧
  GateLaw State.reset ∧ OneClaim State.reset ∧ ConfigLaw State.reset ∧ FaultCountLaw State.reset ∧
  RegisterLaw State.reset ∧ BindingLaw State.reset ∧ TestLaw State.reset ∧ CarrierLaw State.reset
end

