-- ==== Sys2Proof/Laws/Checker.lean ====
section
/-! SUPPORT. Laws/Checker.lean: what the checker's register holds in SEARCH (R154, R156), and why the received bit
cannot stand in its stage 1 (log entry 27). -/

set_option Elab.async false

namespace Sys2Proof.Machine

theorem advance_getLsbD_zero (r : BitVec 15) : (advance r).getLsbD 0 = feedback r := by
  simp [advance, shiftIn]

theorem advance_getLsbD_succ (r : BitVec 15) (j : Nat) (h : j < 14) :
    (advance r).getLsbD (j + 1) = r.getLsbD j := by
  simp [advance, shiftIn]; omega

theorem shiftIn_getLsbD_zero (b : Bool) (r : BitVec 15) : (shiftIn b r).getLsbD 0 = b := by
  simp [shiftIn]

theorem shiftIn_getLsbD_succ (b : Bool) (r : BitVec 15) (j : Nat) (h : j < 14) :
    (shiftIn b r).getLsbD (j + 1) = r.getLsbD j := by
  simp [shiftIn]; omega

theorem retreat_getLsbD_last (r : BitVec 15) : (retreat r).getLsbD 14 = (r.getLsbD 0 ^^ r.getLsbD 14) := by
  simp [retreat]

theorem retreat_getLsbD (r : BitVec 15) (j : Nat) (h : j < 14) : (retreat r).getLsbD j = r.getLsbD (j + 1) := by
  have k : ¬ 14 ≤ j := by omega
  simp [retreat, h, Nat.add_comm]

/-- A shift of the generator can be taken back. -/
theorem advance_retreat (r : BitVec 15) : advance (retreat r) = r := by
  apply BitVec.eq_of_getLsbD_eq
  intro j hj
  rcases j with _ | j
  · rw [advance_getLsbD_zero, feedback, retreat_getLsbD_last, retreat_getLsbD r 13 (by decide)]
    cases r.getLsbD 0 <;> cases r.getLsbD 14 <;> rfl
  · rw [advance_getLsbD_succ _ _ (by omega), retreat_getLsbD _ _ (by omega)]

theorem retreat_advance (r : BitVec 15) : retreat (advance r) = r := by
  apply BitVec.eq_of_getLsbD_eq
  intro j hj
  rcases Nat.lt_or_ge j 14 with h | h
  · rw [retreat_getLsbD _ _ h, advance_getLsbD_succ _ _ h]
  · obtain rfl : j = 14 := by omega
    rw [retreat_getLsbD_last, advance_getLsbD_zero, advance_getLsbD_succ _ _ (by decide), feedback]
    cases r.getLsbD 13 <;> cases r.getLsbD 14 <;> rfl

theorem sendersState_iterate (h : BitVec 15) : sendersState h = advance^[15] h := rfl

theorem sendersState_bitsTaken (r : BitVec 15) : sendersState (bitsTaken r) = r := by
  simp only [sendersState, bitsTaken, Nat.repeat, advance_retreat]

theorem bitsTaken_sendersState (h : BitVec 15) : bitsTaken (sendersState h) = h := by
  simp only [sendersState, bitsTaken, Nat.repeat, retreat_advance]

/-- Fifteen shifts of the generator, in one. -/
theorem sendersState_eq (h : BitVec 15) : sendersState h = h ^^^ advance h := by
  apply BitVec.eq_of_getLsbD_eq
  intro j hj
  simp only [sendersState, BitVec.getLsbD_xor, Nat.repeat]
  interval_cases j <;>
    simp (disch := decide) only [advance_getLsbD_zero, advance_getLsbD_succ, feedback, Bool.xor_comm]

/-- In a register that holds the sender's state a received bit enters the bits sent at stage 1. -/
theorem fed_sendersState (b : Bool) (h : BitVec 15) : fed b (sendersState h) = sendersState (shiftIn b h) := by
  rw [fed, bitsTaken_sendersState]

/-- What a received bit does, said on the register: it shifts as the generator does, and a bit that was not predicted inverts
stages 1 and 2 as well. -/
theorem fed_eq (b : Bool) (r : BitVec 15) :
    fed b r = if b = prediction r then advance r else advance r ^^^ 0b11#15 := by
  obtain ⟨h, rfl⟩ : ∃ h, r = sendersState h := ⟨_, (sendersState_bitsTaken r).symm⟩
  have flips : (if b = prediction (sendersState h) then advance (sendersState h) else advance (sendersState h) ^^^ 0b11#15) =
      advance (sendersState h) ^^^ (if b = prediction (sendersState h) then 0#15 else 0b11#15) := by
    split <;> simp
  rw [fed_sendersState, flips]
  apply BitVec.eq_of_getLsbD_eq
  intro j hj
  have both : (if b = prediction (sendersState h) then 0#15 else 0b11#15).getLsbD j =
      (decide (j < 2) && (b ^^ (sendersState h).getLsbD 14)) := by
    unfold prediction stage15
    cases b <;> cases (sendersState h).getLsbD 14 <;> interval_cases j <;> rfl
  rw [BitVec.getLsbD_xor, both, sendersState_eq, sendersState_eq]
  interval_cases j <;>
    simp (disch := decide) only [BitVec.getLsbD_xor, feedback, advance_getLsbD_zero,
      advance_getLsbD_succ, shiftIn_getLsbD_zero, shiftIn_getLsbD_succ, Nat.reduceLT, decide_true, decide_false,
      Bool.true_and, Bool.false_and, Bool.xor_false] <;>
    generalize h.getLsbD 14 = e <;> generalize h.getLsbD 13 = d <;> generalize h.getLsbD 12 = c <;>
    cases b <;> cases c <;> cases d <;> cases e <;> simp

/-- No rule of one register has all that R156 says of it: a received bit that stands in stage 1 (`literal`) and a register in
the sender's state that goes on with the sender (`aligned`), whose stage 15 the received bit then is. It fails at the first bit
of a test, where both registers hold ones: the bit is a one, and the sender's stage 1 becomes a zero. -/
theorem no_literal_checker (next : Bool → BitVec 15 → BitVec 15) (literal : ∀ b r, (next b r).getLsbD 0 = b)
    (aligned : ∀ r, next (stage15 r) r = advance r) : False := by
  have h := literal (stage15 (BitVec.allOnes 15)) (BitVec.allOnes 15)
  rw [aligned] at h
  exact absurd h (by decide)

/-- A register that the received bits enter at stage 1, and that shifts otherwise, shows in stage 15 the bit sent fifteen bits
before, whatever it held: it does not predict the next one. -/
theorem literal_feed_lags (r : BitVec 15) (bits : Fin 15 → Bool) :
    stage15 ((List.ofFn bits).foldl (fun r b => shiftIn b r) r) = bits 0 := by
  simp (disch := decide) [List.ofFn_succ, stage15, shiftIn_getLsbD_succ, shiftIn_getLsbD_zero, -BitVec.getLsbD_eq_getElem]

end Sys2Proof.Machine
end

