-- ==== Sys2Proof/Laws/Tab.lean ====
section
/-! SUPPORT. Laws/Tab.lean: the laws of the fixed-size table: what a record reads as after a record is replaced, every
record is changed, or a table is filled. -/

namespace Sys2Proof

set_option Elab.async false

variable {n : Nat} {α β : Type}

@[simp] theorem Tab.get_put_self (t : Tab n α) (i : Fin n) (x : α) : (t.put i x).get i = x := by
  simp [Tab.get, Tab.put]

@[simp] theorem Tab.get_put_ne (t : Tab n α) {i j : Fin n} (x : α) (h : j ≠ i) : (t.put i x).get j = t.get j := by
  simp only [Tab.get, Tab.put]
  exact Vector.getElem_set_ne i.isLt j.isLt (fun e => h (Fin.ext e.symm))

theorem Tab.get_put (t : Tab n α) (i j : Fin n) (x : α) : (t.put i x).get j = if j = i then x else t.get j := by
  by_cases h : j = i <;> simp [h]

@[simp] theorem Tab.put_get (t : Tab n α) (i : Fin n) : t.put i (t.get i) = t := by simp [Tab.put, Tab.get]

@[simp] theorem Tab.put_put (t : Tab n α) (i : Fin n) (x y : α) : (t.put i x).put i y = t.put i y := by
  simp [Tab.put]

@[simp] theorem Tab.get_fill (x : α) (i : Fin n) : (Tab.fill n x).get i = x := by simp [Tab.get, Tab.fill]

@[simp] theorem Tab.get_each (f : α → β) (t : Tab n α) (i : Fin n) : (Tab.each f t).get i = f (t.get i) := by
  simp [Tab.get, Tab.each]

/-- Tables with the same records are the same. -/
theorem Tab.ext {t u : Tab n α} (h : ∀ i, t.get i = u.get i) : t = u := by
  refine Vector.ext fun i hi => ?_
  exact h ⟨i, hi⟩

@[simp] theorem Tab.each_id (t : Tab n α) : Tab.each (fun x => x) t = t := Tab.ext (by simp)

end Sys2Proof
end

