-- ==== Sys2Proof/Laws/State.lean ====
section
/-! SUPPORT. Laws/State.lean: for each primitive update, one lemma a field (true by `rfl`) and one a record, so that no proof
unfolds an update of the state. -/

namespace Sys2Proof.Machine

set_option Elab.async false

/-- Two states with the same fields are the same. -/
theorem State.eq_of_fields {s t : State} (htime : s.time = t.time) (hpart : s.part = t.part) (hresetLine : s.resetLine = t.resetLine) (hchannels : s.channels = t.channels) (hglobals : s.globals = t.globals) (hmoves : s.moves = t.moves) (hfloors : s.floors = t.floors) (hdownlink : s.downlink = t.downlink) (hunits : s.units = t.units) (hslots : s.slots = t.slots) (hquiet : s.quiet = t.quiet) (hports : s.ports = t.ports) (htests : s.tests = t.tests) (hsequences : s.sequences = t.sequences) (hpatterns : s.patterns = t.patterns) (hgenerators : s.generators = t.generators) (hlinks : s.links = t.links) (hsent : s.sent = t.sent) (hpending : s.pending = t.pending) : s = t := by
  cases s; cases t; simp_all

/-! ## The records of a state -/

theorem State.floor_congr {s t : State} (h : s.floors = t.floors) (ch : Chan) : s.floor ch = t.floor ch := by
  simp only [State.floor, h]
theorem State.port_congr {s t : State} (h : s.ports = t.ports) (p : Port) : s.port p = t.port p := by
  simp only [State.port, h]
theorem State.chan_congr {s t : State} (h : s.channels = t.channels) (ch : Chan) : s.chan ch = t.chan ch := by
  simp only [State.chan, h]
theorem State.move_congr {s t : State} (h : s.moves = t.moves) (i : MoveIx) : s.move i = t.move i := by
  simp only [State.move, h]
theorem State.link_congr {s t : State} (h : s.links = t.links) (c : Console) : s.link c = t.link c := by
  simp only [State.link, h]
theorem State.slot_congr {s t : State} (h : s.slots = t.slots) (i : SlotIx) : s.slot i = t.slot i := by
  simp only [State.slot, h]
theorem State.testOf_congr {s t : State} (h : s.tests = t.tests) (p : Port) : s.testOf p = t.testOf p := by
  simp only [State.testOf, h]
theorem State.generator_congr {s t : State} (h : s.generators = t.generators) (ch : Chan) : s.generator ch = t.generator ch := by
  simp only [State.generator, h]
theorem State.frames_congr {s t : State} (h : s.downlink = t.downlink) (ch : Chan) : s.frames ch = t.frames ch := by
  simp only [State.frames, h]
theorem State.unit_congr {s t : State} (h : s.units = t.units) (u : UnitId) : s.unit u = t.unit u := by
  simp only [State.unit, h]
theorem State.bindingOf_congr {s t : State} (h : s.units = t.units) (p : Party) : s.bindingOf p = t.bindingOf p := by
  cases p <;> simp only [State.bindingOf, State.unit, h]
theorem State.currentOf_congr {s t : State} (h : s.units = t.units) (u : UnitId) : s.currentOf u = t.currentOf u := by
  simp only [State.currentOf, State.unit, h]
theorem State.kindOf_congr {s t : State} (h : s.units = t.units) (u : UnitId) : s.kindOf u = t.kindOf u := by
  simp only [State.kindOf, State.unit, h]
theorem State.carrier_congr {s t : State} (h : s.ports = t.ports) (ch : Chan) : s.carrier ch = t.carrier ch := by
  simp only [State.carrier, State.port, h]
theorem State.carriedBy_congr {s t : State} (h : s.ports = t.ports) (p : Port) : s.carriedBy p = t.carriedBy p := by
  unfold State.carriedBy; rw [State.port_congr h p]

/-! ## setFloor -/

@[simp] theorem setFloor_time (ch : Chan) (f : Floor) (s : State) : (setFloor ch f s).time = s.time := rfl
@[simp] theorem setFloor_part (ch : Chan) (f : Floor) (s : State) : (setFloor ch f s).part = s.part := rfl
@[simp] theorem setFloor_resetLine (ch : Chan) (f : Floor) (s : State) : (setFloor ch f s).resetLine = s.resetLine := rfl
@[simp] theorem setFloor_channels (ch : Chan) (f : Floor) (s : State) : (setFloor ch f s).channels = s.channels := rfl
@[simp] theorem setFloor_globals (ch : Chan) (f : Floor) (s : State) : (setFloor ch f s).globals = s.globals := rfl
@[simp] theorem setFloor_moves (ch : Chan) (f : Floor) (s : State) : (setFloor ch f s).moves = s.moves := rfl
@[simp] theorem setFloor_downlink (ch : Chan) (f : Floor) (s : State) : (setFloor ch f s).downlink = s.downlink := rfl
@[simp] theorem setFloor_units (ch : Chan) (f : Floor) (s : State) : (setFloor ch f s).units = s.units := rfl
@[simp] theorem setFloor_slots (ch : Chan) (f : Floor) (s : State) : (setFloor ch f s).slots = s.slots := rfl
@[simp] theorem setFloor_quiet (ch : Chan) (f : Floor) (s : State) : (setFloor ch f s).quiet = s.quiet := rfl
@[simp] theorem setFloor_ports (ch : Chan) (f : Floor) (s : State) : (setFloor ch f s).ports = s.ports := rfl
@[simp] theorem setFloor_tests (ch : Chan) (f : Floor) (s : State) : (setFloor ch f s).tests = s.tests := rfl
@[simp] theorem setFloor_sequences (ch : Chan) (f : Floor) (s : State) : (setFloor ch f s).sequences = s.sequences := rfl
@[simp] theorem setFloor_patterns (ch : Chan) (f : Floor) (s : State) : (setFloor ch f s).patterns = s.patterns := rfl
@[simp] theorem setFloor_generators (ch : Chan) (f : Floor) (s : State) : (setFloor ch f s).generators = s.generators := rfl
@[simp] theorem setFloor_links (ch : Chan) (f : Floor) (s : State) : (setFloor ch f s).links = s.links := rfl
@[simp] theorem setFloor_sent (ch : Chan) (f : Floor) (s : State) : (setFloor ch f s).sent = s.sent := rfl
@[simp] theorem setFloor_pending (ch : Chan) (f : Floor) (s : State) : (setFloor ch f s).pending = s.pending := rfl
@[simp] theorem setFloor_port (ch : Chan) (f : Floor) (s : State) (x : Port) : (setFloor ch f s).port x = s.port x := rfl
@[simp] theorem setFloor_chan (ch : Chan) (f : Floor) (s : State) (x : Chan) : (setFloor ch f s).chan x = s.chan x := rfl
@[simp] theorem setFloor_move (ch : Chan) (f : Floor) (s : State) (x : MoveIx) : (setFloor ch f s).move x = s.move x := rfl
@[simp] theorem setFloor_link (ch : Chan) (f : Floor) (s : State) (x : Console) : (setFloor ch f s).link x = s.link x := rfl
@[simp] theorem setFloor_slot (ch : Chan) (f : Floor) (s : State) (x : SlotIx) : (setFloor ch f s).slot x = s.slot x := rfl
@[simp] theorem setFloor_testOf (ch : Chan) (f : Floor) (s : State) (x : Port) : (setFloor ch f s).testOf x = s.testOf x := rfl
@[simp] theorem setFloor_generator (ch : Chan) (f : Floor) (s : State) (x : Chan) : (setFloor ch f s).generator x = s.generator x := rfl
@[simp] theorem setFloor_frames (ch : Chan) (f : Floor) (s : State) (x : Chan) : (setFloor ch f s).frames x = s.frames x := rfl
@[simp] theorem setFloor_unit (ch : Chan) (f : Floor) (s : State) (x : UnitId) : (setFloor ch f s).unit x = s.unit x := rfl
@[simp] theorem setFloor_bindingOf (ch : Chan) (f : Floor) (s : State) (x : Party) : (setFloor ch f s).bindingOf x = s.bindingOf x := rfl
@[simp] theorem setFloor_currentOf (ch : Chan) (f : Floor) (s : State) (x : UnitId) : (setFloor ch f s).currentOf x = s.currentOf x := rfl
@[simp] theorem setFloor_kindOf (ch : Chan) (f : Floor) (s : State) (x : UnitId) : (setFloor ch f s).kindOf x = s.kindOf x := rfl
@[simp] theorem setFloor_carrier (ch : Chan) (f : Floor) (s : State) (x : Chan) : (setFloor ch f s).carrier x = s.carrier x := rfl
@[simp] theorem setFloor_carriedBy (ch : Chan) (f : Floor) (s : State) (x : Port) : (setFloor ch f s).carriedBy x = s.carriedBy x := rfl
@[simp] theorem setFloor_floor_self (ch : Chan) (f : Floor) (s : State) : (setFloor ch f s).floor ch = f := by
  simp [setFloor, State.floor]
@[simp] theorem setFloor_floor_ne (ch : Chan) (f : Floor) (s : State) {x : Chan} (h : x ≠ ch) : (setFloor ch f s).floor x = s.floor x := by
  simp [setFloor, State.floor, h]
theorem setFloor_floor (ch : Chan) (f : Floor) (s : State) (x : Chan) : (setFloor ch f s).floor x = if x = ch then f else s.floor x := by
  by_cases h : x = ch <;> simp [setFloor, State.floor, h]

/-! ## setPort -/

@[simp] theorem setPort_time (p : Port) (r : PortRec) (s : State) : (setPort p r s).time = s.time := rfl
@[simp] theorem setPort_part (p : Port) (r : PortRec) (s : State) : (setPort p r s).part = s.part := rfl
@[simp] theorem setPort_resetLine (p : Port) (r : PortRec) (s : State) : (setPort p r s).resetLine = s.resetLine := rfl
@[simp] theorem setPort_channels (p : Port) (r : PortRec) (s : State) : (setPort p r s).channels = s.channels := rfl
@[simp] theorem setPort_globals (p : Port) (r : PortRec) (s : State) : (setPort p r s).globals = s.globals := rfl
@[simp] theorem setPort_moves (p : Port) (r : PortRec) (s : State) : (setPort p r s).moves = s.moves := rfl
@[simp] theorem setPort_floors (p : Port) (r : PortRec) (s : State) : (setPort p r s).floors = s.floors := rfl
@[simp] theorem setPort_downlink (p : Port) (r : PortRec) (s : State) : (setPort p r s).downlink = s.downlink := rfl
@[simp] theorem setPort_units (p : Port) (r : PortRec) (s : State) : (setPort p r s).units = s.units := rfl
@[simp] theorem setPort_slots (p : Port) (r : PortRec) (s : State) : (setPort p r s).slots = s.slots := rfl
@[simp] theorem setPort_quiet (p : Port) (r : PortRec) (s : State) : (setPort p r s).quiet = s.quiet := rfl
@[simp] theorem setPort_tests (p : Port) (r : PortRec) (s : State) : (setPort p r s).tests = s.tests := rfl
@[simp] theorem setPort_sequences (p : Port) (r : PortRec) (s : State) : (setPort p r s).sequences = s.sequences := rfl
@[simp] theorem setPort_patterns (p : Port) (r : PortRec) (s : State) : (setPort p r s).patterns = s.patterns := rfl
@[simp] theorem setPort_generators (p : Port) (r : PortRec) (s : State) : (setPort p r s).generators = s.generators := rfl
@[simp] theorem setPort_links (p : Port) (r : PortRec) (s : State) : (setPort p r s).links = s.links := rfl
@[simp] theorem setPort_sent (p : Port) (r : PortRec) (s : State) : (setPort p r s).sent = s.sent := rfl
@[simp] theorem setPort_pending (p : Port) (r : PortRec) (s : State) : (setPort p r s).pending = s.pending := rfl
@[simp] theorem setPort_floor (p : Port) (r : PortRec) (s : State) (x : Chan) : (setPort p r s).floor x = s.floor x := rfl
@[simp] theorem setPort_chan (p : Port) (r : PortRec) (s : State) (x : Chan) : (setPort p r s).chan x = s.chan x := rfl
@[simp] theorem setPort_move (p : Port) (r : PortRec) (s : State) (x : MoveIx) : (setPort p r s).move x = s.move x := rfl
@[simp] theorem setPort_link (p : Port) (r : PortRec) (s : State) (x : Console) : (setPort p r s).link x = s.link x := rfl
@[simp] theorem setPort_slot (p : Port) (r : PortRec) (s : State) (x : SlotIx) : (setPort p r s).slot x = s.slot x := rfl
@[simp] theorem setPort_testOf (p : Port) (r : PortRec) (s : State) (x : Port) : (setPort p r s).testOf x = s.testOf x := rfl
@[simp] theorem setPort_generator (p : Port) (r : PortRec) (s : State) (x : Chan) : (setPort p r s).generator x = s.generator x := rfl
@[simp] theorem setPort_frames (p : Port) (r : PortRec) (s : State) (x : Chan) : (setPort p r s).frames x = s.frames x := rfl
@[simp] theorem setPort_unit (p : Port) (r : PortRec) (s : State) (x : UnitId) : (setPort p r s).unit x = s.unit x := rfl
@[simp] theorem setPort_bindingOf (p : Port) (r : PortRec) (s : State) (x : Party) : (setPort p r s).bindingOf x = s.bindingOf x := rfl
@[simp] theorem setPort_currentOf (p : Port) (r : PortRec) (s : State) (x : UnitId) : (setPort p r s).currentOf x = s.currentOf x := rfl
@[simp] theorem setPort_kindOf (p : Port) (r : PortRec) (s : State) (x : UnitId) : (setPort p r s).kindOf x = s.kindOf x := rfl
@[simp] theorem setPort_port_self (p : Port) (r : PortRec) (s : State) : (setPort p r s).port p = r := by
  simp [setPort, State.port]
@[simp] theorem setPort_port_ne (p : Port) (r : PortRec) (s : State) {x : Port} (h : x ≠ p) : (setPort p r s).port x = s.port x := by
  simp [setPort, State.port, h]
theorem setPort_port (p : Port) (r : PortRec) (s : State) (x : Port) : (setPort p r s).port x = if x = p then r else s.port x := by
  by_cases h : x = p <;> simp [setPort, State.port, h]

/-! ## setMove -/

@[simp] theorem setMove_time (i : MoveIx) (m : Option Move) (s : State) : (setMove i m s).time = s.time := rfl
@[simp] theorem setMove_part (i : MoveIx) (m : Option Move) (s : State) : (setMove i m s).part = s.part := rfl
@[simp] theorem setMove_resetLine (i : MoveIx) (m : Option Move) (s : State) : (setMove i m s).resetLine = s.resetLine := rfl
@[simp] theorem setMove_channels (i : MoveIx) (m : Option Move) (s : State) : (setMove i m s).channels = s.channels := rfl
@[simp] theorem setMove_globals (i : MoveIx) (m : Option Move) (s : State) : (setMove i m s).globals = s.globals := rfl
@[simp] theorem setMove_floors (i : MoveIx) (m : Option Move) (s : State) : (setMove i m s).floors = s.floors := rfl
@[simp] theorem setMove_downlink (i : MoveIx) (m : Option Move) (s : State) : (setMove i m s).downlink = s.downlink := rfl
@[simp] theorem setMove_units (i : MoveIx) (m : Option Move) (s : State) : (setMove i m s).units = s.units := rfl
@[simp] theorem setMove_slots (i : MoveIx) (m : Option Move) (s : State) : (setMove i m s).slots = s.slots := rfl
@[simp] theorem setMove_quiet (i : MoveIx) (m : Option Move) (s : State) : (setMove i m s).quiet = s.quiet := rfl
@[simp] theorem setMove_ports (i : MoveIx) (m : Option Move) (s : State) : (setMove i m s).ports = s.ports := rfl
@[simp] theorem setMove_tests (i : MoveIx) (m : Option Move) (s : State) : (setMove i m s).tests = s.tests := rfl
@[simp] theorem setMove_sequences (i : MoveIx) (m : Option Move) (s : State) : (setMove i m s).sequences = s.sequences := rfl
@[simp] theorem setMove_patterns (i : MoveIx) (m : Option Move) (s : State) : (setMove i m s).patterns = s.patterns := rfl
@[simp] theorem setMove_generators (i : MoveIx) (m : Option Move) (s : State) : (setMove i m s).generators = s.generators := rfl
@[simp] theorem setMove_links (i : MoveIx) (m : Option Move) (s : State) : (setMove i m s).links = s.links := rfl
@[simp] theorem setMove_sent (i : MoveIx) (m : Option Move) (s : State) : (setMove i m s).sent = s.sent := rfl
@[simp] theorem setMove_pending (i : MoveIx) (m : Option Move) (s : State) : (setMove i m s).pending = s.pending := rfl
@[simp] theorem setMove_floor (i : MoveIx) (m : Option Move) (s : State) (x : Chan) : (setMove i m s).floor x = s.floor x := rfl
@[simp] theorem setMove_port (i : MoveIx) (m : Option Move) (s : State) (x : Port) : (setMove i m s).port x = s.port x := rfl
@[simp] theorem setMove_chan (i : MoveIx) (m : Option Move) (s : State) (x : Chan) : (setMove i m s).chan x = s.chan x := rfl
@[simp] theorem setMove_link (i : MoveIx) (m : Option Move) (s : State) (x : Console) : (setMove i m s).link x = s.link x := rfl
@[simp] theorem setMove_slot (i : MoveIx) (m : Option Move) (s : State) (x : SlotIx) : (setMove i m s).slot x = s.slot x := rfl
@[simp] theorem setMove_testOf (i : MoveIx) (m : Option Move) (s : State) (x : Port) : (setMove i m s).testOf x = s.testOf x := rfl
@[simp] theorem setMove_generator (i : MoveIx) (m : Option Move) (s : State) (x : Chan) : (setMove i m s).generator x = s.generator x := rfl
@[simp] theorem setMove_frames (i : MoveIx) (m : Option Move) (s : State) (x : Chan) : (setMove i m s).frames x = s.frames x := rfl
@[simp] theorem setMove_unit (i : MoveIx) (m : Option Move) (s : State) (x : UnitId) : (setMove i m s).unit x = s.unit x := rfl
@[simp] theorem setMove_bindingOf (i : MoveIx) (m : Option Move) (s : State) (x : Party) : (setMove i m s).bindingOf x = s.bindingOf x := rfl
@[simp] theorem setMove_currentOf (i : MoveIx) (m : Option Move) (s : State) (x : UnitId) : (setMove i m s).currentOf x = s.currentOf x := rfl
@[simp] theorem setMove_kindOf (i : MoveIx) (m : Option Move) (s : State) (x : UnitId) : (setMove i m s).kindOf x = s.kindOf x := rfl
@[simp] theorem setMove_carrier (i : MoveIx) (m : Option Move) (s : State) (x : Chan) : (setMove i m s).carrier x = s.carrier x := rfl
@[simp] theorem setMove_carriedBy (i : MoveIx) (m : Option Move) (s : State) (x : Port) : (setMove i m s).carriedBy x = s.carriedBy x := rfl
@[simp] theorem setMove_move_self (i : MoveIx) (m : Option Move) (s : State) : (setMove i m s).move i = m := by
  simp [setMove, State.move]
@[simp] theorem setMove_move_ne (i : MoveIx) (m : Option Move) (s : State) {x : MoveIx} (h : x ≠ i) : (setMove i m s).move x = s.move x := by
  simp [setMove, State.move, h]
theorem setMove_move (i : MoveIx) (m : Option Move) (s : State) (x : MoveIx) : (setMove i m s).move x = if x = i then m else s.move x := by
  by_cases h : x = i <;> simp [setMove, State.move, h]

/-! ## setLink -/

@[simp] theorem setLink_time (c : Console) (l : Link) (s : State) : (setLink c l s).time = s.time := rfl
@[simp] theorem setLink_part (c : Console) (l : Link) (s : State) : (setLink c l s).part = s.part := rfl
@[simp] theorem setLink_resetLine (c : Console) (l : Link) (s : State) : (setLink c l s).resetLine = s.resetLine := rfl
@[simp] theorem setLink_channels (c : Console) (l : Link) (s : State) : (setLink c l s).channels = s.channels := rfl
@[simp] theorem setLink_globals (c : Console) (l : Link) (s : State) : (setLink c l s).globals = s.globals := rfl
@[simp] theorem setLink_moves (c : Console) (l : Link) (s : State) : (setLink c l s).moves = s.moves := rfl
@[simp] theorem setLink_floors (c : Console) (l : Link) (s : State) : (setLink c l s).floors = s.floors := rfl
@[simp] theorem setLink_downlink (c : Console) (l : Link) (s : State) : (setLink c l s).downlink = s.downlink := rfl
@[simp] theorem setLink_units (c : Console) (l : Link) (s : State) : (setLink c l s).units = s.units := rfl
@[simp] theorem setLink_slots (c : Console) (l : Link) (s : State) : (setLink c l s).slots = s.slots := rfl
@[simp] theorem setLink_quiet (c : Console) (l : Link) (s : State) : (setLink c l s).quiet = s.quiet := rfl
@[simp] theorem setLink_ports (c : Console) (l : Link) (s : State) : (setLink c l s).ports = s.ports := rfl
@[simp] theorem setLink_tests (c : Console) (l : Link) (s : State) : (setLink c l s).tests = s.tests := rfl
@[simp] theorem setLink_sequences (c : Console) (l : Link) (s : State) : (setLink c l s).sequences = s.sequences := rfl
@[simp] theorem setLink_patterns (c : Console) (l : Link) (s : State) : (setLink c l s).patterns = s.patterns := rfl
@[simp] theorem setLink_generators (c : Console) (l : Link) (s : State) : (setLink c l s).generators = s.generators := rfl
@[simp] theorem setLink_sent (c : Console) (l : Link) (s : State) : (setLink c l s).sent = s.sent := rfl
@[simp] theorem setLink_pending (c : Console) (l : Link) (s : State) : (setLink c l s).pending = s.pending := rfl
@[simp] theorem setLink_floor (c : Console) (l : Link) (s : State) (x : Chan) : (setLink c l s).floor x = s.floor x := rfl
@[simp] theorem setLink_port (c : Console) (l : Link) (s : State) (x : Port) : (setLink c l s).port x = s.port x := rfl
@[simp] theorem setLink_chan (c : Console) (l : Link) (s : State) (x : Chan) : (setLink c l s).chan x = s.chan x := rfl
@[simp] theorem setLink_move (c : Console) (l : Link) (s : State) (x : MoveIx) : (setLink c l s).move x = s.move x := rfl
@[simp] theorem setLink_slot (c : Console) (l : Link) (s : State) (x : SlotIx) : (setLink c l s).slot x = s.slot x := rfl
@[simp] theorem setLink_testOf (c : Console) (l : Link) (s : State) (x : Port) : (setLink c l s).testOf x = s.testOf x := rfl
@[simp] theorem setLink_generator (c : Console) (l : Link) (s : State) (x : Chan) : (setLink c l s).generator x = s.generator x := rfl
@[simp] theorem setLink_frames (c : Console) (l : Link) (s : State) (x : Chan) : (setLink c l s).frames x = s.frames x := rfl
@[simp] theorem setLink_unit (c : Console) (l : Link) (s : State) (x : UnitId) : (setLink c l s).unit x = s.unit x := rfl
@[simp] theorem setLink_bindingOf (c : Console) (l : Link) (s : State) (x : Party) : (setLink c l s).bindingOf x = s.bindingOf x := rfl
@[simp] theorem setLink_currentOf (c : Console) (l : Link) (s : State) (x : UnitId) : (setLink c l s).currentOf x = s.currentOf x := rfl
@[simp] theorem setLink_kindOf (c : Console) (l : Link) (s : State) (x : UnitId) : (setLink c l s).kindOf x = s.kindOf x := rfl
@[simp] theorem setLink_carrier (c : Console) (l : Link) (s : State) (x : Chan) : (setLink c l s).carrier x = s.carrier x := rfl
@[simp] theorem setLink_carriedBy (c : Console) (l : Link) (s : State) (x : Port) : (setLink c l s).carriedBy x = s.carriedBy x := rfl
@[simp] theorem setLink_link_self (c : Console) (l : Link) (s : State) : (setLink c l s).link c = l := by
  simp [setLink, State.link]
@[simp] theorem setLink_link_ne (c : Console) (l : Link) (s : State) {x : Console} (h : x ≠ c) : (setLink c l s).link x = s.link x := by
  simp [setLink, State.link, h]
theorem setLink_link (c : Console) (l : Link) (s : State) (x : Console) : (setLink c l s).link x = if x = c then l else s.link x := by
  by_cases h : x = c <;> simp [setLink, State.link, h]

/-! ## setSlot -/

@[simp] theorem setSlot_time (i : SlotIx) (r : Option Slot) (s : State) : (setSlot i r s).time = s.time := rfl
@[simp] theorem setSlot_part (i : SlotIx) (r : Option Slot) (s : State) : (setSlot i r s).part = s.part := rfl
@[simp] theorem setSlot_resetLine (i : SlotIx) (r : Option Slot) (s : State) : (setSlot i r s).resetLine = s.resetLine := rfl
@[simp] theorem setSlot_channels (i : SlotIx) (r : Option Slot) (s : State) : (setSlot i r s).channels = s.channels := rfl
@[simp] theorem setSlot_globals (i : SlotIx) (r : Option Slot) (s : State) : (setSlot i r s).globals = s.globals := rfl
@[simp] theorem setSlot_moves (i : SlotIx) (r : Option Slot) (s : State) : (setSlot i r s).moves = s.moves := rfl
@[simp] theorem setSlot_floors (i : SlotIx) (r : Option Slot) (s : State) : (setSlot i r s).floors = s.floors := rfl
@[simp] theorem setSlot_downlink (i : SlotIx) (r : Option Slot) (s : State) : (setSlot i r s).downlink = s.downlink := rfl
@[simp] theorem setSlot_units (i : SlotIx) (r : Option Slot) (s : State) : (setSlot i r s).units = s.units := rfl
@[simp] theorem setSlot_quiet (i : SlotIx) (r : Option Slot) (s : State) : (setSlot i r s).quiet = s.quiet := rfl
@[simp] theorem setSlot_ports (i : SlotIx) (r : Option Slot) (s : State) : (setSlot i r s).ports = s.ports := rfl
@[simp] theorem setSlot_tests (i : SlotIx) (r : Option Slot) (s : State) : (setSlot i r s).tests = s.tests := rfl
@[simp] theorem setSlot_sequences (i : SlotIx) (r : Option Slot) (s : State) : (setSlot i r s).sequences = s.sequences := rfl
@[simp] theorem setSlot_patterns (i : SlotIx) (r : Option Slot) (s : State) : (setSlot i r s).patterns = s.patterns := rfl
@[simp] theorem setSlot_generators (i : SlotIx) (r : Option Slot) (s : State) : (setSlot i r s).generators = s.generators := rfl
@[simp] theorem setSlot_links (i : SlotIx) (r : Option Slot) (s : State) : (setSlot i r s).links = s.links := rfl
@[simp] theorem setSlot_sent (i : SlotIx) (r : Option Slot) (s : State) : (setSlot i r s).sent = s.sent := rfl
@[simp] theorem setSlot_pending (i : SlotIx) (r : Option Slot) (s : State) : (setSlot i r s).pending = s.pending := rfl
@[simp] theorem setSlot_floor (i : SlotIx) (r : Option Slot) (s : State) (x : Chan) : (setSlot i r s).floor x = s.floor x := rfl
@[simp] theorem setSlot_port (i : SlotIx) (r : Option Slot) (s : State) (x : Port) : (setSlot i r s).port x = s.port x := rfl
@[simp] theorem setSlot_chan (i : SlotIx) (r : Option Slot) (s : State) (x : Chan) : (setSlot i r s).chan x = s.chan x := rfl
@[simp] theorem setSlot_move (i : SlotIx) (r : Option Slot) (s : State) (x : MoveIx) : (setSlot i r s).move x = s.move x := rfl
@[simp] theorem setSlot_link (i : SlotIx) (r : Option Slot) (s : State) (x : Console) : (setSlot i r s).link x = s.link x := rfl
@[simp] theorem setSlot_testOf (i : SlotIx) (r : Option Slot) (s : State) (x : Port) : (setSlot i r s).testOf x = s.testOf x := rfl
@[simp] theorem setSlot_generator (i : SlotIx) (r : Option Slot) (s : State) (x : Chan) : (setSlot i r s).generator x = s.generator x := rfl
@[simp] theorem setSlot_frames (i : SlotIx) (r : Option Slot) (s : State) (x : Chan) : (setSlot i r s).frames x = s.frames x := rfl
@[simp] theorem setSlot_unit (i : SlotIx) (r : Option Slot) (s : State) (x : UnitId) : (setSlot i r s).unit x = s.unit x := rfl
@[simp] theorem setSlot_bindingOf (i : SlotIx) (r : Option Slot) (s : State) (x : Party) : (setSlot i r s).bindingOf x = s.bindingOf x := rfl
@[simp] theorem setSlot_currentOf (i : SlotIx) (r : Option Slot) (s : State) (x : UnitId) : (setSlot i r s).currentOf x = s.currentOf x := rfl
@[simp] theorem setSlot_kindOf (i : SlotIx) (r : Option Slot) (s : State) (x : UnitId) : (setSlot i r s).kindOf x = s.kindOf x := rfl
@[simp] theorem setSlot_carrier (i : SlotIx) (r : Option Slot) (s : State) (x : Chan) : (setSlot i r s).carrier x = s.carrier x := rfl
@[simp] theorem setSlot_carriedBy (i : SlotIx) (r : Option Slot) (s : State) (x : Port) : (setSlot i r s).carriedBy x = s.carriedBy x := rfl
@[simp] theorem setSlot_slot_self (i : SlotIx) (r : Option Slot) (s : State) : (setSlot i r s).slot i = r := by
  simp [setSlot, State.slot]
@[simp] theorem setSlot_slot_ne (i : SlotIx) (r : Option Slot) (s : State) {x : SlotIx} (h : x ≠ i) : (setSlot i r s).slot x = s.slot x := by
  simp [setSlot, State.slot, h]
theorem setSlot_slot (i : SlotIx) (r : Option Slot) (s : State) (x : SlotIx) : (setSlot i r s).slot x = if x = i then r else s.slot x := by
  by_cases h : x = i <;> simp [setSlot, State.slot, h]

/-! ## setTest -/

@[simp] theorem setTest_time (p : Port) (t : Option TestRec) (s : State) : (setTest p t s).time = s.time := rfl
@[simp] theorem setTest_part (p : Port) (t : Option TestRec) (s : State) : (setTest p t s).part = s.part := rfl
@[simp] theorem setTest_resetLine (p : Port) (t : Option TestRec) (s : State) : (setTest p t s).resetLine = s.resetLine := rfl
@[simp] theorem setTest_channels (p : Port) (t : Option TestRec) (s : State) : (setTest p t s).channels = s.channels := rfl
@[simp] theorem setTest_globals (p : Port) (t : Option TestRec) (s : State) : (setTest p t s).globals = s.globals := rfl
@[simp] theorem setTest_moves (p : Port) (t : Option TestRec) (s : State) : (setTest p t s).moves = s.moves := rfl
@[simp] theorem setTest_floors (p : Port) (t : Option TestRec) (s : State) : (setTest p t s).floors = s.floors := rfl
@[simp] theorem setTest_downlink (p : Port) (t : Option TestRec) (s : State) : (setTest p t s).downlink = s.downlink := rfl
@[simp] theorem setTest_units (p : Port) (t : Option TestRec) (s : State) : (setTest p t s).units = s.units := rfl
@[simp] theorem setTest_slots (p : Port) (t : Option TestRec) (s : State) : (setTest p t s).slots = s.slots := rfl
@[simp] theorem setTest_quiet (p : Port) (t : Option TestRec) (s : State) : (setTest p t s).quiet = s.quiet := rfl
@[simp] theorem setTest_ports (p : Port) (t : Option TestRec) (s : State) : (setTest p t s).ports = s.ports := rfl
@[simp] theorem setTest_sequences (p : Port) (t : Option TestRec) (s : State) : (setTest p t s).sequences = s.sequences := rfl
@[simp] theorem setTest_patterns (p : Port) (t : Option TestRec) (s : State) : (setTest p t s).patterns = s.patterns := rfl
@[simp] theorem setTest_generators (p : Port) (t : Option TestRec) (s : State) : (setTest p t s).generators = s.generators := rfl
@[simp] theorem setTest_links (p : Port) (t : Option TestRec) (s : State) : (setTest p t s).links = s.links := rfl
@[simp] theorem setTest_sent (p : Port) (t : Option TestRec) (s : State) : (setTest p t s).sent = s.sent := rfl
@[simp] theorem setTest_pending (p : Port) (t : Option TestRec) (s : State) : (setTest p t s).pending = s.pending := rfl
@[simp] theorem setTest_floor (p : Port) (t : Option TestRec) (s : State) (x : Chan) : (setTest p t s).floor x = s.floor x := rfl
@[simp] theorem setTest_port (p : Port) (t : Option TestRec) (s : State) (x : Port) : (setTest p t s).port x = s.port x := rfl
@[simp] theorem setTest_chan (p : Port) (t : Option TestRec) (s : State) (x : Chan) : (setTest p t s).chan x = s.chan x := rfl
@[simp] theorem setTest_move (p : Port) (t : Option TestRec) (s : State) (x : MoveIx) : (setTest p t s).move x = s.move x := rfl
@[simp] theorem setTest_link (p : Port) (t : Option TestRec) (s : State) (x : Console) : (setTest p t s).link x = s.link x := rfl
@[simp] theorem setTest_slot (p : Port) (t : Option TestRec) (s : State) (x : SlotIx) : (setTest p t s).slot x = s.slot x := rfl
@[simp] theorem setTest_generator (p : Port) (t : Option TestRec) (s : State) (x : Chan) : (setTest p t s).generator x = s.generator x := rfl
@[simp] theorem setTest_frames (p : Port) (t : Option TestRec) (s : State) (x : Chan) : (setTest p t s).frames x = s.frames x := rfl
@[simp] theorem setTest_unit (p : Port) (t : Option TestRec) (s : State) (x : UnitId) : (setTest p t s).unit x = s.unit x := rfl
@[simp] theorem setTest_bindingOf (p : Port) (t : Option TestRec) (s : State) (x : Party) : (setTest p t s).bindingOf x = s.bindingOf x := rfl
@[simp] theorem setTest_currentOf (p : Port) (t : Option TestRec) (s : State) (x : UnitId) : (setTest p t s).currentOf x = s.currentOf x := rfl
@[simp] theorem setTest_kindOf (p : Port) (t : Option TestRec) (s : State) (x : UnitId) : (setTest p t s).kindOf x = s.kindOf x := rfl
@[simp] theorem setTest_carrier (p : Port) (t : Option TestRec) (s : State) (x : Chan) : (setTest p t s).carrier x = s.carrier x := rfl
@[simp] theorem setTest_carriedBy (p : Port) (t : Option TestRec) (s : State) (x : Port) : (setTest p t s).carriedBy x = s.carriedBy x := rfl
@[simp] theorem setTest_testOf_self (p : Port) (t : Option TestRec) (s : State) : (setTest p t s).testOf p = t := by
  simp [setTest, State.testOf]
@[simp] theorem setTest_testOf_ne (p : Port) (t : Option TestRec) (s : State) {x : Port} (h : x ≠ p) : (setTest p t s).testOf x = s.testOf x := by
  simp [setTest, State.testOf, h]
theorem setTest_testOf (p : Port) (t : Option TestRec) (s : State) (x : Port) : (setTest p t s).testOf x = if x = p then t else s.testOf x := by
  by_cases h : x = p <;> simp [setTest, State.testOf, h]

/-! ## setGenerator -/

@[simp] theorem setGenerator_time (ch : Chan) (g : Option Play) (s : State) : (setGenerator ch g s).time = s.time := rfl
@[simp] theorem setGenerator_part (ch : Chan) (g : Option Play) (s : State) : (setGenerator ch g s).part = s.part := rfl
@[simp] theorem setGenerator_resetLine (ch : Chan) (g : Option Play) (s : State) : (setGenerator ch g s).resetLine = s.resetLine := rfl
@[simp] theorem setGenerator_channels (ch : Chan) (g : Option Play) (s : State) : (setGenerator ch g s).channels = s.channels := rfl
@[simp] theorem setGenerator_globals (ch : Chan) (g : Option Play) (s : State) : (setGenerator ch g s).globals = s.globals := rfl
@[simp] theorem setGenerator_moves (ch : Chan) (g : Option Play) (s : State) : (setGenerator ch g s).moves = s.moves := rfl
@[simp] theorem setGenerator_floors (ch : Chan) (g : Option Play) (s : State) : (setGenerator ch g s).floors = s.floors := rfl
@[simp] theorem setGenerator_downlink (ch : Chan) (g : Option Play) (s : State) : (setGenerator ch g s).downlink = s.downlink := rfl
@[simp] theorem setGenerator_units (ch : Chan) (g : Option Play) (s : State) : (setGenerator ch g s).units = s.units := rfl
@[simp] theorem setGenerator_slots (ch : Chan) (g : Option Play) (s : State) : (setGenerator ch g s).slots = s.slots := rfl
@[simp] theorem setGenerator_quiet (ch : Chan) (g : Option Play) (s : State) : (setGenerator ch g s).quiet = s.quiet := rfl
@[simp] theorem setGenerator_ports (ch : Chan) (g : Option Play) (s : State) : (setGenerator ch g s).ports = s.ports := rfl
@[simp] theorem setGenerator_tests (ch : Chan) (g : Option Play) (s : State) : (setGenerator ch g s).tests = s.tests := rfl
@[simp] theorem setGenerator_sequences (ch : Chan) (g : Option Play) (s : State) : (setGenerator ch g s).sequences = s.sequences := rfl
@[simp] theorem setGenerator_patterns (ch : Chan) (g : Option Play) (s : State) : (setGenerator ch g s).patterns = s.patterns := rfl
@[simp] theorem setGenerator_links (ch : Chan) (g : Option Play) (s : State) : (setGenerator ch g s).links = s.links := rfl
@[simp] theorem setGenerator_sent (ch : Chan) (g : Option Play) (s : State) : (setGenerator ch g s).sent = s.sent := rfl
@[simp] theorem setGenerator_pending (ch : Chan) (g : Option Play) (s : State) : (setGenerator ch g s).pending = s.pending := rfl
@[simp] theorem setGenerator_floor (ch : Chan) (g : Option Play) (s : State) (x : Chan) : (setGenerator ch g s).floor x = s.floor x := rfl
@[simp] theorem setGenerator_port (ch : Chan) (g : Option Play) (s : State) (x : Port) : (setGenerator ch g s).port x = s.port x := rfl
@[simp] theorem setGenerator_chan (ch : Chan) (g : Option Play) (s : State) (x : Chan) : (setGenerator ch g s).chan x = s.chan x := rfl
@[simp] theorem setGenerator_move (ch : Chan) (g : Option Play) (s : State) (x : MoveIx) : (setGenerator ch g s).move x = s.move x := rfl
@[simp] theorem setGenerator_link (ch : Chan) (g : Option Play) (s : State) (x : Console) : (setGenerator ch g s).link x = s.link x := rfl
@[simp] theorem setGenerator_slot (ch : Chan) (g : Option Play) (s : State) (x : SlotIx) : (setGenerator ch g s).slot x = s.slot x := rfl
@[simp] theorem setGenerator_testOf (ch : Chan) (g : Option Play) (s : State) (x : Port) : (setGenerator ch g s).testOf x = s.testOf x := rfl
@[simp] theorem setGenerator_frames (ch : Chan) (g : Option Play) (s : State) (x : Chan) : (setGenerator ch g s).frames x = s.frames x := rfl
@[simp] theorem setGenerator_unit (ch : Chan) (g : Option Play) (s : State) (x : UnitId) : (setGenerator ch g s).unit x = s.unit x := rfl
@[simp] theorem setGenerator_bindingOf (ch : Chan) (g : Option Play) (s : State) (x : Party) : (setGenerator ch g s).bindingOf x = s.bindingOf x := rfl
@[simp] theorem setGenerator_currentOf (ch : Chan) (g : Option Play) (s : State) (x : UnitId) : (setGenerator ch g s).currentOf x = s.currentOf x := rfl
@[simp] theorem setGenerator_kindOf (ch : Chan) (g : Option Play) (s : State) (x : UnitId) : (setGenerator ch g s).kindOf x = s.kindOf x := rfl
@[simp] theorem setGenerator_carrier (ch : Chan) (g : Option Play) (s : State) (x : Chan) : (setGenerator ch g s).carrier x = s.carrier x := rfl
@[simp] theorem setGenerator_carriedBy (ch : Chan) (g : Option Play) (s : State) (x : Port) : (setGenerator ch g s).carriedBy x = s.carriedBy x := rfl
@[simp] theorem setGenerator_generator_self (ch : Chan) (g : Option Play) (s : State) : (setGenerator ch g s).generator ch = g := by
  simp [setGenerator, State.generator]
@[simp] theorem setGenerator_generator_ne (ch : Chan) (g : Option Play) (s : State) {x : Chan} (h : x ≠ ch) : (setGenerator ch g s).generator x = s.generator x := by
  simp [setGenerator, State.generator, h]
theorem setGenerator_generator (ch : Chan) (g : Option Play) (s : State) (x : Chan) : (setGenerator ch g s).generator x = if x = ch then g else s.generator x := by
  by_cases h : x = ch <;> simp [setGenerator, State.generator, h]

/-! ## setFrames -/

@[simp] theorem setFrames_time (ch : Chan) (q : List Frame) (s : State) : (setFrames ch q s).time = s.time := rfl
@[simp] theorem setFrames_part (ch : Chan) (q : List Frame) (s : State) : (setFrames ch q s).part = s.part := rfl
@[simp] theorem setFrames_resetLine (ch : Chan) (q : List Frame) (s : State) : (setFrames ch q s).resetLine = s.resetLine := rfl
@[simp] theorem setFrames_channels (ch : Chan) (q : List Frame) (s : State) : (setFrames ch q s).channels = s.channels := rfl
@[simp] theorem setFrames_globals (ch : Chan) (q : List Frame) (s : State) : (setFrames ch q s).globals = s.globals := rfl
@[simp] theorem setFrames_moves (ch : Chan) (q : List Frame) (s : State) : (setFrames ch q s).moves = s.moves := rfl
@[simp] theorem setFrames_floors (ch : Chan) (q : List Frame) (s : State) : (setFrames ch q s).floors = s.floors := rfl
@[simp] theorem setFrames_units (ch : Chan) (q : List Frame) (s : State) : (setFrames ch q s).units = s.units := rfl
@[simp] theorem setFrames_slots (ch : Chan) (q : List Frame) (s : State) : (setFrames ch q s).slots = s.slots := rfl
@[simp] theorem setFrames_quiet (ch : Chan) (q : List Frame) (s : State) : (setFrames ch q s).quiet = s.quiet := rfl
@[simp] theorem setFrames_ports (ch : Chan) (q : List Frame) (s : State) : (setFrames ch q s).ports = s.ports := rfl
@[simp] theorem setFrames_tests (ch : Chan) (q : List Frame) (s : State) : (setFrames ch q s).tests = s.tests := rfl
@[simp] theorem setFrames_sequences (ch : Chan) (q : List Frame) (s : State) : (setFrames ch q s).sequences = s.sequences := rfl
@[simp] theorem setFrames_patterns (ch : Chan) (q : List Frame) (s : State) : (setFrames ch q s).patterns = s.patterns := rfl
@[simp] theorem setFrames_generators (ch : Chan) (q : List Frame) (s : State) : (setFrames ch q s).generators = s.generators := rfl
@[simp] theorem setFrames_links (ch : Chan) (q : List Frame) (s : State) : (setFrames ch q s).links = s.links := rfl
@[simp] theorem setFrames_sent (ch : Chan) (q : List Frame) (s : State) : (setFrames ch q s).sent = s.sent := rfl
@[simp] theorem setFrames_pending (ch : Chan) (q : List Frame) (s : State) : (setFrames ch q s).pending = s.pending := rfl
@[simp] theorem setFrames_floor (ch : Chan) (q : List Frame) (s : State) (x : Chan) : (setFrames ch q s).floor x = s.floor x := rfl
@[simp] theorem setFrames_port (ch : Chan) (q : List Frame) (s : State) (x : Port) : (setFrames ch q s).port x = s.port x := rfl
@[simp] theorem setFrames_chan (ch : Chan) (q : List Frame) (s : State) (x : Chan) : (setFrames ch q s).chan x = s.chan x := rfl
@[simp] theorem setFrames_move (ch : Chan) (q : List Frame) (s : State) (x : MoveIx) : (setFrames ch q s).move x = s.move x := rfl
@[simp] theorem setFrames_link (ch : Chan) (q : List Frame) (s : State) (x : Console) : (setFrames ch q s).link x = s.link x := rfl
@[simp] theorem setFrames_slot (ch : Chan) (q : List Frame) (s : State) (x : SlotIx) : (setFrames ch q s).slot x = s.slot x := rfl
@[simp] theorem setFrames_testOf (ch : Chan) (q : List Frame) (s : State) (x : Port) : (setFrames ch q s).testOf x = s.testOf x := rfl
@[simp] theorem setFrames_generator (ch : Chan) (q : List Frame) (s : State) (x : Chan) : (setFrames ch q s).generator x = s.generator x := rfl
@[simp] theorem setFrames_unit (ch : Chan) (q : List Frame) (s : State) (x : UnitId) : (setFrames ch q s).unit x = s.unit x := rfl
@[simp] theorem setFrames_bindingOf (ch : Chan) (q : List Frame) (s : State) (x : Party) : (setFrames ch q s).bindingOf x = s.bindingOf x := rfl
@[simp] theorem setFrames_currentOf (ch : Chan) (q : List Frame) (s : State) (x : UnitId) : (setFrames ch q s).currentOf x = s.currentOf x := rfl
@[simp] theorem setFrames_kindOf (ch : Chan) (q : List Frame) (s : State) (x : UnitId) : (setFrames ch q s).kindOf x = s.kindOf x := rfl
@[simp] theorem setFrames_carrier (ch : Chan) (q : List Frame) (s : State) (x : Chan) : (setFrames ch q s).carrier x = s.carrier x := rfl
@[simp] theorem setFrames_carriedBy (ch : Chan) (q : List Frame) (s : State) (x : Port) : (setFrames ch q s).carriedBy x = s.carriedBy x := rfl
@[simp] theorem setFrames_frames_self (ch : Chan) (q : List Frame) (s : State) : (setFrames ch q s).frames ch = q := by
  simp [setFrames, State.frames]
@[simp] theorem setFrames_frames_ne (ch : Chan) (q : List Frame) (s : State) {x : Chan} (h : x ≠ ch) : (setFrames ch q s).frames x = s.frames x := by
  simp [setFrames, State.frames, h]
theorem setFrames_frames (ch : Chan) (q : List Frame) (s : State) (x : Chan) : (setFrames ch q s).frames x = if x = ch then q else s.frames x := by
  by_cases h : x = ch <;> simp [setFrames, State.frames, h]

/-! ## send -/

@[simp] theorem send_time (p : Port) (m : PortMsg) (s : State) : (send p m s).time = s.time := rfl
@[simp] theorem send_part (p : Port) (m : PortMsg) (s : State) : (send p m s).part = s.part := rfl
@[simp] theorem send_resetLine (p : Port) (m : PortMsg) (s : State) : (send p m s).resetLine = s.resetLine := rfl
@[simp] theorem send_channels (p : Port) (m : PortMsg) (s : State) : (send p m s).channels = s.channels := rfl
@[simp] theorem send_globals (p : Port) (m : PortMsg) (s : State) : (send p m s).globals = s.globals := rfl
@[simp] theorem send_moves (p : Port) (m : PortMsg) (s : State) : (send p m s).moves = s.moves := rfl
@[simp] theorem send_floors (p : Port) (m : PortMsg) (s : State) : (send p m s).floors = s.floors := rfl
@[simp] theorem send_downlink (p : Port) (m : PortMsg) (s : State) : (send p m s).downlink = s.downlink := rfl
@[simp] theorem send_units (p : Port) (m : PortMsg) (s : State) : (send p m s).units = s.units := rfl
@[simp] theorem send_slots (p : Port) (m : PortMsg) (s : State) : (send p m s).slots = s.slots := rfl
@[simp] theorem send_quiet (p : Port) (m : PortMsg) (s : State) : (send p m s).quiet = s.quiet := rfl
@[simp] theorem send_ports (p : Port) (m : PortMsg) (s : State) : (send p m s).ports = s.ports := rfl
@[simp] theorem send_tests (p : Port) (m : PortMsg) (s : State) : (send p m s).tests = s.tests := rfl
@[simp] theorem send_sequences (p : Port) (m : PortMsg) (s : State) : (send p m s).sequences = s.sequences := rfl
@[simp] theorem send_patterns (p : Port) (m : PortMsg) (s : State) : (send p m s).patterns = s.patterns := rfl
@[simp] theorem send_generators (p : Port) (m : PortMsg) (s : State) : (send p m s).generators = s.generators := rfl
@[simp] theorem send_links (p : Port) (m : PortMsg) (s : State) : (send p m s).links = s.links := rfl
@[simp] theorem send_pending (p : Port) (m : PortMsg) (s : State) : (send p m s).pending = s.pending := rfl
@[simp] theorem send_floor (p : Port) (m : PortMsg) (s : State) (x : Chan) : (send p m s).floor x = s.floor x := rfl
@[simp] theorem send_port (p : Port) (m : PortMsg) (s : State) (x : Port) : (send p m s).port x = s.port x := rfl
@[simp] theorem send_chan (p : Port) (m : PortMsg) (s : State) (x : Chan) : (send p m s).chan x = s.chan x := rfl
@[simp] theorem send_move (p : Port) (m : PortMsg) (s : State) (x : MoveIx) : (send p m s).move x = s.move x := rfl
@[simp] theorem send_link (p : Port) (m : PortMsg) (s : State) (x : Console) : (send p m s).link x = s.link x := rfl
@[simp] theorem send_slot (p : Port) (m : PortMsg) (s : State) (x : SlotIx) : (send p m s).slot x = s.slot x := rfl
@[simp] theorem send_testOf (p : Port) (m : PortMsg) (s : State) (x : Port) : (send p m s).testOf x = s.testOf x := rfl
@[simp] theorem send_generator (p : Port) (m : PortMsg) (s : State) (x : Chan) : (send p m s).generator x = s.generator x := rfl
@[simp] theorem send_frames (p : Port) (m : PortMsg) (s : State) (x : Chan) : (send p m s).frames x = s.frames x := rfl
@[simp] theorem send_unit (p : Port) (m : PortMsg) (s : State) (x : UnitId) : (send p m s).unit x = s.unit x := rfl
@[simp] theorem send_bindingOf (p : Port) (m : PortMsg) (s : State) (x : Party) : (send p m s).bindingOf x = s.bindingOf x := rfl
@[simp] theorem send_currentOf (p : Port) (m : PortMsg) (s : State) (x : UnitId) : (send p m s).currentOf x = s.currentOf x := rfl
@[simp] theorem send_kindOf (p : Port) (m : PortMsg) (s : State) (x : UnitId) : (send p m s).kindOf x = s.kindOf x := rfl
@[simp] theorem send_carrier (p : Port) (m : PortMsg) (s : State) (x : Chan) : (send p m s).carrier x = s.carrier x := rfl
@[simp] theorem send_carriedBy (p : Port) (m : PortMsg) (s : State) (x : Port) : (send p m s).carriedBy x = s.carriedBy x := rfl

/-! ## modUnit -/

@[simp] theorem modUnit_time (u : UnitId) (g : UnitRec → UnitRec) (s : State) : (modUnit u g s).time = s.time := rfl
@[simp] theorem modUnit_part (u : UnitId) (g : UnitRec → UnitRec) (s : State) : (modUnit u g s).part = s.part := rfl
@[simp] theorem modUnit_resetLine (u : UnitId) (g : UnitRec → UnitRec) (s : State) : (modUnit u g s).resetLine = s.resetLine := rfl
@[simp] theorem modUnit_channels (u : UnitId) (g : UnitRec → UnitRec) (s : State) : (modUnit u g s).channels = s.channels := rfl
@[simp] theorem modUnit_globals (u : UnitId) (g : UnitRec → UnitRec) (s : State) : (modUnit u g s).globals = s.globals := rfl
@[simp] theorem modUnit_moves (u : UnitId) (g : UnitRec → UnitRec) (s : State) : (modUnit u g s).moves = s.moves := rfl
@[simp] theorem modUnit_floors (u : UnitId) (g : UnitRec → UnitRec) (s : State) : (modUnit u g s).floors = s.floors := rfl
@[simp] theorem modUnit_downlink (u : UnitId) (g : UnitRec → UnitRec) (s : State) : (modUnit u g s).downlink = s.downlink := rfl
@[simp] theorem modUnit_slots (u : UnitId) (g : UnitRec → UnitRec) (s : State) : (modUnit u g s).slots = s.slots := rfl
@[simp] theorem modUnit_quiet (u : UnitId) (g : UnitRec → UnitRec) (s : State) : (modUnit u g s).quiet = s.quiet := rfl
@[simp] theorem modUnit_ports (u : UnitId) (g : UnitRec → UnitRec) (s : State) : (modUnit u g s).ports = s.ports := rfl
@[simp] theorem modUnit_tests (u : UnitId) (g : UnitRec → UnitRec) (s : State) : (modUnit u g s).tests = s.tests := rfl
@[simp] theorem modUnit_sequences (u : UnitId) (g : UnitRec → UnitRec) (s : State) : (modUnit u g s).sequences = s.sequences := rfl
@[simp] theorem modUnit_patterns (u : UnitId) (g : UnitRec → UnitRec) (s : State) : (modUnit u g s).patterns = s.patterns := rfl
@[simp] theorem modUnit_generators (u : UnitId) (g : UnitRec → UnitRec) (s : State) : (modUnit u g s).generators = s.generators := rfl
@[simp] theorem modUnit_links (u : UnitId) (g : UnitRec → UnitRec) (s : State) : (modUnit u g s).links = s.links := rfl
@[simp] theorem modUnit_sent (u : UnitId) (g : UnitRec → UnitRec) (s : State) : (modUnit u g s).sent = s.sent := rfl
@[simp] theorem modUnit_pending (u : UnitId) (g : UnitRec → UnitRec) (s : State) : (modUnit u g s).pending = s.pending := rfl
@[simp] theorem modUnit_floor (u : UnitId) (g : UnitRec → UnitRec) (s : State) (x : Chan) : (modUnit u g s).floor x = s.floor x := rfl
@[simp] theorem modUnit_port (u : UnitId) (g : UnitRec → UnitRec) (s : State) (x : Port) : (modUnit u g s).port x = s.port x := rfl
@[simp] theorem modUnit_chan (u : UnitId) (g : UnitRec → UnitRec) (s : State) (x : Chan) : (modUnit u g s).chan x = s.chan x := rfl
@[simp] theorem modUnit_move (u : UnitId) (g : UnitRec → UnitRec) (s : State) (x : MoveIx) : (modUnit u g s).move x = s.move x := rfl
@[simp] theorem modUnit_link (u : UnitId) (g : UnitRec → UnitRec) (s : State) (x : Console) : (modUnit u g s).link x = s.link x := rfl
@[simp] theorem modUnit_slot (u : UnitId) (g : UnitRec → UnitRec) (s : State) (x : SlotIx) : (modUnit u g s).slot x = s.slot x := rfl
@[simp] theorem modUnit_testOf (u : UnitId) (g : UnitRec → UnitRec) (s : State) (x : Port) : (modUnit u g s).testOf x = s.testOf x := rfl
@[simp] theorem modUnit_generator (u : UnitId) (g : UnitRec → UnitRec) (s : State) (x : Chan) : (modUnit u g s).generator x = s.generator x := rfl
@[simp] theorem modUnit_frames (u : UnitId) (g : UnitRec → UnitRec) (s : State) (x : Chan) : (modUnit u g s).frames x = s.frames x := rfl
@[simp] theorem modUnit_carrier (u : UnitId) (g : UnitRec → UnitRec) (s : State) (x : Chan) : (modUnit u g s).carrier x = s.carrier x := rfl
@[simp] theorem modUnit_carriedBy (u : UnitId) (g : UnitRec → UnitRec) (s : State) (x : Port) : (modUnit u g s).carriedBy x = s.carriedBy x := rfl

/-! ## latchAll -/

@[simp] theorem latchAll_time (ch : Chan) (k : ChanLatch) (s : State) : (latchAll ch k s).time = s.time := rfl
@[simp] theorem latchAll_part (ch : Chan) (k : ChanLatch) (s : State) : (latchAll ch k s).part = s.part := rfl
@[simp] theorem latchAll_resetLine (ch : Chan) (k : ChanLatch) (s : State) : (latchAll ch k s).resetLine = s.resetLine := rfl
@[simp] theorem latchAll_channels (ch : Chan) (k : ChanLatch) (s : State) : (latchAll ch k s).channels = s.channels := rfl
@[simp] theorem latchAll_globals (ch : Chan) (k : ChanLatch) (s : State) : (latchAll ch k s).globals = s.globals := rfl
@[simp] theorem latchAll_moves (ch : Chan) (k : ChanLatch) (s : State) : (latchAll ch k s).moves = s.moves := rfl
@[simp] theorem latchAll_floors (ch : Chan) (k : ChanLatch) (s : State) : (latchAll ch k s).floors = s.floors := rfl
@[simp] theorem latchAll_downlink (ch : Chan) (k : ChanLatch) (s : State) : (latchAll ch k s).downlink = s.downlink := rfl
@[simp] theorem latchAll_units (ch : Chan) (k : ChanLatch) (s : State) : (latchAll ch k s).units = s.units := rfl
@[simp] theorem latchAll_slots (ch : Chan) (k : ChanLatch) (s : State) : (latchAll ch k s).slots = s.slots := rfl
@[simp] theorem latchAll_quiet (ch : Chan) (k : ChanLatch) (s : State) : (latchAll ch k s).quiet = s.quiet := rfl
@[simp] theorem latchAll_ports (ch : Chan) (k : ChanLatch) (s : State) : (latchAll ch k s).ports = s.ports := rfl
@[simp] theorem latchAll_tests (ch : Chan) (k : ChanLatch) (s : State) : (latchAll ch k s).tests = s.tests := rfl
@[simp] theorem latchAll_sequences (ch : Chan) (k : ChanLatch) (s : State) : (latchAll ch k s).sequences = s.sequences := rfl
@[simp] theorem latchAll_patterns (ch : Chan) (k : ChanLatch) (s : State) : (latchAll ch k s).patterns = s.patterns := rfl
@[simp] theorem latchAll_generators (ch : Chan) (k : ChanLatch) (s : State) : (latchAll ch k s).generators = s.generators := rfl
@[simp] theorem latchAll_sent (ch : Chan) (k : ChanLatch) (s : State) : (latchAll ch k s).sent = s.sent := rfl
@[simp] theorem latchAll_pending (ch : Chan) (k : ChanLatch) (s : State) : (latchAll ch k s).pending = s.pending := rfl
@[simp] theorem latchAll_floor (ch : Chan) (k : ChanLatch) (s : State) (x : Chan) : (latchAll ch k s).floor x = s.floor x := rfl
@[simp] theorem latchAll_port (ch : Chan) (k : ChanLatch) (s : State) (x : Port) : (latchAll ch k s).port x = s.port x := rfl
@[simp] theorem latchAll_chan (ch : Chan) (k : ChanLatch) (s : State) (x : Chan) : (latchAll ch k s).chan x = s.chan x := rfl
@[simp] theorem latchAll_move (ch : Chan) (k : ChanLatch) (s : State) (x : MoveIx) : (latchAll ch k s).move x = s.move x := rfl
@[simp] theorem latchAll_slot (ch : Chan) (k : ChanLatch) (s : State) (x : SlotIx) : (latchAll ch k s).slot x = s.slot x := rfl
@[simp] theorem latchAll_testOf (ch : Chan) (k : ChanLatch) (s : State) (x : Port) : (latchAll ch k s).testOf x = s.testOf x := rfl
@[simp] theorem latchAll_generator (ch : Chan) (k : ChanLatch) (s : State) (x : Chan) : (latchAll ch k s).generator x = s.generator x := rfl
@[simp] theorem latchAll_frames (ch : Chan) (k : ChanLatch) (s : State) (x : Chan) : (latchAll ch k s).frames x = s.frames x := rfl
@[simp] theorem latchAll_unit (ch : Chan) (k : ChanLatch) (s : State) (x : UnitId) : (latchAll ch k s).unit x = s.unit x := rfl
@[simp] theorem latchAll_bindingOf (ch : Chan) (k : ChanLatch) (s : State) (x : Party) : (latchAll ch k s).bindingOf x = s.bindingOf x := rfl
@[simp] theorem latchAll_currentOf (ch : Chan) (k : ChanLatch) (s : State) (x : UnitId) : (latchAll ch k s).currentOf x = s.currentOf x := rfl
@[simp] theorem latchAll_kindOf (ch : Chan) (k : ChanLatch) (s : State) (x : UnitId) : (latchAll ch k s).kindOf x = s.kindOf x := rfl
@[simp] theorem latchAll_carrier (ch : Chan) (k : ChanLatch) (s : State) (x : Chan) : (latchAll ch k s).carrier x = s.carrier x := rfl
@[simp] theorem latchAll_carriedBy (ch : Chan) (k : ChanLatch) (s : State) (x : Port) : (latchAll ch k s).carriedBy x = s.carriedBy x := rfl

/-! ## notify -/

@[simp] theorem notify_time (c : Console) (b : NoticeBody) (s : State) : (notify c b s).time = s.time := rfl
@[simp] theorem notify_part (c : Console) (b : NoticeBody) (s : State) : (notify c b s).part = s.part := rfl
@[simp] theorem notify_resetLine (c : Console) (b : NoticeBody) (s : State) : (notify c b s).resetLine = s.resetLine := rfl
@[simp] theorem notify_channels (c : Console) (b : NoticeBody) (s : State) : (notify c b s).channels = s.channels := rfl
@[simp] theorem notify_globals (c : Console) (b : NoticeBody) (s : State) : (notify c b s).globals = s.globals := rfl
@[simp] theorem notify_moves (c : Console) (b : NoticeBody) (s : State) : (notify c b s).moves = s.moves := rfl
@[simp] theorem notify_floors (c : Console) (b : NoticeBody) (s : State) : (notify c b s).floors = s.floors := rfl
@[simp] theorem notify_downlink (c : Console) (b : NoticeBody) (s : State) : (notify c b s).downlink = s.downlink := rfl
@[simp] theorem notify_units (c : Console) (b : NoticeBody) (s : State) : (notify c b s).units = s.units := rfl
@[simp] theorem notify_slots (c : Console) (b : NoticeBody) (s : State) : (notify c b s).slots = s.slots := rfl
@[simp] theorem notify_quiet (c : Console) (b : NoticeBody) (s : State) : (notify c b s).quiet = s.quiet := rfl
@[simp] theorem notify_ports (c : Console) (b : NoticeBody) (s : State) : (notify c b s).ports = s.ports := rfl
@[simp] theorem notify_tests (c : Console) (b : NoticeBody) (s : State) : (notify c b s).tests = s.tests := rfl
@[simp] theorem notify_sequences (c : Console) (b : NoticeBody) (s : State) : (notify c b s).sequences = s.sequences := rfl
@[simp] theorem notify_patterns (c : Console) (b : NoticeBody) (s : State) : (notify c b s).patterns = s.patterns := rfl
@[simp] theorem notify_generators (c : Console) (b : NoticeBody) (s : State) : (notify c b s).generators = s.generators := rfl
@[simp] theorem notify_sent (c : Console) (b : NoticeBody) (s : State) : (notify c b s).sent = s.sent := rfl
@[simp] theorem notify_pending (c : Console) (b : NoticeBody) (s : State) : (notify c b s).pending = s.pending := rfl
@[simp] theorem notify_floor (c : Console) (b : NoticeBody) (s : State) (x : Chan) : (notify c b s).floor x = s.floor x := rfl
@[simp] theorem notify_port (c : Console) (b : NoticeBody) (s : State) (x : Port) : (notify c b s).port x = s.port x := rfl
@[simp] theorem notify_chan (c : Console) (b : NoticeBody) (s : State) (x : Chan) : (notify c b s).chan x = s.chan x := rfl
@[simp] theorem notify_move (c : Console) (b : NoticeBody) (s : State) (x : MoveIx) : (notify c b s).move x = s.move x := rfl
@[simp] theorem notify_slot (c : Console) (b : NoticeBody) (s : State) (x : SlotIx) : (notify c b s).slot x = s.slot x := rfl
@[simp] theorem notify_testOf (c : Console) (b : NoticeBody) (s : State) (x : Port) : (notify c b s).testOf x = s.testOf x := rfl
@[simp] theorem notify_generator (c : Console) (b : NoticeBody) (s : State) (x : Chan) : (notify c b s).generator x = s.generator x := rfl
@[simp] theorem notify_frames (c : Console) (b : NoticeBody) (s : State) (x : Chan) : (notify c b s).frames x = s.frames x := rfl
@[simp] theorem notify_unit (c : Console) (b : NoticeBody) (s : State) (x : UnitId) : (notify c b s).unit x = s.unit x := rfl
@[simp] theorem notify_bindingOf (c : Console) (b : NoticeBody) (s : State) (x : Party) : (notify c b s).bindingOf x = s.bindingOf x := rfl
@[simp] theorem notify_currentOf (c : Console) (b : NoticeBody) (s : State) (x : UnitId) : (notify c b s).currentOf x = s.currentOf x := rfl
@[simp] theorem notify_kindOf (c : Console) (b : NoticeBody) (s : State) (x : UnitId) : (notify c b s).kindOf x = s.kindOf x := rfl
@[simp] theorem notify_carrier (c : Console) (b : NoticeBody) (s : State) (x : Chan) : (notify c b s).carrier x = s.carrier x := rfl
@[simp] theorem notify_carriedBy (c : Console) (b : NoticeBody) (s : State) (x : Port) : (notify c b s).carriedBy x = s.carriedBy x := rfl

/-! ## broadcast -/

@[simp] theorem broadcast_time (b : NoticeBody) (s : State) : (broadcast b s).time = s.time := rfl
@[simp] theorem broadcast_part (b : NoticeBody) (s : State) : (broadcast b s).part = s.part := rfl
@[simp] theorem broadcast_resetLine (b : NoticeBody) (s : State) : (broadcast b s).resetLine = s.resetLine := rfl
@[simp] theorem broadcast_channels (b : NoticeBody) (s : State) : (broadcast b s).channels = s.channels := rfl
@[simp] theorem broadcast_globals (b : NoticeBody) (s : State) : (broadcast b s).globals = s.globals := rfl
@[simp] theorem broadcast_moves (b : NoticeBody) (s : State) : (broadcast b s).moves = s.moves := rfl
@[simp] theorem broadcast_floors (b : NoticeBody) (s : State) : (broadcast b s).floors = s.floors := rfl
@[simp] theorem broadcast_downlink (b : NoticeBody) (s : State) : (broadcast b s).downlink = s.downlink := rfl
@[simp] theorem broadcast_units (b : NoticeBody) (s : State) : (broadcast b s).units = s.units := rfl
@[simp] theorem broadcast_slots (b : NoticeBody) (s : State) : (broadcast b s).slots = s.slots := rfl
@[simp] theorem broadcast_quiet (b : NoticeBody) (s : State) : (broadcast b s).quiet = s.quiet := rfl
@[simp] theorem broadcast_ports (b : NoticeBody) (s : State) : (broadcast b s).ports = s.ports := rfl
@[simp] theorem broadcast_tests (b : NoticeBody) (s : State) : (broadcast b s).tests = s.tests := rfl
@[simp] theorem broadcast_sequences (b : NoticeBody) (s : State) : (broadcast b s).sequences = s.sequences := rfl
@[simp] theorem broadcast_patterns (b : NoticeBody) (s : State) : (broadcast b s).patterns = s.patterns := rfl
@[simp] theorem broadcast_generators (b : NoticeBody) (s : State) : (broadcast b s).generators = s.generators := rfl
@[simp] theorem broadcast_sent (b : NoticeBody) (s : State) : (broadcast b s).sent = s.sent := rfl
@[simp] theorem broadcast_pending (b : NoticeBody) (s : State) : (broadcast b s).pending = s.pending := rfl
@[simp] theorem broadcast_floor (b : NoticeBody) (s : State) (x : Chan) : (broadcast b s).floor x = s.floor x := rfl
@[simp] theorem broadcast_port (b : NoticeBody) (s : State) (x : Port) : (broadcast b s).port x = s.port x := rfl
@[simp] theorem broadcast_chan (b : NoticeBody) (s : State) (x : Chan) : (broadcast b s).chan x = s.chan x := rfl
@[simp] theorem broadcast_move (b : NoticeBody) (s : State) (x : MoveIx) : (broadcast b s).move x = s.move x := rfl
@[simp] theorem broadcast_slot (b : NoticeBody) (s : State) (x : SlotIx) : (broadcast b s).slot x = s.slot x := rfl
@[simp] theorem broadcast_testOf (b : NoticeBody) (s : State) (x : Port) : (broadcast b s).testOf x = s.testOf x := rfl
@[simp] theorem broadcast_generator (b : NoticeBody) (s : State) (x : Chan) : (broadcast b s).generator x = s.generator x := rfl
@[simp] theorem broadcast_frames (b : NoticeBody) (s : State) (x : Chan) : (broadcast b s).frames x = s.frames x := rfl
@[simp] theorem broadcast_unit (b : NoticeBody) (s : State) (x : UnitId) : (broadcast b s).unit x = s.unit x := rfl
@[simp] theorem broadcast_bindingOf (b : NoticeBody) (s : State) (x : Party) : (broadcast b s).bindingOf x = s.bindingOf x := rfl
@[simp] theorem broadcast_currentOf (b : NoticeBody) (s : State) (x : UnitId) : (broadcast b s).currentOf x = s.currentOf x := rfl
@[simp] theorem broadcast_kindOf (b : NoticeBody) (s : State) (x : UnitId) : (broadcast b s).kindOf x = s.kindOf x := rfl
@[simp] theorem broadcast_carrier (b : NoticeBody) (s : State) (x : Chan) : (broadcast b s).carrier x = s.carrier x := rfl
@[simp] theorem broadcast_carriedBy (b : NoticeBody) (s : State) (x : Port) : (broadcast b s).carriedBy x = s.carriedBy x := rfl

/-! ## settle -/

@[simp] theorem settle_time (s : State) : (settle s).time = s.time := rfl
@[simp] theorem settle_part (s : State) : (settle s).part = s.part := rfl
@[simp] theorem settle_resetLine (s : State) : (settle s).resetLine = s.resetLine := rfl
@[simp] theorem settle_channels (s : State) : (settle s).channels = s.channels := rfl
@[simp] theorem settle_globals (s : State) : (settle s).globals = s.globals := rfl
@[simp] theorem settle_moves (s : State) : (settle s).moves = s.moves := rfl
@[simp] theorem settle_floors (s : State) : (settle s).floors = s.floors := rfl
@[simp] theorem settle_downlink (s : State) : (settle s).downlink = s.downlink := rfl
@[simp] theorem settle_units (s : State) : (settle s).units = s.units := rfl
@[simp] theorem settle_slots (s : State) : (settle s).slots = s.slots := rfl
@[simp] theorem settle_quiet (s : State) : (settle s).quiet = s.quiet := rfl
@[simp] theorem settle_ports (s : State) : (settle s).ports = s.ports := rfl
@[simp] theorem settle_tests (s : State) : (settle s).tests = s.tests := rfl
@[simp] theorem settle_sequences (s : State) : (settle s).sequences = s.sequences := rfl
@[simp] theorem settle_patterns (s : State) : (settle s).patterns = s.patterns := rfl
@[simp] theorem settle_generators (s : State) : (settle s).generators = s.generators := rfl
@[simp] theorem settle_sent (s : State) : (settle s).sent = s.sent := rfl
@[simp] theorem settle_pending (s : State) : (settle s).pending = s.pending := rfl
@[simp] theorem settle_floor (s : State) (x : Chan) : (settle s).floor x = s.floor x := rfl
@[simp] theorem settle_port (s : State) (x : Port) : (settle s).port x = s.port x := rfl
@[simp] theorem settle_chan (s : State) (x : Chan) : (settle s).chan x = s.chan x := rfl
@[simp] theorem settle_move (s : State) (x : MoveIx) : (settle s).move x = s.move x := rfl
@[simp] theorem settle_slot (s : State) (x : SlotIx) : (settle s).slot x = s.slot x := rfl
@[simp] theorem settle_testOf (s : State) (x : Port) : (settle s).testOf x = s.testOf x := rfl
@[simp] theorem settle_generator (s : State) (x : Chan) : (settle s).generator x = s.generator x := rfl
@[simp] theorem settle_frames (s : State) (x : Chan) : (settle s).frames x = s.frames x := rfl
@[simp] theorem settle_unit (s : State) (x : UnitId) : (settle s).unit x = s.unit x := rfl
@[simp] theorem settle_bindingOf (s : State) (x : Party) : (settle s).bindingOf x = s.bindingOf x := rfl
@[simp] theorem settle_currentOf (s : State) (x : UnitId) : (settle s).currentOf x = s.currentOf x := rfl
@[simp] theorem settle_kindOf (s : State) (x : UnitId) : (settle s).kindOf x = s.kindOf x := rfl
@[simp] theorem settle_carrier (s : State) (x : Chan) : (settle s).carrier x = s.carrier x := rfl
@[simp] theorem settle_carriedBy (s : State) (x : Port) : (settle s).carriedBy x = s.carriedBy x := rfl

end Sys2Proof.Machine
end

