-- ==== Sys2Proof/Laws/Only.lean ====
section
/-! SUPPORT. Laws/Only.lean: which fields of the state an operation can change. `Only fs s t` says that `t` differs from `s`
in the fields `fs` at most; it composes, so a frame of a long event is the union of the frames of its parts. -/

namespace Sys2Proof.Machine

set_option Elab.async false

/-- The fields of the state. -/
inductive Field where
  | time | part | resetLine | channels | globals | moves | floors | downlink | units | slots | quiet | ports | tests | sequences | patterns | generators | links | sent | pending
  deriving DecidableEq, Repr

/-- Two states agree on a field. -/
def State.agree (s t : State) : Field → Prop
  | .time => t.time = s.time
  | .part => t.part = s.part
  | .resetLine => t.resetLine = s.resetLine
  | .channels => t.channels = s.channels
  | .globals => t.globals = s.globals
  | .moves => t.moves = s.moves
  | .floors => t.floors = s.floors
  | .downlink => t.downlink = s.downlink
  | .units => t.units = s.units
  | .slots => t.slots = s.slots
  | .quiet => t.quiet = s.quiet
  | .ports => t.ports = s.ports
  | .tests => t.tests = s.tests
  | .sequences => t.sequences = s.sequences
  | .patterns => t.patterns = s.patterns
  | .generators => t.generators = s.generators
  | .links => t.links = s.links
  | .sent => t.sent = s.sent
  | .pending => t.pending = s.pending

/-- `t` differs from `s` in the fields `fs` at most. -/
def Only (fs : List Field) (s t : State) : Prop := ∀ f, f ∉ fs → s.agree t f

theorem State.agree_refl (s : State) (f : Field) : s.agree s f := by cases f <;> exact rfl

theorem State.agree_trans {s t u : State} {f : Field} (h : s.agree t f) (k : t.agree u f) : s.agree u f := by
  cases f <;> exact Eq.trans k h

theorem Only.refl (fs : List Field) (s : State) : Only fs s s := fun f _ => s.agree_refl f

theorem Only.trans {fs : List Field} {s t u : State} (h : Only fs s t) (k : Only fs t u) : Only fs s u :=
  fun f hf => State.agree_trans (h f hf) (k f hf)

theorem Only.mono {fs gs : List Field} {s t : State} (h : Only fs s t) (k : ∀ f ∈ fs, f ∈ gs) : Only gs s t :=
  fun f hf => h f (fun m => hf (k f m))

/-- An operation repeated over a list changes what one of its runs changes. -/
theorem Only.forEach {α : Type} {fs : List Field} {f : α → State → State} (xs : List α)
    (h : ∀ x ∈ xs, ∀ s, Only fs s (f x s)) (s : State) : Only fs s (forEach xs f s) := by
  induction xs generalizing s with
  | nil => exact Only.refl fs s
  | cons x xs ih =>
    exact (h x (by simp) s).trans (ih (fun y hy => h y (by simp [hy])) (f x s))

/-- An operation under a condition changes what it changes. -/
theorem Only.ite {fs : List Field} {s t u : State} (c : Prop) [Decidable c] (h : Only fs s t) (k : Only fs s u) :
    Only fs s (if c then t else u) := by
  by_cases e : c <;> simp [e, h, k]

theorem Only.time {fs : List Field} {s t : State} (h : Only fs s t) (k : .time ∉ fs := by decide) : t.time = s.time :=
  h .time k
theorem Only.part {fs : List Field} {s t : State} (h : Only fs s t) (k : .part ∉ fs := by decide) : t.part = s.part :=
  h .part k
theorem Only.resetLine {fs : List Field} {s t : State} (h : Only fs s t) (k : .resetLine ∉ fs := by decide) : t.resetLine = s.resetLine :=
  h .resetLine k
theorem Only.channels {fs : List Field} {s t : State} (h : Only fs s t) (k : .channels ∉ fs := by decide) : t.channels = s.channels :=
  h .channels k
theorem Only.globals {fs : List Field} {s t : State} (h : Only fs s t) (k : .globals ∉ fs := by decide) : t.globals = s.globals :=
  h .globals k
theorem Only.moves {fs : List Field} {s t : State} (h : Only fs s t) (k : .moves ∉ fs := by decide) : t.moves = s.moves :=
  h .moves k
theorem Only.floors {fs : List Field} {s t : State} (h : Only fs s t) (k : .floors ∉ fs := by decide) : t.floors = s.floors :=
  h .floors k
theorem Only.downlink {fs : List Field} {s t : State} (h : Only fs s t) (k : .downlink ∉ fs := by decide) : t.downlink = s.downlink :=
  h .downlink k
theorem Only.units {fs : List Field} {s t : State} (h : Only fs s t) (k : .units ∉ fs := by decide) : t.units = s.units :=
  h .units k
theorem Only.slots {fs : List Field} {s t : State} (h : Only fs s t) (k : .slots ∉ fs := by decide) : t.slots = s.slots :=
  h .slots k
theorem Only.quiet {fs : List Field} {s t : State} (h : Only fs s t) (k : .quiet ∉ fs := by decide) : t.quiet = s.quiet :=
  h .quiet k
theorem Only.ports {fs : List Field} {s t : State} (h : Only fs s t) (k : .ports ∉ fs := by decide) : t.ports = s.ports :=
  h .ports k
theorem Only.tests {fs : List Field} {s t : State} (h : Only fs s t) (k : .tests ∉ fs := by decide) : t.tests = s.tests :=
  h .tests k
theorem Only.sequences {fs : List Field} {s t : State} (h : Only fs s t) (k : .sequences ∉ fs := by decide) : t.sequences = s.sequences :=
  h .sequences k
theorem Only.patterns {fs : List Field} {s t : State} (h : Only fs s t) (k : .patterns ∉ fs := by decide) : t.patterns = s.patterns :=
  h .patterns k
theorem Only.generators {fs : List Field} {s t : State} (h : Only fs s t) (k : .generators ∉ fs := by decide) : t.generators = s.generators :=
  h .generators k
theorem Only.links {fs : List Field} {s t : State} (h : Only fs s t) (k : .links ∉ fs := by decide) : t.links = s.links :=
  h .links k
theorem Only.sent {fs : List Field} {s t : State} (h : Only fs s t) (k : .sent ∉ fs := by decide) : t.sent = s.sent :=
  h .sent k
theorem Only.pending {fs : List Field} {s t : State} (h : Only fs s t) (k : .pending ∉ fs := by decide) : t.pending = s.pending :=
  h .pending k

/-- The fields that a talk event can change. -/
abbrev talkFields : List Field := [.floors, .downlink, .generators, .links, .ports, .sent]

end Sys2Proof.Machine
end

