-- ==== Sys2Proof/Laws/Links.lean ====
section
/-! SUPPORT. Laws/Links.lean: what notices, latches, answers to frames and placements do, and what they leave alone. -/

namespace Sys2Proof.Machine

set_option Elab.async false

/-! ## Links -/

theorem notify_only (c : Console) (b : NoticeBody) (s : State) : Only [.links] s (notify c b s) := by
  intro f hf; cases f <;> first | exact rfl | simp at hf

theorem broadcast_only (b : NoticeBody) (s : State) : Only [.links] s (broadcast b s) := by
  intro f hf; cases f <;> first | exact rfl | simp at hf

theorem latchAll_only (ch : Chan) (k : ChanLatch) (s : State) : Only [.links] s (latchAll ch k s) := by
  intro f hf; cases f <;> first | exact rfl | simp at hf

theorem setLink_only (c : Console) (l : Link) (s : State) : Only [.links] s (setLink c l s) := by
  intro f hf; cases f <;> first | exact rfl | simp at hf

theorem settle_only (s : State) : Only [.links] s (settle s) := by
  intro f hf; cases f <;> first | exact rfl | simp at hf

/-- R181: the link that a directed notice goes to, and every other. -/
theorem notify_link (c : Console) (b : NoticeBody) (s : State) (x : Console) :
    (notify c b s).link x = if x = c ∧ produced s.part b = true then (s.link c).deliver s.time b else s.link x := by
  by_cases h : produced s.part b = true <;> by_cases e : x = c <;>
    simp [notify, State.link, h, e]

/-- R181: a link after a category notice. -/
theorem broadcast_link (b : NoticeBody) (s : State) (x : Console) :
    (broadcast b s).link x =
      match b.category with
      | none => s.link x
      | some k =>
        if produced s.part b = true ∧ (s.link x).subs.getLsbD k.bit = true then (s.link x).deliver s.time b
        else s.link x := by
  unfold broadcast State.link
  cases b.category with
  | none => rfl
  | some k =>
    by_cases h : produced s.part b = true <;> simp [h]

/-- R184: a link after a latch is set. -/
theorem latchAll_link (ch : Chan) (k : ChanLatch) (s : State) (x : Console) :
    (latchAll ch k s).link x = if (s.chan ch).inUse then (s.link x).latch ch k else s.link x := by
  by_cases h : (s.chan ch).inUse = true <;> simp [latchAll, State.link, h]

@[simp] theorem settle_link (s : State) (x : Console) : (settle s).link x = (s.link x).settle := by
  simp [settle, State.link]

/-- A refused command, or one whose effect is nothing, leaves the framer in HUNT and all else alone (R178, R179). -/
theorem hunt_eq (link : Console) (s : State) :
    hunt link s = { s with links := s.links.put link { s.link link with framer := none } } := rfl

theorem hunt_only (link : Console) (s : State) : Only [.links] s (hunt link s) := setLink_only _ _ _

theorem respond_only (link : Console) (r : Response) (s : State) : Only [.links] s (respond link r s) :=
  setLink_only _ _ _

/-! ## Downlink placement (R124 to R126) -/

theorem setFrames_only (ch : Chan) (q : List Frame) (s : State) : Only [.downlink] s (setFrames ch q s) := by
  intro f hf; cases f <;> first | exact rfl | simp at hf

/-- R124: what a placement does to the queue of its channel. -/
theorem placeFrame_frames_self (ch : Chan) (new : Frame) (s : State) :
    (placeFrame ch new s).frames ch = if takesFrames (s.floor ch) then placeIn new (s.frames ch) else s.frames ch := by
  unfold placeFrame
  by_cases h : takesFrames (s.floor ch) = true
  · by_cases e : overflows new (s.frames ch) = true <;> simp [h, e]
  · simp [h]

/-- R124: a placement leaves the other queues alone. -/
@[simp] theorem placeFrame_frames_ne (ch : Chan) (new : Frame) (s : State) {c : Chan} (h : c ≠ ch) :
    (placeFrame ch new s).frames c = s.frames c := by
  unfold placeFrame
  by_cases k : takesFrames (s.floor ch) = true
  · by_cases e : overflows new (s.frames ch) = true <;> simp [k, e, h]
  · simp [k]

/-- R124, R126: a placement changes the queue of its channel and, where it overflows, the latches. -/
theorem placeFrame_only (ch : Chan) (new : Frame) (s : State) : Only [.downlink, .links] s (placeFrame ch new s) := by
  unfold placeFrame
  refine Only.ite _ ?_ (Only.refl _ _)
  have h := (setFrames_only ch (placeIn new (s.frames ch)) s).mono (gs := [.downlink, .links]) (by simp)
  by_cases e : overflows new (s.frames ch) = true
  · simp only [e, if_true]
    exact h.trans ((latchAll_only _ _ _).mono (by simp))
  · simpa [e] using h

theorem orderTo_only (u : UnitId) (b : FrameBody) (s : State) : Only [.downlink, .links] s (orderTo u b s) :=
  placeFrame_only _ _ _

/-- R28: an answer to a unit is a placement, an answer to a console a notice. -/
theorem answer_only (ch : Chan) (p : Party) (a : TalkAnswer) (s : State) :
    Only [.downlink, .links] s (answer ch p a s) := by
  cases p with
  | unit u => exact placeFrame_only _ _ _
  | console c => exact (notify_only _ _ _).mono (by simp)

/-- R28: an answer leaves the other queues alone. -/
@[simp] theorem answer_frames_ne (ch : Chan) (p : Party) (a : TalkAnswer) (s : State) {c : Chan} (h : c ≠ ch) :
    (answer ch p a s).frames c = s.frames c := by
  cases p with
  | unit u => exact placeFrame_frames_ne _ _ _ h
  | console c => rfl

/-! ## placeFrame -/

@[simp] theorem placeFrame_time (ch : Chan) (f : Frame) (s : State) : (placeFrame ch f s).time = s.time := (placeFrame_only _ _ _).time
@[simp] theorem placeFrame_part (ch : Chan) (f : Frame) (s : State) : (placeFrame ch f s).part = s.part := (placeFrame_only _ _ _).part
@[simp] theorem placeFrame_resetLine (ch : Chan) (f : Frame) (s : State) : (placeFrame ch f s).resetLine = s.resetLine := (placeFrame_only _ _ _).resetLine
@[simp] theorem placeFrame_channels (ch : Chan) (f : Frame) (s : State) : (placeFrame ch f s).channels = s.channels := (placeFrame_only _ _ _).channels
@[simp] theorem placeFrame_globals (ch : Chan) (f : Frame) (s : State) : (placeFrame ch f s).globals = s.globals := (placeFrame_only _ _ _).globals
@[simp] theorem placeFrame_moves (ch : Chan) (f : Frame) (s : State) : (placeFrame ch f s).moves = s.moves := (placeFrame_only _ _ _).moves
@[simp] theorem placeFrame_floors (ch : Chan) (f : Frame) (s : State) : (placeFrame ch f s).floors = s.floors := (placeFrame_only _ _ _).floors
@[simp] theorem placeFrame_units (ch : Chan) (f : Frame) (s : State) : (placeFrame ch f s).units = s.units := (placeFrame_only _ _ _).units
@[simp] theorem placeFrame_slots (ch : Chan) (f : Frame) (s : State) : (placeFrame ch f s).slots = s.slots := (placeFrame_only _ _ _).slots
@[simp] theorem placeFrame_quiet (ch : Chan) (f : Frame) (s : State) : (placeFrame ch f s).quiet = s.quiet := (placeFrame_only _ _ _).quiet
@[simp] theorem placeFrame_ports (ch : Chan) (f : Frame) (s : State) : (placeFrame ch f s).ports = s.ports := (placeFrame_only _ _ _).ports
@[simp] theorem placeFrame_tests (ch : Chan) (f : Frame) (s : State) : (placeFrame ch f s).tests = s.tests := (placeFrame_only _ _ _).tests
@[simp] theorem placeFrame_sequences (ch : Chan) (f : Frame) (s : State) : (placeFrame ch f s).sequences = s.sequences := (placeFrame_only _ _ _).sequences
@[simp] theorem placeFrame_patterns (ch : Chan) (f : Frame) (s : State) : (placeFrame ch f s).patterns = s.patterns := (placeFrame_only _ _ _).patterns
@[simp] theorem placeFrame_generators (ch : Chan) (f : Frame) (s : State) : (placeFrame ch f s).generators = s.generators := (placeFrame_only _ _ _).generators
@[simp] theorem placeFrame_sent (ch : Chan) (f : Frame) (s : State) : (placeFrame ch f s).sent = s.sent := (placeFrame_only _ _ _).sent
@[simp] theorem placeFrame_pending (ch : Chan) (f : Frame) (s : State) : (placeFrame ch f s).pending = s.pending := (placeFrame_only _ _ _).pending
@[simp] theorem placeFrame_floor (ch : Chan) (f : Frame) (s : State) (x : Chan) : (placeFrame ch f s).floor x = s.floor x :=
  State.floor_congr (by simp) x
@[simp] theorem placeFrame_port (ch : Chan) (f : Frame) (s : State) (x : Port) : (placeFrame ch f s).port x = s.port x :=
  State.port_congr (by simp) x
@[simp] theorem placeFrame_chan (ch : Chan) (f : Frame) (s : State) (x : Chan) : (placeFrame ch f s).chan x = s.chan x :=
  State.chan_congr (by simp) x
@[simp] theorem placeFrame_move (ch : Chan) (f : Frame) (s : State) (x : MoveIx) : (placeFrame ch f s).move x = s.move x :=
  State.move_congr (by simp) x
@[simp] theorem placeFrame_slot (ch : Chan) (f : Frame) (s : State) (x : SlotIx) : (placeFrame ch f s).slot x = s.slot x :=
  State.slot_congr (by simp) x
@[simp] theorem placeFrame_testOf (ch : Chan) (f : Frame) (s : State) (x : Port) : (placeFrame ch f s).testOf x = s.testOf x :=
  State.testOf_congr (by simp) x
@[simp] theorem placeFrame_generator (ch : Chan) (f : Frame) (s : State) (x : Chan) : (placeFrame ch f s).generator x = s.generator x :=
  State.generator_congr (by simp) x
@[simp] theorem placeFrame_unit (ch : Chan) (f : Frame) (s : State) (x : UnitId) : (placeFrame ch f s).unit x = s.unit x :=
  State.unit_congr (by simp) x
@[simp] theorem placeFrame_bindingOf (ch : Chan) (f : Frame) (s : State) (x : Party) : (placeFrame ch f s).bindingOf x = s.bindingOf x :=
  State.bindingOf_congr (by simp) x
@[simp] theorem placeFrame_currentOf (ch : Chan) (f : Frame) (s : State) (x : UnitId) : (placeFrame ch f s).currentOf x = s.currentOf x :=
  State.currentOf_congr (by simp) x
@[simp] theorem placeFrame_kindOf (ch : Chan) (f : Frame) (s : State) (x : UnitId) : (placeFrame ch f s).kindOf x = s.kindOf x :=
  State.kindOf_congr (by simp) x
@[simp] theorem placeFrame_carrier (ch : Chan) (f : Frame) (s : State) (x : Chan) : (placeFrame ch f s).carrier x = s.carrier x :=
  State.carrier_congr (by simp) x
@[simp] theorem placeFrame_carriedBy (ch : Chan) (f : Frame) (s : State) (x : Port) : (placeFrame ch f s).carriedBy x = s.carriedBy x :=
  State.carriedBy_congr (by simp) x

/-! ## orderTo -/

@[simp] theorem orderTo_time (u : UnitId) (b : FrameBody) (s : State) : (orderTo u b s).time = s.time := (orderTo_only _ _ _).time
@[simp] theorem orderTo_part (u : UnitId) (b : FrameBody) (s : State) : (orderTo u b s).part = s.part := (orderTo_only _ _ _).part
@[simp] theorem orderTo_resetLine (u : UnitId) (b : FrameBody) (s : State) : (orderTo u b s).resetLine = s.resetLine := (orderTo_only _ _ _).resetLine
@[simp] theorem orderTo_channels (u : UnitId) (b : FrameBody) (s : State) : (orderTo u b s).channels = s.channels := (orderTo_only _ _ _).channels
@[simp] theorem orderTo_globals (u : UnitId) (b : FrameBody) (s : State) : (orderTo u b s).globals = s.globals := (orderTo_only _ _ _).globals
@[simp] theorem orderTo_moves (u : UnitId) (b : FrameBody) (s : State) : (orderTo u b s).moves = s.moves := (orderTo_only _ _ _).moves
@[simp] theorem orderTo_floors (u : UnitId) (b : FrameBody) (s : State) : (orderTo u b s).floors = s.floors := (orderTo_only _ _ _).floors
@[simp] theorem orderTo_units (u : UnitId) (b : FrameBody) (s : State) : (orderTo u b s).units = s.units := (orderTo_only _ _ _).units
@[simp] theorem orderTo_slots (u : UnitId) (b : FrameBody) (s : State) : (orderTo u b s).slots = s.slots := (orderTo_only _ _ _).slots
@[simp] theorem orderTo_quiet (u : UnitId) (b : FrameBody) (s : State) : (orderTo u b s).quiet = s.quiet := (orderTo_only _ _ _).quiet
@[simp] theorem orderTo_ports (u : UnitId) (b : FrameBody) (s : State) : (orderTo u b s).ports = s.ports := (orderTo_only _ _ _).ports
@[simp] theorem orderTo_tests (u : UnitId) (b : FrameBody) (s : State) : (orderTo u b s).tests = s.tests := (orderTo_only _ _ _).tests
@[simp] theorem orderTo_sequences (u : UnitId) (b : FrameBody) (s : State) : (orderTo u b s).sequences = s.sequences := (orderTo_only _ _ _).sequences
@[simp] theorem orderTo_patterns (u : UnitId) (b : FrameBody) (s : State) : (orderTo u b s).patterns = s.patterns := (orderTo_only _ _ _).patterns
@[simp] theorem orderTo_generators (u : UnitId) (b : FrameBody) (s : State) : (orderTo u b s).generators = s.generators := (orderTo_only _ _ _).generators
@[simp] theorem orderTo_sent (u : UnitId) (b : FrameBody) (s : State) : (orderTo u b s).sent = s.sent := (orderTo_only _ _ _).sent
@[simp] theorem orderTo_pending (u : UnitId) (b : FrameBody) (s : State) : (orderTo u b s).pending = s.pending := (orderTo_only _ _ _).pending
@[simp] theorem orderTo_floor (u : UnitId) (b : FrameBody) (s : State) (x : Chan) : (orderTo u b s).floor x = s.floor x :=
  State.floor_congr (by simp) x
@[simp] theorem orderTo_port (u : UnitId) (b : FrameBody) (s : State) (x : Port) : (orderTo u b s).port x = s.port x :=
  State.port_congr (by simp) x
@[simp] theorem orderTo_chan (u : UnitId) (b : FrameBody) (s : State) (x : Chan) : (orderTo u b s).chan x = s.chan x :=
  State.chan_congr (by simp) x
@[simp] theorem orderTo_move (u : UnitId) (b : FrameBody) (s : State) (x : MoveIx) : (orderTo u b s).move x = s.move x :=
  State.move_congr (by simp) x
@[simp] theorem orderTo_slot (u : UnitId) (b : FrameBody) (s : State) (x : SlotIx) : (orderTo u b s).slot x = s.slot x :=
  State.slot_congr (by simp) x
@[simp] theorem orderTo_testOf (u : UnitId) (b : FrameBody) (s : State) (x : Port) : (orderTo u b s).testOf x = s.testOf x :=
  State.testOf_congr (by simp) x
@[simp] theorem orderTo_generator (u : UnitId) (b : FrameBody) (s : State) (x : Chan) : (orderTo u b s).generator x = s.generator x :=
  State.generator_congr (by simp) x
@[simp] theorem orderTo_unit (u : UnitId) (b : FrameBody) (s : State) (x : UnitId) : (orderTo u b s).unit x = s.unit x :=
  State.unit_congr (by simp) x
@[simp] theorem orderTo_bindingOf (u : UnitId) (b : FrameBody) (s : State) (x : Party) : (orderTo u b s).bindingOf x = s.bindingOf x :=
  State.bindingOf_congr (by simp) x
@[simp] theorem orderTo_currentOf (u : UnitId) (b : FrameBody) (s : State) (x : UnitId) : (orderTo u b s).currentOf x = s.currentOf x :=
  State.currentOf_congr (by simp) x
@[simp] theorem orderTo_kindOf (u : UnitId) (b : FrameBody) (s : State) (x : UnitId) : (orderTo u b s).kindOf x = s.kindOf x :=
  State.kindOf_congr (by simp) x
@[simp] theorem orderTo_carrier (u : UnitId) (b : FrameBody) (s : State) (x : Chan) : (orderTo u b s).carrier x = s.carrier x :=
  State.carrier_congr (by simp) x
@[simp] theorem orderTo_carriedBy (u : UnitId) (b : FrameBody) (s : State) (x : Port) : (orderTo u b s).carriedBy x = s.carriedBy x :=
  State.carriedBy_congr (by simp) x

/-! ## answer -/

@[simp] theorem answer_time (ch : Chan) (p : Party) (a : TalkAnswer) (s : State) : (answer ch p a s).time = s.time := (answer_only _ _ _ _).time
@[simp] theorem answer_part (ch : Chan) (p : Party) (a : TalkAnswer) (s : State) : (answer ch p a s).part = s.part := (answer_only _ _ _ _).part
@[simp] theorem answer_resetLine (ch : Chan) (p : Party) (a : TalkAnswer) (s : State) : (answer ch p a s).resetLine = s.resetLine := (answer_only _ _ _ _).resetLine
@[simp] theorem answer_channels (ch : Chan) (p : Party) (a : TalkAnswer) (s : State) : (answer ch p a s).channels = s.channels := (answer_only _ _ _ _).channels
@[simp] theorem answer_globals (ch : Chan) (p : Party) (a : TalkAnswer) (s : State) : (answer ch p a s).globals = s.globals := (answer_only _ _ _ _).globals
@[simp] theorem answer_moves (ch : Chan) (p : Party) (a : TalkAnswer) (s : State) : (answer ch p a s).moves = s.moves := (answer_only _ _ _ _).moves
@[simp] theorem answer_floors (ch : Chan) (p : Party) (a : TalkAnswer) (s : State) : (answer ch p a s).floors = s.floors := (answer_only _ _ _ _).floors
@[simp] theorem answer_units (ch : Chan) (p : Party) (a : TalkAnswer) (s : State) : (answer ch p a s).units = s.units := (answer_only _ _ _ _).units
@[simp] theorem answer_slots (ch : Chan) (p : Party) (a : TalkAnswer) (s : State) : (answer ch p a s).slots = s.slots := (answer_only _ _ _ _).slots
@[simp] theorem answer_quiet (ch : Chan) (p : Party) (a : TalkAnswer) (s : State) : (answer ch p a s).quiet = s.quiet := (answer_only _ _ _ _).quiet
@[simp] theorem answer_ports (ch : Chan) (p : Party) (a : TalkAnswer) (s : State) : (answer ch p a s).ports = s.ports := (answer_only _ _ _ _).ports
@[simp] theorem answer_tests (ch : Chan) (p : Party) (a : TalkAnswer) (s : State) : (answer ch p a s).tests = s.tests := (answer_only _ _ _ _).tests
@[simp] theorem answer_sequences (ch : Chan) (p : Party) (a : TalkAnswer) (s : State) : (answer ch p a s).sequences = s.sequences := (answer_only _ _ _ _).sequences
@[simp] theorem answer_patterns (ch : Chan) (p : Party) (a : TalkAnswer) (s : State) : (answer ch p a s).patterns = s.patterns := (answer_only _ _ _ _).patterns
@[simp] theorem answer_generators (ch : Chan) (p : Party) (a : TalkAnswer) (s : State) : (answer ch p a s).generators = s.generators := (answer_only _ _ _ _).generators
@[simp] theorem answer_sent (ch : Chan) (p : Party) (a : TalkAnswer) (s : State) : (answer ch p a s).sent = s.sent := (answer_only _ _ _ _).sent
@[simp] theorem answer_pending (ch : Chan) (p : Party) (a : TalkAnswer) (s : State) : (answer ch p a s).pending = s.pending := (answer_only _ _ _ _).pending
@[simp] theorem answer_floor (ch : Chan) (p : Party) (a : TalkAnswer) (s : State) (x : Chan) : (answer ch p a s).floor x = s.floor x :=
  State.floor_congr (by simp) x
@[simp] theorem answer_port (ch : Chan) (p : Party) (a : TalkAnswer) (s : State) (x : Port) : (answer ch p a s).port x = s.port x :=
  State.port_congr (by simp) x
@[simp] theorem answer_chan (ch : Chan) (p : Party) (a : TalkAnswer) (s : State) (x : Chan) : (answer ch p a s).chan x = s.chan x :=
  State.chan_congr (by simp) x
@[simp] theorem answer_move (ch : Chan) (p : Party) (a : TalkAnswer) (s : State) (x : MoveIx) : (answer ch p a s).move x = s.move x :=
  State.move_congr (by simp) x
@[simp] theorem answer_slot (ch : Chan) (p : Party) (a : TalkAnswer) (s : State) (x : SlotIx) : (answer ch p a s).slot x = s.slot x :=
  State.slot_congr (by simp) x
@[simp] theorem answer_testOf (ch : Chan) (p : Party) (a : TalkAnswer) (s : State) (x : Port) : (answer ch p a s).testOf x = s.testOf x :=
  State.testOf_congr (by simp) x
@[simp] theorem answer_generator (ch : Chan) (p : Party) (a : TalkAnswer) (s : State) (x : Chan) : (answer ch p a s).generator x = s.generator x :=
  State.generator_congr (by simp) x
@[simp] theorem answer_unit (ch : Chan) (p : Party) (a : TalkAnswer) (s : State) (x : UnitId) : (answer ch p a s).unit x = s.unit x :=
  State.unit_congr (by simp) x
@[simp] theorem answer_bindingOf (ch : Chan) (p : Party) (a : TalkAnswer) (s : State) (x : Party) : (answer ch p a s).bindingOf x = s.bindingOf x :=
  State.bindingOf_congr (by simp) x
@[simp] theorem answer_currentOf (ch : Chan) (p : Party) (a : TalkAnswer) (s : State) (x : UnitId) : (answer ch p a s).currentOf x = s.currentOf x :=
  State.currentOf_congr (by simp) x
@[simp] theorem answer_kindOf (ch : Chan) (p : Party) (a : TalkAnswer) (s : State) (x : UnitId) : (answer ch p a s).kindOf x = s.kindOf x :=
  State.kindOf_congr (by simp) x
@[simp] theorem answer_carrier (ch : Chan) (p : Party) (a : TalkAnswer) (s : State) (x : Chan) : (answer ch p a s).carrier x = s.carrier x :=
  State.carrier_congr (by simp) x
@[simp] theorem answer_carriedBy (ch : Chan) (p : Party) (a : TalkAnswer) (s : State) (x : Port) : (answer ch p a s).carriedBy x = s.carriedBy x :=
  State.carriedBy_congr (by simp) x

/-! ## hunt -/

@[simp] theorem hunt_time (l : Console) (s : State) : (hunt l s).time = s.time := (hunt_only _ _).time
@[simp] theorem hunt_part (l : Console) (s : State) : (hunt l s).part = s.part := (hunt_only _ _).part
@[simp] theorem hunt_resetLine (l : Console) (s : State) : (hunt l s).resetLine = s.resetLine := (hunt_only _ _).resetLine
@[simp] theorem hunt_channels (l : Console) (s : State) : (hunt l s).channels = s.channels := (hunt_only _ _).channels
@[simp] theorem hunt_globals (l : Console) (s : State) : (hunt l s).globals = s.globals := (hunt_only _ _).globals
@[simp] theorem hunt_moves (l : Console) (s : State) : (hunt l s).moves = s.moves := (hunt_only _ _).moves
@[simp] theorem hunt_floors (l : Console) (s : State) : (hunt l s).floors = s.floors := (hunt_only _ _).floors
@[simp] theorem hunt_downlink (l : Console) (s : State) : (hunt l s).downlink = s.downlink := (hunt_only _ _).downlink
@[simp] theorem hunt_units (l : Console) (s : State) : (hunt l s).units = s.units := (hunt_only _ _).units
@[simp] theorem hunt_slots (l : Console) (s : State) : (hunt l s).slots = s.slots := (hunt_only _ _).slots
@[simp] theorem hunt_quiet (l : Console) (s : State) : (hunt l s).quiet = s.quiet := (hunt_only _ _).quiet
@[simp] theorem hunt_ports (l : Console) (s : State) : (hunt l s).ports = s.ports := (hunt_only _ _).ports
@[simp] theorem hunt_tests (l : Console) (s : State) : (hunt l s).tests = s.tests := (hunt_only _ _).tests
@[simp] theorem hunt_sequences (l : Console) (s : State) : (hunt l s).sequences = s.sequences := (hunt_only _ _).sequences
@[simp] theorem hunt_patterns (l : Console) (s : State) : (hunt l s).patterns = s.patterns := (hunt_only _ _).patterns
@[simp] theorem hunt_generators (l : Console) (s : State) : (hunt l s).generators = s.generators := (hunt_only _ _).generators
@[simp] theorem hunt_sent (l : Console) (s : State) : (hunt l s).sent = s.sent := (hunt_only _ _).sent
@[simp] theorem hunt_pending (l : Console) (s : State) : (hunt l s).pending = s.pending := (hunt_only _ _).pending
@[simp] theorem hunt_floor (l : Console) (s : State) (x : Chan) : (hunt l s).floor x = s.floor x :=
  State.floor_congr (by simp) x
@[simp] theorem hunt_port (l : Console) (s : State) (x : Port) : (hunt l s).port x = s.port x :=
  State.port_congr (by simp) x
@[simp] theorem hunt_chan (l : Console) (s : State) (x : Chan) : (hunt l s).chan x = s.chan x :=
  State.chan_congr (by simp) x
@[simp] theorem hunt_move (l : Console) (s : State) (x : MoveIx) : (hunt l s).move x = s.move x :=
  State.move_congr (by simp) x
@[simp] theorem hunt_slot (l : Console) (s : State) (x : SlotIx) : (hunt l s).slot x = s.slot x :=
  State.slot_congr (by simp) x
@[simp] theorem hunt_testOf (l : Console) (s : State) (x : Port) : (hunt l s).testOf x = s.testOf x :=
  State.testOf_congr (by simp) x
@[simp] theorem hunt_generator (l : Console) (s : State) (x : Chan) : (hunt l s).generator x = s.generator x :=
  State.generator_congr (by simp) x
@[simp] theorem hunt_frames (l : Console) (s : State) (x : Chan) : (hunt l s).frames x = s.frames x :=
  State.frames_congr (by simp) x
@[simp] theorem hunt_unit (l : Console) (s : State) (x : UnitId) : (hunt l s).unit x = s.unit x :=
  State.unit_congr (by simp) x
@[simp] theorem hunt_bindingOf (l : Console) (s : State) (x : Party) : (hunt l s).bindingOf x = s.bindingOf x :=
  State.bindingOf_congr (by simp) x
@[simp] theorem hunt_currentOf (l : Console) (s : State) (x : UnitId) : (hunt l s).currentOf x = s.currentOf x :=
  State.currentOf_congr (by simp) x
@[simp] theorem hunt_kindOf (l : Console) (s : State) (x : UnitId) : (hunt l s).kindOf x = s.kindOf x :=
  State.kindOf_congr (by simp) x
@[simp] theorem hunt_carrier (l : Console) (s : State) (x : Chan) : (hunt l s).carrier x = s.carrier x :=
  State.carrier_congr (by simp) x
@[simp] theorem hunt_carriedBy (l : Console) (s : State) (x : Port) : (hunt l s).carriedBy x = s.carriedBy x :=
  State.carriedBy_congr (by simp) x

/-! ## respond -/

@[simp] theorem respond_time (l : Console) (r : Response) (s : State) : (respond l r s).time = s.time := (respond_only _ _ _).time
@[simp] theorem respond_part (l : Console) (r : Response) (s : State) : (respond l r s).part = s.part := (respond_only _ _ _).part
@[simp] theorem respond_resetLine (l : Console) (r : Response) (s : State) : (respond l r s).resetLine = s.resetLine := (respond_only _ _ _).resetLine
@[simp] theorem respond_channels (l : Console) (r : Response) (s : State) : (respond l r s).channels = s.channels := (respond_only _ _ _).channels
@[simp] theorem respond_globals (l : Console) (r : Response) (s : State) : (respond l r s).globals = s.globals := (respond_only _ _ _).globals
@[simp] theorem respond_moves (l : Console) (r : Response) (s : State) : (respond l r s).moves = s.moves := (respond_only _ _ _).moves
@[simp] theorem respond_floors (l : Console) (r : Response) (s : State) : (respond l r s).floors = s.floors := (respond_only _ _ _).floors
@[simp] theorem respond_downlink (l : Console) (r : Response) (s : State) : (respond l r s).downlink = s.downlink := (respond_only _ _ _).downlink
@[simp] theorem respond_units (l : Console) (r : Response) (s : State) : (respond l r s).units = s.units := (respond_only _ _ _).units
@[simp] theorem respond_slots (l : Console) (r : Response) (s : State) : (respond l r s).slots = s.slots := (respond_only _ _ _).slots
@[simp] theorem respond_quiet (l : Console) (r : Response) (s : State) : (respond l r s).quiet = s.quiet := (respond_only _ _ _).quiet
@[simp] theorem respond_ports (l : Console) (r : Response) (s : State) : (respond l r s).ports = s.ports := (respond_only _ _ _).ports
@[simp] theorem respond_tests (l : Console) (r : Response) (s : State) : (respond l r s).tests = s.tests := (respond_only _ _ _).tests
@[simp] theorem respond_sequences (l : Console) (r : Response) (s : State) : (respond l r s).sequences = s.sequences := (respond_only _ _ _).sequences
@[simp] theorem respond_patterns (l : Console) (r : Response) (s : State) : (respond l r s).patterns = s.patterns := (respond_only _ _ _).patterns
@[simp] theorem respond_generators (l : Console) (r : Response) (s : State) : (respond l r s).generators = s.generators := (respond_only _ _ _).generators
@[simp] theorem respond_sent (l : Console) (r : Response) (s : State) : (respond l r s).sent = s.sent := (respond_only _ _ _).sent
@[simp] theorem respond_pending (l : Console) (r : Response) (s : State) : (respond l r s).pending = s.pending := (respond_only _ _ _).pending
@[simp] theorem respond_floor (l : Console) (r : Response) (s : State) (x : Chan) : (respond l r s).floor x = s.floor x :=
  State.floor_congr (by simp) x
@[simp] theorem respond_port (l : Console) (r : Response) (s : State) (x : Port) : (respond l r s).port x = s.port x :=
  State.port_congr (by simp) x
@[simp] theorem respond_chan (l : Console) (r : Response) (s : State) (x : Chan) : (respond l r s).chan x = s.chan x :=
  State.chan_congr (by simp) x
@[simp] theorem respond_move (l : Console) (r : Response) (s : State) (x : MoveIx) : (respond l r s).move x = s.move x :=
  State.move_congr (by simp) x
@[simp] theorem respond_slot (l : Console) (r : Response) (s : State) (x : SlotIx) : (respond l r s).slot x = s.slot x :=
  State.slot_congr (by simp) x
@[simp] theorem respond_testOf (l : Console) (r : Response) (s : State) (x : Port) : (respond l r s).testOf x = s.testOf x :=
  State.testOf_congr (by simp) x
@[simp] theorem respond_generator (l : Console) (r : Response) (s : State) (x : Chan) : (respond l r s).generator x = s.generator x :=
  State.generator_congr (by simp) x
@[simp] theorem respond_frames (l : Console) (r : Response) (s : State) (x : Chan) : (respond l r s).frames x = s.frames x :=
  State.frames_congr (by simp) x
@[simp] theorem respond_unit (l : Console) (r : Response) (s : State) (x : UnitId) : (respond l r s).unit x = s.unit x :=
  State.unit_congr (by simp) x
@[simp] theorem respond_bindingOf (l : Console) (r : Response) (s : State) (x : Party) : (respond l r s).bindingOf x = s.bindingOf x :=
  State.bindingOf_congr (by simp) x
@[simp] theorem respond_currentOf (l : Console) (r : Response) (s : State) (x : UnitId) : (respond l r s).currentOf x = s.currentOf x :=
  State.currentOf_congr (by simp) x
@[simp] theorem respond_kindOf (l : Console) (r : Response) (s : State) (x : UnitId) : (respond l r s).kindOf x = s.kindOf x :=
  State.kindOf_congr (by simp) x
@[simp] theorem respond_carrier (l : Console) (r : Response) (s : State) (x : Chan) : (respond l r s).carrier x = s.carrier x :=
  State.carrier_congr (by simp) x
@[simp] theorem respond_carriedBy (l : Console) (r : Response) (s : State) (x : Port) : (respond l r s).carriedBy x = s.carriedBy x :=
  State.carriedBy_congr (by simp) x

end Sys2Proof.Machine
end

