-- ==== Sys2Proof/Laws/Commands.lean ====
section
/-! SUPPORT. Laws/Commands.lean: what every command row, air frame and timer row shares, said once: the answer of a command
on a listening link, the chain of its checks, the dispatch of an air frame, and a timer that has been reached. -/

namespace Sys2Proof.Machine

set_option Elab.async false

/-! ## Events (R187) -/

theorem event_next {f : State → State} {s : State} (h : s.resetLine = false) : event f s = .next (settle (f s)) := by
  simp [event, h]

theorem event_held {f : State → State} {s : State} (h : s.resetLine = true) : event f s = .next s := by
  simp [event, h]

/-! ## Timers (R192) -/

theorem expiry_reached {d : Time} {f : State → State} {s : State} (h : reached s.time d = true) :
    expiry (some d) f s = f s := by
  simp [expiry, reachedOpt, h]

@[simp] theorem expiry_none (f : State → State) (s : State) : expiry none f s = s := rfl

@[simp] theorem whenSome_none {α : Type} (f : α → State → State) (s : State) : whenSome none f s = s := rfl

@[simp] theorem whenSome_some {α : Type} (x : α) (f : α → State → State) (s : State) : whenSome (some x) f s = f x s := rfl

/-! ## Commands (R178, R179) -/

/-- R178: a command on a listening link is carried out on the state with its frame gone, and answered. -/
theorem command_row {link : Console} {code : Byte} {c : Cmd} {s : State} (h : Listening link s) :
    event (takeCommand link code c) s = answeredWith link code (c (hunt link s)).1 (c (hunt link s)).2 := by
  have k : (s.link link).responses.length < Config.responseRoom := h.2
  simp [event, h.1, takeCommand, k, answerFrame, answeredWith]

theorem refuse_apply (r : Reason) (s : State) : refuse r s = (.refused r 0, s) := rfl
theorem refuseFor_apply (r : Reason) (d : BitVec 16) (s : State) : refuseFor r d s = (.refused r d, s) := rfl
theorem accept_apply (b : Bool) (x : Result) (f : State → State) (s : State) : accept b x f s = (.accepted b x, f s) := rfl
theorem done_apply (f : State → State) (s : State) : done f s = (.accepted false .none, f s) := rfl
theorem look_apply (f : State → Cmd) (s : State) : look f s = f s s := rfl

theorem check_apply (ok : Bool) (r : Reason) (c : Cmd) (s : State) :
    check ok r c s = if ok = true then c s else (.refused r 0, s) := by
  cases ok <;> rfl

theorem need_some {α : Type} (x : α) (r : Reason) (c : α → Cmd) : need (some x) r c = c x := rfl
theorem need_none {α : Type} (r : Reason) (c : α → Cmd) : need none r c = refuse r := rfl
theorem noneOf_none (r : Reason) (c : Cmd) : noneOf none r c = c := rfl
theorem noneOf_some (u : UnitId) (r : Reason) (c : Cmd) : noneOf (some u) r c = refuseFor r u := rfl

/-! ## Checks in order (R3, R4, R188) -/

theorem refusedAtFirst_nil (link : Console) (c : Command) (s : State) : RefusedAtFirst link c [] s := by
  intro before ok reason detail behind h
  simp at h

/-- The first check refuses the command, or the rest decides. -/
theorem refusedAtFirst_cons (link : Console) (c : Command) (ok : Prop) (reason : Reason) (detail : BitVec 16)
    (rest : List (Prop × Reason × BitVec 16)) (s : State) :
    RefusedAtFirst link c ((ok, reason, detail) :: rest) s ↔
      (¬ ok → exec (commandRow link c) s = answeredWith link (commandCode c) (.refused reason detail) (hunt link s)) ∧
        (ok → RefusedAtFirst link c rest s) := by
  constructor
  · intro h
    refine ⟨fun hn => h [] ok reason detail rest rfl (by simp) hn, fun ho => ?_⟩
    intro before ok' reason' detail' behind e hb hn
    refine h ((ok, reason, detail) :: before) ok' reason' detail' behind (by rw [e]; rfl) ?_ hn
    intro x hx
    rcases List.mem_cons.1 hx with rfl | hx
    · exact ho
    · exact hb x hx
  · rintro ⟨h1, h2⟩ before ok' reason' detail' behind e hb hn
    cases before with
    | nil =>
      obtain ⟨he, -⟩ := List.cons.inj e
      cases he
      exact h1 hn
    | cons y ys =>
      obtain ⟨he, ht⟩ := List.cons.inj e
      subst he
      exact h2 (hb (ok, reason, detail) (by simp)) ys ok' reason' detail' behind ht
        (fun x hx => hb x (List.mem_cons_of_mem _ hx)) hn

/-- A run of checks of one reason, one for each of some units, in order: the first unit that fails is named. -/
theorem refusedAtFirst_each (link : Console) (c : Command) (p : UnitId → Prop) (reason : Reason) (us : List UnitId)
    (rest : List (Prop × Reason × BitVec 16)) (s : State) :
    RefusedAtFirst link c (us.map (fun x => (p x, reason, x)) ++ rest) s ↔
      (∀ before x behind, us = before ++ x :: behind → (∀ y ∈ before, p y) → ¬ p x →
        exec (commandRow link c) s = answeredWith link (commandCode c) (.refused reason x) (hunt link s)) ∧
        ((∀ x ∈ us, p x) → RefusedAtFirst link c rest s) := by
  induction us with
  | nil => simp
  | cons u us ih =>
    rw [List.map_cons, List.cons_append, refusedAtFirst_cons, ih]
    constructor
    · rintro ⟨h1, h2⟩
      refine ⟨fun before x behind e hb hn => ?_, fun h => (h2 (h u (by simp))).2 (fun x hx => h x (by simp [hx]))⟩
      cases before with
      | nil => cases e; exact h1 hn
      | cons y ys =>
        obtain ⟨rfl, e'⟩ := List.cons.inj e
        exact (h2 (hb u (by simp))).1 ys x behind e' (fun z hz => hb z (by simp [hz])) hn
    · rintro ⟨h1, h2⟩
      refine ⟨fun hn => h1 [] u us rfl (by simp) hn, fun hu => ⟨fun before x behind e hb hn => ?_, fun h => ?_⟩⟩
      · refine h1 (u :: before) x behind (by rw [e]; rfl) ?_ hn
        intro z hz
        rcases List.mem_cons.1 hz with rfl | hz
        · exact hu
        · exact hb z hz
      · exact h2 (by simpa using ⟨hu, h⟩)

/-! ## Air frames (R132, R133) -/

/-- R133: a frame that arrives is passed on after the refresh of its sender. -/
theorem arrives_event {p : Port} {ch : Chan} {src : UnitId} {f : Chan → State → State} {s : State}
    (h : Arrives p ch src s) : event (arrives p src f) s = .next (settle (f ch (refresh src s))) := by
  obtain ⟨hr, hp, ha, hc, hu, hk⟩ := h
  have k : s.carriedBy p = some ch := by simp [State.carriedBy, ha, hc]
  have e : arrives p src f s = f ch (refresh src s) := by
    unfold arrives
    rw [if_neg (by simp [hp]), k]
    simp [hu, hk]
  rw [event_next hr, e]

/-! ## Codes (R193) -/

theorem chanOf_eq {b : Byte} {ch : Chan} (h : b.toNat = ch.val) : chanOf b = some ch := by
  have k : b.toNat < 6 := h ▸ ch.isLt
  simp only [chanOf, k, dif_pos, Option.some.injEq]
  exact Fin.ext h

theorem portOf_eq {b : Byte} {p : Port} (h : b.toNat = p.val) : portOf b = some p := by
  have k : b.toNat < 7 := h ▸ p.isLt
  simp only [portOf, k, dif_pos, Option.some.injEq]
  exact Fin.ext h

theorem patternOf_eq {b : Byte} {k : PatternIx} (h : b.toNat = k.val) : patternOf b = some k := by
  have l : b.toNat < 16 := h ▸ k.isLt
  simp only [patternOf, l, dif_pos, Option.some.injEq]
  exact Fin.ext h

theorem moveOf_eq {b : Byte} {i : MoveIx} (h : b.toNat = i.val + 1) : moveOf b = some i := by
  have l : 1 ≤ b.toNat ∧ b.toNat ≤ 24 := by have := i.isLt; omega
  simp only [moveOf, l, and_self, dif_pos, Option.some.injEq]
  exact Fin.ext (by simp only [h]; omega)

/-! ## The framer of a link is not in the way of the rest (R178) -/

@[simp] theorem hunt_listening (link : Console) (s : State) :
    ((hunt link s).link link).responses = (s.link link).responses := by
  simp [hunt, modLink]

theorem hunt_link_self (link : Console) (s : State) :
    (hunt link s).link link = { s.link link with framer := none } := by
  simp [hunt, modLink]

theorem hunt_link_ne (link : Console) (s : State) {c : Console} (h : c ≠ link) : (hunt link s).link c = s.link c := by
  simp [hunt, modLink, h]

end Sys2Proof.Machine
end

