-- ==== Sys2Proof/Laws/Talk.lean ====
section
/-! SUPPORT. Laws/Talk.lean: the frame of every operation of the Floor Controller: nothing but its own floor, frames and
generator, the gates, the messages sent and the links (TalkFrame of Safety.lean), and the operations that act on several
channels (Only talkFields). -/

namespace Sys2Proof.Machine

set_option Elab.async false

theorem setFloor_only (ch : Chan) (f : Floor) (s : State) : Only [.floors] s (setFloor ch f s) := by
  intro f hf; cases f <;> first | exact rfl | simp at hf

theorem modFloor_only (ch : Chan) (g : Floor → Floor) (s : State) : Only [.floors] s (modFloor ch g s) :=
  setFloor_only _ _ _

theorem modFloorTested_only (ch : Chan) (g : Floor → Floor) (s : State) : Only [.floors] s (modFloorTested ch g s) :=
  setFloor_only _ _ _

@[simp] theorem modFloor_floor_self (ch : Chan) (g : Floor → Floor) (s : State) :
    (modFloor ch g s).floor ch = g (s.floor ch) := setFloor_floor_self _ _ _

@[simp] theorem modFloor_floor_ne (ch : Chan) (g : Floor → Floor) (s : State) {c : Chan} (h : c ≠ ch) :
    (modFloor ch g s).floor c = s.floor c := setFloor_floor_ne _ _ _ h

@[simp] theorem modFloorTested_floor_self (ch : Chan) (g : Floor → Floor) (s : State) :
    (modFloorTested ch g s).floor ch = (g (s.floor ch)).retest (s.floor ch).isForeign s.time :=
  modFloor_floor_self _ _ _

@[simp] theorem modFloorTested_floor_ne (ch : Chan) (g : Floor → Floor) (s : State) {c : Chan} (h : c ≠ ch) :
    (modFloorTested ch g s).floor c = s.floor c := modFloor_floor_ne _ _ _ h

/-! ## TalkFrame composes -/

theorem TalkFrame.only {ch : Chan} {s u : State} (h : TalkFrame ch s u) : Only talkFields s u := by
  intro f hf
  have e := h.1
  cases f <;> first | (exact absurd hf (by decide)) | (rw [e]; exact rfl)

theorem TalkFrame.of_only {ch : Chan} {s u : State} (h : Only talkFields s u)
    (k : ∀ c, c ≠ ch → u.floor c = s.floor c ∧ u.frames c = s.frames c ∧ u.generator c = s.generator c)
    (p : ∀ p, u.port p = { s.port p with pins := { (s.port p).pins with gate := (u.port p).pins.gate } }) :
    TalkFrame ch s u := by
  refine ⟨State.eq_of_fields h.time h.part h.resetLine h.channels h.globals h.moves rfl rfl h.units h.slots h.quiet rfl
    h.tests h.sequences h.patterns rfl rfl rfl h.pending, k, p⟩

theorem TalkFrame.refl (ch : Chan) (s : State) : TalkFrame ch s s :=
  .of_only (.refl _ _) (fun _ _ => ⟨rfl, rfl, rfl⟩) (fun _ => rfl)

theorem TalkFrame.trans {ch : Chan} {s t u : State} (h : TalkFrame ch s t) (k : TalkFrame ch t u) : TalkFrame ch s u := by
  refine .of_only (h.only.trans k.only) (fun c hc => ?_) (fun p => ?_)
  · have a := h.2.1 c hc
    have b := k.2.1 c hc
    exact ⟨b.1.trans a.1, b.2.1.trans a.2.1, b.2.2.trans a.2.2⟩
  · have a := h.2.2 p
    have b := k.2.2 p
    rw [b, a]

theorem TalkFrame.ite {ch : Chan} {s t u : State} (c : Prop) [Decidable c] (h : TalkFrame ch s t) (k : TalkFrame ch s u) :
    TalkFrame ch s (if c then t else u) := by
  by_cases e : c <;> simp [e, h, k]

theorem TalkFrame.iteFun {ch : Chan} {s t : State} {f g : State → State} (c : Prop) [Decidable c]
    (h : TalkFrame ch s (f t)) (k : TalkFrame ch s (g t)) : TalkFrame ch s ((if c then f else g) t) := by
  by_cases e : c <;> simp [e, h, k]

/-! ## One channel -/

theorem setFloor_frame (ch : Chan) (f : Floor) (s : State) : TalkFrame ch s (setFloor ch f s) :=
  .of_only ((setFloor_only ch f s).mono (by simp)) (fun _ hc => ⟨setFloor_floor_ne _ _ _ hc, rfl, rfl⟩) (fun _ => rfl)

theorem modFloor_frame (ch : Chan) (g : Floor → Floor) (s : State) : TalkFrame ch s (modFloor ch g s) :=
  setFloor_frame _ _ _

theorem modFloorTested_frame (ch : Chan) (g : Floor → Floor) (s : State) : TalkFrame ch s (modFloorTested ch g s) :=
  setFloor_frame _ _ _

theorem setGenerator_frame (ch : Chan) (g : Option Play) (s : State) : TalkFrame ch s (setGenerator ch g s) := by
  refine .of_only ?_ (fun c hc => ⟨rfl, rfl, setGenerator_generator_ne _ _ _ hc⟩) (fun _ => rfl)
  intro f hf; cases f <;> first | exact rfl | simp at hf

theorem notify_frame (ch : Chan) (c : Console) (b : NoticeBody) (s : State) : TalkFrame ch s (notify c b s) :=
  .of_only ((notify_only c b s).mono (by simp)) (fun _ _ => ⟨rfl, rfl, rfl⟩) (fun _ => rfl)

theorem broadcast_frame (ch : Chan) (b : NoticeBody) (s : State) : TalkFrame ch s (broadcast b s) :=
  .of_only ((broadcast_only b s).mono (by simp)) (fun _ _ => ⟨rfl, rfl, rfl⟩) (fun _ => rfl)

theorem latchAll_frame (ch c : Chan) (k : ChanLatch) (s : State) : TalkFrame ch s (latchAll c k s) :=
  .of_only ((latchAll_only c k s).mono (by simp)) (fun _ _ => ⟨rfl, rfl, rfl⟩) (fun _ => rfl)

theorem placeFrame_frame (ch : Chan) (f : Frame) (s : State) : TalkFrame ch s (placeFrame ch f s) :=
  .of_only ((placeFrame_only ch f s).mono (by simp)) (fun _ hc => ⟨by simp, placeFrame_frames_ne _ _ _ hc, by simp⟩)
    (fun _ => by simp)

theorem answer_frame (ch : Chan) (p : Party) (a : TalkAnswer) (s : State) : TalkFrame ch s (answer ch p a s) := by
  cases p with
  | unit u => exact placeFrame_frame _ _ _
  | console c => exact notify_frame _ _ _ _

theorem setFrames_frame (ch : Chan) (q : List Frame) (s : State) : TalkFrame ch s (setFrames ch q s) :=
  .of_only ((setFrames_only ch q s).mono (by simp)) (fun _ hc => ⟨rfl, setFrames_frames_ne _ _ _ hc, rfl⟩) (fun _ => rfl)

theorem sendGate_only (p : Port) (g : Option Party) (s : State) : Only [.ports, .sent] s (sendGate p g s) := by
  intro f hf; cases f <;> first | exact rfl | simp at hf

theorem sendGate_port (p : Port) (g : Option Party) (s : State) (q : Port) :
    (sendGate p g s).port q = if q = p then { s.port p with pins := { (s.port p).pins with gate := g } } else s.port q := by
  unfold sendGate
  rw [send_port]
  exact setPort_port _ _ _ _

/-- R34: a gate order changes the gate that the port holds. -/
theorem sendGate_frame (ch : Chan) (p : Port) (g : Option Party) (s : State) : TalkFrame ch s (sendGate p g s) := by
  refine .of_only ((sendGate_only p g s).mono (by simp)) (fun _ _ => ⟨rfl, rfl, rfl⟩) (fun q => ?_)
  rw [sendGate_port]
  by_cases h : q = p <;> simp [h]

theorem setGate_frame (ch : Chan) (g : Option Party) (s : State) : TalkFrame ch s (setGate ch g s) := by
  unfold setGate
  refine TalkFrame.ite _ (.refl _ _) ?_
  cases s.carrier ch with
  | none => exact modFloor_frame _ _ _
  | some p => exact (modFloor_frame _ _ _).trans (sendGate_frame _ _ _ _)

theorem closeGate_frame (ch : Chan) (s : State) : TalkFrame ch s (closeGate ch s) :=
  TalkFrame.ite _ (setGate_frame _ _ _) (.refl _ _)

theorem startPlay_frame (ch : Chan) (m : PlayMode) (pat : PatternIx) (s : State) : TalkFrame ch s (startPlay ch m pat s) := by
  unfold startPlay
  split
  · exact setGenerator_frame _ _ _
  · exact .refl _ _

theorem stopMix_frame (ch : Chan) (s : State) : TalkFrame ch s (stopMix ch s) := setGenerator_frame _ _ _

theorem requestMix_frame (ch : Chan) (pat : PatternIx) (s : State) : TalkFrame ch s (requestMix ch pat s) :=
  TalkFrame.ite _ (startPlay_frame _ _ _ _) (.refl _ _)

theorem stopSeize_frame (ch : Chan) (s : State) : TalkFrame ch s (stopSeize ch s) :=
  (modFloor_frame _ _ _).trans (setGenerator_frame _ _ _)

theorem makeRoom_frame (ch : Chan) (cls : TalkClass) (s : State) : TalkFrame ch s (makeRoom ch cls s) := by
  unfold makeRoom
  split
  · exact .refl _ _
  · exact (modFloor_frame _ _ _).trans (answer_frame _ _ _ _)

theorem enterQueue_frame (ch : Chan) (p : Party) (cls : TalkClass) (s : State) : TalkFrame ch s (enterQueue ch p cls s) :=
  (makeRoom_frame _ _ _).trans (modFloor_frame _ _ _)

theorem enqueue_frame (ch : Chan) (p : Party) (cls : TalkClass) (s : State) : TalkFrame ch s (enqueue ch p cls s) :=
  TalkFrame.ite _ (answer_frame _ _ _ _) ((enterQueue_frame _ _ _ _).trans (answer_frame _ _ _ _))

theorem renewEntry_frame (ch : Chan) (p : Party) (cls : TalkClass) (s : State) : TalkFrame ch s (renewEntry ch p cls s) :=
  modFloor_frame _ _ _

theorem denyEntry_frame (ch : Chan) (p : Party) (r : AirReason) (s : State) : TalkFrame ch s (denyEntry ch p r s) := by
  unfold denyEntry
  split
  · exact .refl _ _
  · exact (modFloor_frame _ _ _).trans (answer_frame _ _ _ _)

theorem fillGrant_frame (ch : Chan) (p : Party) (cls : TalkClass) (s : State) : TalkFrame ch s (fillGrant ch p cls s) :=
  modFloor_frame _ _ _

theorem issueGrant_frame (was : Bool) (ch : Chan) (p : Party) (cls : TalkClass) (s : State) :
    TalkFrame ch s (issueGrant was ch p cls s) := by
  refine TalkFrame.trans ?_ (modFloor_frame _ _ _)
  have h := ((fillGrant_frame ch p cls s).trans (answer_frame ch p (.granted cls) _)).trans (setGate_frame ch (some p) _)
  exact TalkFrame.iteFun _ (h.trans (requestMix_frame _ _ _)) h

theorem dropGrant_frame (ch : Chan) (r : Option AirReason) (s : State) : TalkFrame ch s (dropGrant ch r s) := by
  unfold dropGrant
  split
  · exact .refl _ _
  · cases r with
    | none => exact (modFloor_frame _ _ _).trans (stopMix_frame _ _)
    | some r => exact ((answer_frame _ _ _ _).trans (modFloor_frame _ _ _)).trans (stopMix_frame _ _)

theorem endGrant_frame (ch : Chan) (r : Option AirReason) (next : FloorState) (s : State) :
    TalkFrame ch s (endGrant ch r next s) :=
  TalkFrame.ite _ ((dropGrant_frame _ _ _).trans (modFloor_frame _ _ _)) (.refl _ _)

theorem startSeize_frame (ch : Chan) (s : State) : TalkFrame ch s (startSeize ch s) := by
  unfold startSeize
  split
  · exact .refl _ _
  · exact (((modFloorTested_frame _ _ _).trans (setGate_frame _ _ _)).trans (setGenerator_frame _ _ _)).trans
      (startPlay_frame _ _ _ _)

theorem serviceDecision_frame (ch : Chan) (s : State) : TalkFrame ch s (serviceDecision ch s) := by
  unfold serviceDecision
  refine TalkFrame.ite _ (TalkFrame.ite _ ?_ (startSeize_frame _ _)) (.refl _ _)
  split
  · exact .refl _ _
  · exact issueGrant_frame _ _ _ _ _

theorem endGrantIdle_frame (ch : Chan) (r : Option AirReason) (s : State) : TalkFrame ch s (endGrantIdle ch r s) :=
  TalkFrame.ite _ (((endGrant_frame _ _ _ _).trans (serviceDecision_frame _ _)).trans (closeGate_frame _ _)) (.refl _ _)

theorem endHang_frame (ch : Chan) (s : State) : TalkFrame ch s (endHang ch s) :=
  TalkFrame.ite _ (modFloorTested_frame _ _ _) (.refl _ _)

theorem preempt_frame (ch : Chan) (p : Party) (s : State) : TalkFrame ch s (preempt ch p s) := by
  unfold preempt
  refine TalkFrame.trans ?_ (issueGrant_frame _ _ _ _ _)
  cases (s.floor ch).state <;> first | exact .refl _ _ | exact dropGrant_frame _ _ _ | exact stopSeize_frame _ _

theorem requestInIdle_frame (ch : Chan) (p : Party) (cls : TalkClass) (s : State) :
    TalkFrame ch s (requestInIdle ch p cls s) := by
  unfold requestInIdle
  refine TalkFrame.ite _ (answer_frame _ _ _ _) ?_
  have h := (enterQueue_frame ch p cls s).trans (serviceDecision_frame ch _)
  exact TalkFrame.ite _ (h.trans (answer_frame _ _ _ _)) h

theorem talkOutcome_frame (ch : Chan) (p : Party) (cls : TalkClass) (s : State) :
    TalkFrame ch s (talkOutcome ch p cls s) := by
  unfold talkOutcome
  refine TalkFrame.ite _ (.refl _ _) ?_
  split
  · exact (renewEntry_frame _ _ _ _).trans (answer_frame _ _ _ _)
  · split
    · exact requestInIdle_frame _ _ _ _
    · exact TalkFrame.ite _ (issueGrant_frame _ _ _ _ _) (enqueue_frame _ _ _ _)
    all_goals first | exact enqueue_frame _ _ _ _ | exact .refl _ _

theorem raiseGrant_frame (ch : Chan) (p : Party) (s : State) : TalkFrame ch s (raiseGrant ch p s) :=
  ((modFloor_frame _ _ _).trans (answer_frame _ _ _ _)).trans (requestMix_frame _ _ _)

theorem emergencyOutcome_frame (ch : Chan) (p : Party) (s : State) : TalkFrame ch s (emergencyOutcome ch p s) := by
  unfold emergencyOutcome
  split
  iterate 3 exact .refl _ _
  all_goals
    refine TalkFrame.ite _ (TalkFrame.ite _ (.refl _ _) (raiseGrant_frame _ _ _))
      (TalkFrame.ite _ ((renewEntry_frame _ _ _ _).trans (preempt_frame _ _ _)) ?_)
    split
    · exact (renewEntry_frame _ _ _ _).trans (answer_frame _ _ _ _)
    · exact enqueue_frame _ _ _ _

theorem endTalk_frame (ch : Chan) (s : State) : TalkFrame ch s (endTalk ch s) := by
  unfold endTalk
  split
  · exact .refl _ _
  · exact TalkFrame.ite _ (((endGrant_frame _ _ _ _).trans (modFloor_frame _ _ _)).trans (closeGate_frame _ _))
      (endGrantIdle_frame _ _ _)

theorem talkEndBy_frame (ch : Chan) (p : Party) (s : State) : TalkFrame ch s (talkEndBy ch p s) :=
  TalkFrame.ite _ (endTalk_frame _ _) (modFloor_frame _ _ _)

theorem cancelClaim_frame (ch : Chan) (r : AirReason) (p : Party) (s : State) : TalkFrame ch s (cancelClaim ch r p s) :=
  TalkFrame.ite _ (endGrant_frame _ _ _ _) (denyEntry_frame _ _ _ _)

theorem preemptAlert_frame (ch : Chan) (s : State) : TalkFrame ch s (preemptAlert ch s) := by
  unfold preemptAlert
  split
  · exact serviceDecision_frame _ _
  · exact TalkFrame.ite _ (.refl _ _) ((endGrant_frame _ _ _ _).trans (startSeize_frame _ _))
  all_goals first | exact startSeize_frame _ _ | exact .refl _ _

theorem displaceAlert_frame (ch : Chan) (s : State) : TalkFrame ch s (displaceAlert ch s) := by
  unfold displaceAlert
  refine TalkFrame.ite _ (.refl _ _) ?_
  split
  · exact .refl _ _
  · rename_i a _
    generalize a.requester = q
    cases q with
    | supervision => exact modFloor_frame _ _ _
    | console c => exact (modFloor_frame _ _ _).trans (notify_frame _ _ _ _)

theorem requestAlert_frame (ch : Chan) (new : Alert) (s : State) : TalkFrame ch s (requestAlert ch new s) := by
  unfold requestAlert
  refine TalkFrame.ite _ (TalkFrame.iteFun _ (TalkFrame.trans ?_ (preemptAlert_frame _ _))
    (TalkFrame.trans ?_ (serviceDecision_frame _ _))) (.refl _ _) <;>
  exact (displaceAlert_frame _ _).trans (modFloor_frame _ _ _)

theorem discardAlerts_frame (ch : Chan) (m : MoveIx) (s : State) : TalkFrame ch s (discardAlerts ch m s) :=
  modFloor_frame _ _ _

theorem completeSeize_frame (ch : Chan) (s : State) : TalkFrame ch s (completeSeize ch s) :=
  (modFloorTested_frame _ _ _).trans (serviceDecision_frame _ _)

theorem stepEnds_frame (ch : Chan) (g : Play) (s : State) : TalkFrame ch s (stepEnds ch g s) := by
  unfold stepEnds
  split
  · exact setGenerator_frame _ _ _
  · split
    · exact setGenerator_frame _ _ _
    · exact (setGenerator_frame _ _ _).trans (completeSeize_frame _ _)

theorem enterTransfer_frame (ch : Chan) (s : State) : TalkFrame ch s (enterTransfer ch s) := modFloor_frame _ _ _

theorem openTransfer_frame (ch : Chan) (s : State) : TalkFrame ch s (openTransfer ch s) := modFloor_frame _ _ _

theorem leaveTransfer_frame (ch : Chan) (s : State) : TalkFrame ch s (leaveTransfer ch s) := by
  unfold leaveTransfer
  refine TalkFrame.ite _ ?_ (.refl _ _)
  dsimp only
  split
  · exact (modFloorTested_frame _ _ _).trans (serviceDecision_frame _ _)
  iterate 2
    exact TalkFrame.ite _ ((modFloorTested_frame _ _ _).trans (preemptAlert_frame _ _)) (modFloorTested_frame _ _ _)
  all_goals exact modFloorTested_frame _ _ _

/-- A frame of a repeated operation, from the frame of one run. -/
theorem TalkFrame.forEach {α : Type} {ch : Chan} {f : α → State → State} (xs : List α)
    (h : ∀ x ∈ xs, ∀ s, TalkFrame ch s (f x s)) (s : State) : TalkFrame ch s (forEach xs f s) := by
  induction xs generalizing s with
  | nil => exact .refl _ _
  | cons x xs ih => exact (h x (by simp) s).trans (ih (fun y hy => h y (by simp [hy])) (f x s))

theorem tellLost_frame (ch : Chan) (f : Floor) (s : State) : TalkFrame ch s (tellLost ch f s) := by
  unfold tellLost
  refine TalkFrame.trans (t := _) ?_ (TalkFrame.forEach _ (fun e _ s => ?_) _)
  · split
    · exact notify_frame _ _ _ _
    · exact .refl _ _
  · split
    · exact notify_frame _ _ _ _
    · exact .refl _ _

theorem closeFloor_frame (ch : Chan) (s : State) : TalkFrame ch s (closeFloor ch s) := by
  unfold closeFloor
  refine TalkFrame.iteFun _ (TalkFrame.trans ?_ (broadcast_frame _ _ _)) ?_
  iterate 2
    exact (((tellLost_frame _ _ _).trans (stopSeize_frame _ _)).trans (modFloor_frame _ _ _)).trans (setGate_frame _ _ _)

/-! ## Several channels -/

theorem serveFreed_only (b s : State) : Only talkFields s (serveFreed b s) := by
  refine Only.forEach _ (fun ch _ t => ?_) s
  have h : TalkFrame ch t (if (b.floor ch).state ≠ .idle then serviceDecision ch t else t) :=
    TalkFrame.ite _ (serviceDecision_frame _ _) (.refl _ _)
  split
  · exact (h.trans (closeGate_frame _ _)).only
  · exact h.only

theorem endHangsFor_only (r : Reservation) (chs : List Chan) (s : State) : Only talkFields s (endHangsFor r chs s) :=
  Only.forEach _ (fun _ _ _ => Only.ite _ (endHang_frame _ _).only (.refl _ _)) s

theorem cancelClaims_only (ch : Chan) (r : AirReason) (u : UnitId) (s : State) :
    Only talkFields s (cancelClaims ch r u s) :=
  (cancelClaim_frame _ _ _ _).only.trans (cancelClaim_frame _ _ _ _).only

end Sys2Proof.Machine
end

