-- ==== Sys2Proof/Laws/Grant.lean ====
section
/-! SUPPORT. Laws/Grant.lean: the floor record after each operation of the Floor Controller: what a grant leaves, what its end
leaves, and what the service decision decides. -/

namespace Sys2Proof.Machine

set_option Elab.async false

/-! ## The foreign-carrier test changes its two times alone (R50) -/

@[simp] theorem Floor.retest_state (was : Bool) (now : Time) (f : Floor) : (f.retest was now).state = f.state := by
  unfold Floor.retest; split <;> (try split) <;> rfl
@[simp] theorem Floor.retest_held (was : Bool) (now : Time) (f : Floor) : (f.retest was now).held = f.held := by
  unfold Floor.retest; split <;> (try split) <;> rfl
@[simp] theorem Floor.retest_grant (was : Bool) (now : Time) (f : Floor) : (f.retest was now).grant = f.grant := by
  unfold Floor.retest; split <;> (try split) <;> rfl
@[simp] theorem Floor.retest_gate (was : Bool) (now : Time) (f : Floor) : (f.retest was now).gate = f.gate := by
  unfold Floor.retest; split <;> (try split) <;> rfl
@[simp] theorem Floor.retest_hang (was : Bool) (now : Time) (f : Floor) : (f.retest was now).hang = f.hang := by
  unfold Floor.retest; split <;> (try split) <;> rfl
@[simp] theorem Floor.retest_queue (was : Bool) (now : Time) (f : Floor) : (f.retest was now).queue = f.queue := by
  unfold Floor.retest; split <;> (try split) <;> rfl
@[simp] theorem Floor.retest_lockouts (was : Bool) (now : Time) (f : Floor) : (f.retest was now).lockouts = f.lockouts := by
  unfold Floor.retest; split <;> (try split) <;> rfl
@[simp] theorem Floor.retest_alerts (was : Bool) (now : Time) (f : Floor) : (f.retest was now).alerts = f.alerts := by
  unfold Floor.retest; split <;> (try split) <;> rfl
@[simp] theorem Floor.retest_heard (was : Bool) (now : Time) (f : Floor) : (f.retest was now).heard = f.heard := by
  unfold Floor.retest; split <;> (try split) <;> rfl
@[simp] theorem Floor.retest_episodeOpen (was : Bool) (now : Time) (f : Floor) : (f.retest was now).episodeOpen = f.episodeOpen := by
  unfold Floor.retest; split <;> (try split) <;> rfl
@[simp] theorem Floor.takes_grant (st : FloorState) (f : Floor) : (f.takes st).grant = f.grant := by
  unfold Floor.takes; split <;> rfl
@[simp] theorem Floor.takes_gate (st : FloorState) (f : Floor) : (f.takes st).gate = f.gate := by
  unfold Floor.takes; split <;> rfl
@[simp] theorem Floor.takes_hang (st : FloorState) (f : Floor) : (f.takes st).hang = f.hang := by
  unfold Floor.takes; split <;> rfl
@[simp] theorem Floor.takes_queue (st : FloorState) (f : Floor) : (f.takes st).queue = f.queue := by
  unfold Floor.takes; split <;> rfl
@[simp] theorem Floor.takes_lockouts (st : FloorState) (f : Floor) : (f.takes st).lockouts = f.lockouts := by
  unfold Floor.takes; split <;> rfl
@[simp] theorem Floor.takes_alerts (st : FloorState) (f : Floor) : (f.takes st).alerts = f.alerts := by
  unfold Floor.takes; split <;> rfl
@[simp] theorem Floor.takes_heard (st : FloorState) (f : Floor) : (f.takes st).heard = f.heard := by
  unfold Floor.takes; split <;> rfl
@[simp] theorem Floor.takes_foreignSince (st : FloorState) (f : Floor) : (f.takes st).foreignSince = f.foreignSince := by
  unfold Floor.takes; split <;> rfl
@[simp] theorem Floor.takes_episodeOpen (st : FloorState) (f : Floor) : (f.takes st).episodeOpen = f.episodeOpen := by
  unfold Floor.takes; split <;> rfl
@[simp] theorem Floor.takes_quiet (st : FloorState) (f : Floor) : (f.takes st).quiet = f.quiet := by
  unfold Floor.takes; split <;> rfl

@[simp] theorem Floor.retest_effective (was : Bool) (now : Time) (f : Floor) :
    (f.retest was now).effective = f.effective := by simp [Floor.effective]

/-- R40, R47: a floor that takes a state is in it, directly or as its held state. -/
theorem Floor.takes_effective (st : FloorState) (f : Floor) (h : st ≠ .transfer) : (f.takes st).effective = st := by
  unfold Floor.takes Floor.effective
  by_cases e : f.state = .transfer <;> simp [e, h]

theorem Floor.takes_state (st : FloorState) (f : Floor) (h : f.state ≠ .transfer) : (f.takes st).state = st := by
  simp [Floor.takes, h]

theorem Floor.effective_of_ne {f : Floor} (h : f.state ≠ .transfer) : f.effective = f.state := by
  simp [Floor.effective, h]

/-! ## Floors through operations on other things -/

@[simp] theorem startPlay_floor (ch : Chan) (m : PlayMode) (pat : PatternIx) (s : State) (c : Chan) : (startPlay ch m pat s).floor c = s.floor c := by
  unfold startPlay; split <;> simp
@[simp] theorem requestMix_floor (ch : Chan) (pat : PatternIx) (s : State) (c : Chan) : (requestMix ch pat s).floor c = s.floor c := by
  unfold requestMix; split <;> simp
@[simp] theorem stopMix_floor (ch : Chan) (s : State) (c : Chan) : (stopMix ch s).floor c = s.floor c := rfl

@[simp] theorem sendGate_floor (p : Port) (g : Option Party) (s : State) (c : Chan) :
    (sendGate p g s).floor c = s.floor c := rfl

/-- R34: the gate party after a gate setting. -/
@[simp] theorem setGate_floor_self (ch : Chan) (g : Option Party) (s : State) :
    (setGate ch g s).floor ch = { s.floor ch with gate := g } := by
  unfold setGate
  by_cases h : (s.floor ch).gate = g
  · subst h; simp
  · cases e : s.carrier ch <;> simp [h]

theorem closeGate_floor_self (ch : Chan) (s : State) :
    (closeGate ch s).floor ch = if (s.floor ch).grant.isNone then { s.floor ch with gate := none } else s.floor ch := by
  unfold closeGate; split <;> simp

@[simp] theorem answer_floor' (ch : Chan) (p : Party) (a : TalkAnswer) (s : State) (c : Chan) :
    (answer ch p a s).floor c = s.floor c := by simp

/-! ## The grant (R27, R33) -/

/-- R33: the floor record after a grant. -/
theorem issueGrant_floor_self (was : Bool) (ch : Chan) (p : Party) (cls : TalkClass) (s : State) :
    (issueGrant was ch p cls s).floor ch = Floor.retest was s.time { (s.floor ch).takes .granted with
      queue := withoutParty p (s.floor ch).queue
      hang := none
      grant := some (newGrant (s.chan ch) s.time p (s.bindingOf p) cls (s.floor ch).heard)
      gate := some p } := by
  unfold issueGrant
  rw [modFloor_floor_self]
  congr 1
  by_cases h : cls = .emergency <;> simp [h, fillGrant]

theorem newGrant_eq (f : Floor) (c : ChannelConfig) (now : Time) (p : Party) (mv : Option MoveIx) (cls : TalkClass) :
    newGrant c now p mv cls f.heard = {
      holder := p, move := mv, cls := cls, time := now
      takenUp := takenUpAtIssue f p
      takeUp := if takenUpAtIssue f p then none else some (now + 1500)
      overtalk := (limitOf c cls).map (fun n => now + BitVec.ofNat 32 (1000 * n))
      warning := ((limitOf c cls).filter (fun n => decide (10 ≤ n))).map
        (fun n => now + BitVec.ofNat 32 (1000 * n - 5000))
      silent := none, warned := false } := by
  have h : heardAs f.heard p = takenUpAtIssue f p := by
    cases p with
    | console c => rfl
    | unit u =>
      simp only [heardAs, takenUpAtIssue]
      cases f.heard <;> simp
  have k : c.limit cls = limitOf c cls := by cases cls <;> rfl
  simp only [newGrant, h, k]
  rfl

/-- R33: a grant on a floor that is not in TRANSFER gives the party the floor, as the statements say it. -/
theorem issueGrant_granted (was : Bool) (ch : Chan) (p : Party) (cls : TalkClass) (s : State)
    (h : (s.floor ch).state ≠ .transfer) : Granted ch p cls s (issueGrant was ch p cls s) := by
  unfold Granted
  rw [issueGrant_floor_self]
  simp only [Floor.retest_state, Floor.retest_gate, Floor.retest_hang, Floor.retest_queue, Floor.retest_grant]
  refine ⟨Floor.takes_state _ _ h, trivial, trivial, ?_, ?_⟩
  · simp [withoutParty]
  · rw [newGrant_eq]

/-! ## The service decision (R57, R59) -/

/-- A fold that keeps the first of the best finds the best. -/
theorem bestEntry_append (now : Time) (step : Nat) (before behind : List Entry) (e : Entry)
    (h : ∀ x ∈ before, rank now step x < rank now step e) (k : ∀ x ∈ behind, rank now step x ≤ rank now step e) :
    bestEntry now step (before ++ e :: behind) = some e := by
  have back : ∀ l : List Entry, (∀ x ∈ l, rank now step x ≤ rank now step e) →
      l.foldl (fun b e => match b with
        | none => some e
        | some x => if rank now step x < rank now step e then some e else some x) (some e) = some e := by
    intro l
    induction l with
    | nil => intro _; rfl
    | cons x l ih =>
      intro hl
      have := hl x (by simp)
      simp only [List.foldl_cons, Nat.not_lt.mpr this, if_false]
      exact ih (fun y hy => hl y (by simp [hy]))
  have front : ∀ (l : List Entry) (a : Option Entry), (∀ x ∈ l, rank now step x < rank now step e) →
      (∀ x, a = some x → rank now step x < rank now step e) →
      (l ++ e :: behind).foldl (fun b e => match b with
        | none => some e
        | some x => if rank now step x < rank now step e then some e else some x) a = some e := by
    intro l
    induction l with
    | nil =>
      intro a _ ha
      cases a with
      | none => exact back behind k
      | some x => simpa [ha x rfl] using back behind k
    | cons y l ih =>
      intro a hl ha
      refine ih _ (fun x hx => hl x (by simp [hx])) ?_
      intro x hx
      cases a with
      | none => simp only [Option.some.injEq] at hx; exact hx ▸ hl y (by simp)
      | some z =>
        have hy := hl y (by simp)
        have hz := ha z rfl
        dsimp only at hx
        split at hx <;> simp only [Option.some.injEq] at hx <;> subst hx <;> assumption
  exact front before none h (by simp)

/-- R57: the entry that the statements call best is the one that the decision takes. -/
theorem IsBest.bestEntry {ch : Chan} {e : Entry} {s : State} (h : IsBest ch e s) :
    Machine.bestEntry s.time (s.chan ch).ageStep (s.floor ch).queue = some e := by
  obtain ⟨a, b, hq, ha, hb⟩ := h
  rw [hq]
  exact bestEntry_append _ _ _ _ _ ha hb

theorem serviceDecision_of_ne {ch : Chan} {s : State} (h : (s.floor ch).state ≠ .idle) : serviceDecision ch s = s := by
  simp [serviceDecision, h]

theorem serviceDecision_empty {ch : Chan} {s : State} (a : (s.floor ch).alerts = []) (q : (s.floor ch).queue = []) :
    serviceDecision ch s = s := by
  simp [serviceDecision, a, q, bestEntry]

theorem serviceDecision_grants {ch : Chan} {s : State} {e : Entry} (h : (s.floor ch).state = .idle)
    (a : (s.floor ch).alerts = []) (b : IsBest ch e s) :
    serviceDecision ch s = issueGrant (s.floor ch).isForeign ch e.party e.cls s := by
  simp [serviceDecision, h, a, b.bestEntry]

theorem serviceDecision_plays {ch : Chan} {s : State} (h : (s.floor ch).state = .idle)
    (a : (s.floor ch).alerts ≠ []) : serviceDecision ch s = startSeize ch s := by
  simp [serviceDecision, h, a]

/-! ## The end of a grant (R40) -/

theorem dropGrant_floor_self (ch : Chan) (r : Option AirReason) (s : State) :
    (dropGrant ch r s).floor ch = { s.floor ch with grant := none } := by
  unfold dropGrant
  cases h : (s.floor ch).grant with
  | none => simp [← h]
  | some g => cases r <;> simp

theorem endGrant_floor_self (ch : Chan) (r : Option AirReason) (next : FloorState) (s : State)
    (h : (s.floor ch).grant.isSome = true) :
    (endGrant ch r next s).floor ch =
      Floor.retest (s.floor ch).isForeign s.time { (s.floor ch).takes next with grant := none } := by
  unfold endGrant
  simp only [h, if_true, modFloor_floor_self, dropGrant_floor_self]
  congr 1
  unfold Floor.takes
  by_cases e : (s.floor ch).state = .transfer <;> simp [e]

/-- R169: the floor record after an alert begins to play as SEIZE. -/
theorem startSeize_floor_self (ch : Chan) (s : State) (a : Alert) (rest : List Alert)
    (h : (s.floor ch).alerts = a :: rest) :
    (startSeize ch s).floor ch = { Floor.retest (s.floor ch).isForeign s.time { (s.floor ch).takes .alert with
      hang := none, alerts := { a with playing := true } :: rest } with gate := none } := by
  unfold startSeize
  rw [h]
  simp

end Sys2Proof.Machine
end

