-- ==== Sys2Proof/Laws/Ports.lean ====
section
/-! SUPPORT. Laws/Ports.lean: what the Port Manager's operations change (R137 to R151): the record of one port and what it is
sent, the tests, and the channel that a port carried. -/

namespace Sys2Proof.Machine

set_option Elab.async false

theorem setPort_only (p : Port) (r : PortRec) (s : State) : Only [.ports] s (setPort p r s) := by
  intro f hf; cases f <;> first | exact rfl | simp at hf

theorem setTest_only (p : Port) (t : Option TestRec) (s : State) : Only [.tests] s (setTest p t s) := by
  intro f hf; cases f <;> first | exact rfl | simp at hf

theorem send_only (p : Port) (m : PortMsg) (s : State) : Only [.sent] s (send p m s) := by
  intro f hf; cases f <;> first | exact rfl | simp at hf

@[simp] theorem send_sent (p : Port) (m : PortMsg) (s : State) : (send p m s).sent = s.sent ++ [(p, m)] := rfl

theorem modPort_only (p : Port) (g : PortRec → PortRec) (s : State) : Only [.ports] s (modPort p g s) := setPort_only _ _ _

theorem modPort_port (p : Port) (g : PortRec → PortRec) (s : State) (q : Port) :
    (modPort p g s).port q = if q = p then g (s.port p) else s.port q := setPort_port _ _ _ _

/-! ## A port changes its state (R138) -/

theorem portTo_only (p : Port) (st : PortState) (c : PortCause) (g : PortRec → PortRec) (s : State) :
    Only [.ports, .links] s (portTo p st c g s) :=
  ((modPort_only p _ s).mono (by simp)).trans ((broadcast_only _ _).mono (by simp))

/-- R138: the record of a port after a change of state, and every other record. -/
theorem portTo_port (p : Port) (st : PortState) (c : PortCause) (g : PortRec → PortRec) (s : State) (q : Port) :
    (portTo p st c g s).port q = if q = p then g { s.port p with state := st } else s.port q := by
  unfold portTo
  rw [broadcast_port, modPort_port]

theorem connectTone_only (p : Port) (ch : Option Chan) (s : State) : Only [.ports] s (connectTone p ch s) :=
  modPort_only _ _ _

theorem connectTone_port (p : Port) (ch : Option Chan) (s : State) (q : Port) :
    (connectTone p ch s).port q = if q = p then { s.port p with pins := { (s.port p).pins with tone := ch } } else s.port q :=
  modPort_port _ _ _ _

/-- R151: a port that leaves ACTIVE is sent a closed gate, and its tone line is silent. -/
theorem shutPort_only (p : Port) (s : State) : Only [.ports, .sent] s (shutPort p s) :=
  (sendGate_only _ _ _).trans ((connectTone_only _ _ _).mono (by simp))

theorem shutPort_port (p : Port) (s : State) (q : Port) :
    (shutPort p s).port q =
      if q = p then { s.port p with pins := { (s.port p).pins with gate := none, tone := none } } else s.port q := by
  unfold shutPort
  rw [connectTone_port]
  by_cases h : q = p <;> simp [h, sendGate_port]

@[simp] theorem shutPort_sent (p : Port) (s : State) : (shutPort p s).sent = s.sent ++ [(p, .gate none)] := rfl

/-- R151: a port that becomes ACTIVE is sent the channel's gate, and its tone line takes the channel's generator. -/
theorem servePort_only (p : Port) (ch : Chan) (s : State) : Only [.ports, .sent] s (servePort p ch s) :=
  (sendGate_only _ _ _).trans ((connectTone_only _ _ _).mono (by simp))

theorem servePort_port (p : Port) (ch : Chan) (s : State) (q : Port) :
    (servePort p ch s).port q =
      if q = p then { s.port p with pins := { (s.port p).pins with gate := (s.floor ch).gate, tone := some ch } }
      else s.port q := by
  unfold servePort
  rw [connectTone_port]
  by_cases h : q = p <;> simp [h, sendGate_port]

@[simp] theorem servePort_sent (p : Port) (ch : Chan) (s : State) :
    (servePort p ch s).sent = s.sent ++ [(p, .gate (s.floor ch).gate)] := rfl

/-! ## Tuning (R143, R145, R147) -/

theorem tuneTo_only (p : Port) (ch : Chan) (u : TunePurpose) (s : State) :
    Only [.ports, .links, .sent] s (tuneTo p ch u s) :=
  ((portTo_only _ _ _ _ _).mono (by simp)).trans ((send_only _ _ _).mono (by simp))

theorem tuneTo_port (p : Port) (ch : Chan) (u : TunePurpose) (s : State) (q : Port) :
    (tuneTo p ch u s).port q =
      if q = p then { s.port p with
        state := .tuning, channel := some ch, purpose := some u, tuneDeadline := some (after s.time 1000) }
      else s.port q := by
  unfold tuneTo
  rw [send_port, portTo_port]

@[simp] theorem tuneTo_sent (p : Port) (ch : Chan) (u : TunePurpose) (s : State) :
    (tuneTo p ch u s).sent = s.sent ++ [(p, .tune (s.chan ch).freq)] := rfl

theorem reportTransfer_only (ch : Chan) (a b : Option Port) (s : State) : Only [.links] s (reportTransfer ch a b s) :=
  (latchAll_only _ _ _).trans (broadcast_only _ _)

theorem tellClosure_only (ch : Chan) (s : State) : Only [.links] s (tellClosure ch s) := by
  refine Only.forEach _ (fun i _ t => ?_) s
  split
  · exact .refl _ _
  · exact Only.ite _ (notify_only _ _ _) (.refl _ _)

theorem closeChannel_frame (ch : Chan) (s : State) : TalkFrame ch s (closeChannel ch s) := by
  refine (((closeFloor_frame ch s).trans (setFrames_frame ch [] _)).trans ?_).trans
    ((latchAll_frame ch ch _ _).trans (broadcast_frame ch _ _))
  exact .of_only ((tellClosure_only _ _).mono (by simp))
    (fun c _ => ⟨State.floor_congr (tellClosure_only _ _).floors c, State.frames_congr (tellClosure_only _ _).downlink c,
      State.generator_congr (tellClosure_only _ _).generators c⟩)
    (fun p => by rw [State.port_congr (tellClosure_only _ _).ports p])

/-! ## Tests that a port's events end (R159, R160) -/

theorem echoOff_only (p : Port) (t : TestRec) (s : State) : Only [.downlink, .links] s (echoOff p t s) := by
  unfold echoOff
  split
  · exact placeFrame_only _ _ _
  · exact .refl _ _

theorem abortTest_only (p : Port) (r : AbortReason) (s : State) :
    Only [.tests, .downlink, .links] s (abortTest p r s) := by
  unfold abortTest
  cases s.runningTest p with
  | none => exact .refl _ _
  | some t =>
    simp only [whenSome_some]
    refine Only.trans (fs := [.tests, .downlink, .links]) ?_ ((broadcast_only _ _).mono (by simp))
    exact ((setTest_only p _ s).mono (by simp)).trans ((echoOff_only _ _ _).mono (by simp))

/-! ## Closed channels and lost carriers (R143, R145) -/

theorem takeUpClosed_only (p : Port) (s : State) :
    Only [.ports, .links, .sent, .floors] s (takeUpClosed p s) := by
  unfold takeUpClosed
  refine Only.ite _ ?_ (.refl _ _)
  cases lowestClosed s with
  | none => exact .refl _ _
  | some ch =>
    exact (((tuneTo_only _ _ _ _).mono (by simp)).trans ((modFloor_only _ _ _).mono (by simp))).trans
      ((reportTransfer_only _ _ _ _).mono (by simp))

/-- R145: with no channel CLOSED, or in CONFIG, a port newly STANDBY stays so. -/
theorem takeUpClosed_none {p : Port} {s : State} (h : s.part = .config ∨ ∀ ch, (s.floor ch).state ≠ .closed) :
    takeUpClosed p s = s := by
  unfold takeUpClosed
  rcases h with h | h
  · simp [h]
  · have : lowestClosed s = none := by
      unfold lowestClosed
      rw [List.find?_eq_none]
      intro ch _
      simpa using h ch
    simp [this]

end Sys2Proof.Machine
end

