-- ==== Sys2Proof/Laws/Moves.lean ====
section
/-! SUPPORT. Laws/Moves.lean: which fields of the state the shared operations of the Move Table, the Supervision Monitor, the
Unit Register, the Enrolment Unit and the path tests change. -/

namespace Sys2Proof.Machine

set_option Elab.async false

/-- The fields that a supervision event can change. -/
abbrev superviseFields : List Field := .moves :: talkFields

/-- The fields that a move event can change. -/
abbrev moveFields : List Field := .units :: superviseFields

/-- The fields that an enrolment event can change. -/
abbrev enrolFields : List Field := .units :: .slots :: .quiet :: talkFields

/-- What two operations in a row change, in a list that holds the fields of both. -/
theorem Only.andThen {fs gs hs : List Field} {s t u : State} (h : Only fs s t) (k : Only gs t u)
    (hf : ∀ f ∈ fs, f ∈ hs := by decide) (hg : ∀ f ∈ gs, f ∈ hs := by decide) : Only hs s u :=
  (h.mono hf).trans (k.mono hg)

/-- What an operation under a condition changes, where the condition chooses the operation. -/
theorem Only.iteFun {fs : List Field} {s t : State} {f g : State → State} (c : Prop) [Decidable c]
    (h : Only fs s (f t)) (k : Only fs s (g t)) : Only fs s ((if c then f else g) t) := by
  by_cases e : c <;> simp [e, h, k]

/-- What an operation on a value that may be absent changes. -/
theorem Only.whenSome {α : Type} {fs : List Field} {s : State} (x : Option α) {f : α → State → State}
    (h : ∀ a, Only fs s (f a s)) : Only fs s (whenSome x f s) := by
  cases x with
  | none => exact .refl _ _
  | some a => exact h a

/-! ## The records -/

theorem setMove_only (i : MoveIx) (m : Option Move) (s : State) : Only [.moves] s (setMove i m s) := by
  intro f hf; cases f <;> first | exact rfl | simp at hf

theorem modMove_only (i : MoveIx) (g : Move → Move) (s : State) : Only [.moves] s (modMove i g s) := setMove_only _ _ _

theorem setSlot_only (i : SlotIx) (sl : Option Slot) (s : State) : Only [.slots] s (setSlot i sl s) := by
  intro f hf; cases f <;> first | exact rfl | simp at hf

theorem modUnit_only (u : UnitId) (g : UnitRec → UnitRec) (s : State) : Only [.units] s (modUnit u g s) := by
  intro f hf; cases f <;> first | exact rfl | simp at hf

theorem setFrames_only' (ch : Chan) (q : List Frame) (s : State) : Only [.downlink] s (setFrames ch q s) := by
  intro f hf; cases f <;> first | exact rfl | simp at hf

theorem bindUnit_only (i : MoveIx) (u : UnitId) (s : State) : Only [.units] s (bindUnit i u s) := modUnit_only _ _ _

theorem unbindUnit_only (u : UnitId) (s : State) : Only [.units] s (unbindUnit u s) := modUnit_only _ _ _

theorem refresh_only (u : UnitId) (s : State) : Only [.units] s (refresh u s) := modUnit_only _ _ _

/-! ## The Supervision Monitor (R79 to R95) -/

/-- R95: what a cancelled handover changes. -/
theorem cancelHandover_only (i : MoveIx) (c : HandoverCause) (s : State) :
    Only [.moves, .links] s (cancelHandover i c s) := by
  unfold cancelHandover
  split
  · exact .refl _ _
  · split
    · exact .refl _ _
    · exact (setMove_only _ _ _).andThen (notify_only _ _ _)

theorem reportUndeliverable_only (i : MoveIx) (m : Move) (s : State) : Only [.links] s (reportUndeliverable i m s) :=
  Only.ite _ (notify_only _ _ _) (.refl _ _)

theorem reportFault_only (i : MoveIx) (k : FaultKind) (m : Move) (s : State) :
    Only superviseFields s (reportFault i k m s) :=
  (((requestAlert_frame _ _ _).only.andThen (hs := superviseFields) (cancelHandover_only _ _ _)).andThen
    (hs := superviseFields) (notify_only _ _ _)).andThen (reportUndeliverable_only _ _ _)

/-- R79: what a fault changes. -/
theorem raiseFault_only (i : MoveIx) (k : FaultKind) (s : State) : Only superviseFields s (raiseFault i k s) := by
  unfold raiseFault
  split
  · exact .refl _ _
  · exact (((setMove_only _ _ _).andThen (hs := superviseFields) (orderTo_only _ _ _))).andThen (reportFault_only _ _ _ _)

/-- R82: what a crew stop changes. -/
theorem crewStop_only (i : MoveIx) (s : State) : Only superviseFields s (crewStop i s) := by
  unfold crewStop
  split
  · exact .refl _ _
  · refine Only.ite _ ?_ (.refl _ _)
    split
    iterate 4 exact raiseFault_only _ _ _
    iterate 2 exact .refl _ _

theorem startOffers_only (i : MoveIx) (s : State) : Only [.moves, .downlink, .links] s (startOffers i s) := by
  unfold startOffers
  split
  · exact .refl _ _
  · rename_i m _
    cases m.controller with
    | some u => exact (setMove_only _ _ _).andThen (orderTo_only _ _ _)
    | none => exact (setMove_only _ _ _).mono (by decide)

/-- R86, R89, R91: what the end of a stop hold changes. -/
theorem endHold_only (i : MoveIx) (s : State) : Only [.moves, .downlink, .links] s (endHold i s) := by
  unfold endHold
  split
  · exact .refl _ _
  · refine Only.ite _ ?_ ?_
    · exact (setMove_only _ _ _).andThen (notify_only _ _ _)
    · exact ((setMove_only _ _ _).andThen (hs := [.moves, .downlink, .links]) (startOffers_only _ _)).andThen
        (notify_only _ _ _)

/-- R2: the former controller is told first, but where the new one stands before it in the list. -/
theorem Move.controlOrder_eq (former new : UnitId) (m : Move) :
    m.controlOrder former new = [former, new] ∧ m.units.idxOf former ≤ m.units.idxOf new ∨
      m.controlOrder former new = [new, former] ∧ m.units.idxOf new < m.units.idxOf former := by
  unfold Move.controlOrder
  split
  · exact .inr ⟨rfl, ‹_›⟩
  · exact .inl ⟨rfl, by omega⟩

theorem assignControl_only (i : MoveIx) (m : Move) (former new : UnitId) (s : State) :
    Only [.downlink, .links] s (assignControl i m former new s) :=
  Only.forEach _ (fun _ _ _ => orderTo_only _ _ _) s

/-! ## The Move Table (R4 to R24) -/

theorem orderJoins_only (i : MoveIx) (ch : Chan) (us : List UnitId) (s : State) :
    Only [.downlink, .links] s (orderJoins i ch us s) :=
  Only.forEach _ (fun _ _ _ => orderTo_only _ _ _) s

/-- R21: what freeing a move changes. -/
theorem freeMove_only (leaves : Member → Bool) (i : MoveIx) (m : Move) (s : State) :
    Only moveFields s (freeMove leaves i m s) := by
  refine Only.andThen (fs := moveFields) ?_ (setMove_only _ _ _)
  refine Only.andThen (fs := moveFields) ?_ (Only.forEach (fs := [.units]) _ (fun _ _ _ => unbindUnit_only _ _) _)
  refine Only.andThen (fs := moveFields) ?_ (Only.forEach (fs := [.downlink, .links]) _ (fun _ _ _ => orderTo_only _ _ _) _)
  refine Only.andThen (fs := moveFields) ?_ (endHangsFor_only _ _ _)
  exact Only.andThen (discardAlerts_frame _ _ _).only
    (Only.forEach (fs := talkFields) _ (fun _ _ _ => cancelClaims_only _ _ _ _) _)

/-- R14: what the removal of a handset changes. -/
theorem removeHandset_only (leave : Bool) (i : MoveIx) (u : UnitId) (s : State) :
    Only moveFields s (removeHandset leave i u s) := by
  unfold removeHandset
  split
  · exact .refl _ _
  · refine Only.andThen (fs := moveFields) ?_ (unbindUnit_only _ _)
    refine Only.andThen (fs := moveFields) ?_ (modMove_only _ _ _)
    refine Only.andThen (fs := moveFields) ?_ (Only.iteFun (fs := [.downlink, .links]) _ (orderTo_only _ _ _) (.refl _ _))
    exact (cancelClaims_only _ _ _ _).andThen
      (Only.iteFun (fs := [.moves, .links]) _ (cancelHandover_only _ _ _) (.refl _ _))

/-- R6: what the creation of a move changes. -/
theorem createMove_only (link : Console) (i : MoveIx) (ch : Chan) (f : MoveFields) (s : State) :
    Only [.moves, .units, .downlink, .links] s (createMove link i ch f s) :=
  ((setMove_only _ _ _).andThen (hs := [.moves, .units, .downlink, .links])
    (Only.forEach (fs := [.units]) _ (fun _ _ _ => bindUnit_only _ _ _) _)).andThen (orderJoins_only _ _ _ _)

/-- R11: what adding a handset changes. -/
theorem addMember_only (i : MoveIx) (m : Move) (u : UnitId) (s : State) :
    Only [.moves, .units, .downlink, .links] s (addMember i m u s) :=
  ((setMove_only _ _ _).andThen (hs := [.moves, .units, .downlink, .links]) (bindUnit_only _ _ _)).andThen
    (orderTo_only _ _ _)

/-- R15: what a change of the controller by command changes. -/
theorem setController_only (i : MoveIx) (m : Move) (former new : UnitId) (s : State) :
    Only [.moves, .downlink, .links] s (setController i m former new s) := by
  have h : Only [.moves, .downlink, .links] s
      (assignControl i m former new
        (cancelHandover i .controllerSet (setMove i (some { m with controller := some new }) s))) :=
    ((setMove_only _ _ _).andThen (hs := [.moves, .downlink, .links]) (cancelHandover_only _ _ _)).andThen
      (assignControl_only _ _ _ _ _)
  unfold setController
  revert h
  generalize assignControl i m former new _ = t
  intro h
  cases m.state with
  | active => exact h.andThen (modMove_only _ _ _)
  | recovery => exact h.trans (startOffers_only _ _)
  | forming | stopHeld | suspended | releasing => exact h

/-- R16: what a move's change of channel changes. -/
theorem moveToChannel_only (i : MoveIx) (m : Move) (ch : Chan) (s : State) :
    Only superviseFields s (moveToChannel i m ch s) := by
  refine Only.andThen (fs := superviseFields) ?_ (orderJoins_only _ _ _ _)
  refine Only.andThen (fs := superviseFields) ?_ (modMove_only _ _ _)
  refine Only.andThen (fs := superviseFields) ?_ (cancelHandover_only _ _ _)
  refine Only.andThen (fs := talkFields) ?_ (discardAlerts_frame _ _ _).only
  exact (Only.forEach _ (fun _ _ _ => (cancelClaim_frame _ _ _ _).only) _).trans (endHangsFor_only _ _ _)

/-- R21, R23, R24: what a release that frees the record changes. -/
theorem release_only (n : NoticeBody) (i : MoveIx) (m : Move) (s : State) : Only moveFields s (release n i m s) :=
  ((freeMove_only _ _ _ _).andThen (hs := moveFields) (notify_only _ _ _)).andThen (serveFreed_only _ _)

/-- R22: what the entry to RELEASING changes. -/
theorem enterReleasing_only (i : MoveIx) (m : Move) (s : State) :
    Only [.moves, .downlink, .links] s (enterReleasing i m s) := by
  refine Only.andThen (fs := [.moves, .downlink, .links]) ?_ (reportUndeliverable_only _ _ _)
  refine Only.andThen (fs := [.moves, .links]) ?_ (orderTo_only _ _ _)
  exact ((setMove_only _ _ _).andThen (hs := [.moves, .links]) (cancelHandover_only _ _ _)).andThen (modMove_only _ _ _)

theorem lastJoined_only (i : MoveIx) (s : State) : Only [.moves, .links] s (lastJoined i s) := by
  unfold lastJoined
  split
  · exact .refl _ _
  · refine Only.ite _ (Only.ite _ ?_ ?_) (.refl _ _)
    · exact (setMove_only _ _ _).andThen (notify_only _ _ _)
    · exact (setMove_only _ _ _).mono (by decide)

theorem comeTo_only (ch : Chan) (u : UnitId) (s : State) : Only (.units :: talkFields) s (comeTo ch u s) :=
  Only.ite _ (.refl _ _) ((cancelClaim_frame _ _ _ _).only.andThen (modUnit_only _ _ _))

/-- R8: what a JOINED frame changes. -/
theorem joinedBy_only (u : UnitId) (move ch : Byte) (s : State) : Only moveFields s (joinedBy u move ch s) := by
  refine Only.whenSome _ fun i => Only.whenSome _ fun m => Only.whenSome _ fun e => Only.ite _ ?_ (.refl _ _)
  refine Only.andThen (fs := moveFields) ?_ (serveFreed_only _ _)
  exact ((setMove_only _ _ _).andThen (hs := moveFields) (comeTo_only _ _ _)).andThen (lastJoined_only _ _)

/-- R7: what a repetition of JOIN_ORDER changes. -/
theorem repeatJoin_only (i : MoveIx) (u : UnitId) (s : State) : Only [.moves, .downlink, .links] s (repeatJoin i u s) :=
  Only.whenSome _ fun _ => Only.whenSome _ fun _ =>
    Only.ite _ ((setMove_only _ _ _).andThen (orderTo_only _ _ _)) (.refl _ _)

/-- R10: what the forming deadline of a move with a member missing changes. -/
theorem formingEnds_only (i : MoveIx) (m : Move) (s : State) : Only moveFields s (formingEnds i m s) :=
  Only.ite _ ((freeMove_only _ _ _ _).andThen (notify_only _ _ _))
    (((Only.forEach (fs := moveFields) _ (fun _ _ _ => removeHandset_only _ _ _ _) _).andThen (hs := moveFields)
      (modMove_only _ _ _)).andThen (notify_only _ _ _))

/-! ## The Unit Register (R112 to R121) -/

theorem units_only (us : List UnitRec) (s : State) : Only [.units] s { s with units := us } := by
  intro f hf; cases f <;> first | exact rfl | simp at hf

/-- R114: what the removal of a record changes. -/
theorem removeRecord_only (keep : Bool) (u : UnitId) (s : State) :
    Only (.units :: talkFields) s (removeRecord keep u s) := by
  have h : Only talkFields s (endHangsFor (.party (.unit u)) allChans
      (forEach allChans (fun ch => cancelClaim ch .unregistered (.unit u)) s)) :=
    (Only.forEach _ (fun _ _ _ => (cancelClaim_frame _ _ _ _).only) s).trans (endHangsFor_only _ _ _)
  cases keep with
  | true => exact h.mono (by decide)
  | false => exact h.andThen (units_only _ _)

/-- R119: what an aging changes. -/
theorem ageOutUnit_only (u : UnitId) (s : State) : Only (.units :: talkFields) s (ageOutUnit u s) := by
  unfold ageOutUnit
  split
  · exact .refl _ _
  · exact (removeRecord_only _ _ _).andThen (broadcast_only _ _)

theorem ageOutAll_only (s : State) : Only (.units :: talkFields) s (ageOutAll s) :=
  Only.forEach _ (fun _ _ _ => ageOutUnit_only _ _) s

/-! ## The Enrolment Unit (R97 to R112) -/

theorem reject_only (u : UnitId) (r : AirReason) (s : State) : Only [.downlink, .links] s (reject u r s) :=
  placeFrame_only _ _ _

theorem withdraw_only (u : UnitId) (s : State) : Only [.downlink] s (withdraw u s) := setFrames_only' _ _ _

/-- R108: what the freeing of a slot changes. -/
theorem freeSlot_only (i : SlotIx) (sl : Slot) (c : EnrolCause) (r : Option AirReason) (s : State) :
    Only [.slots, .quiet, .downlink, .links] s (freeSlot i sl c r s) := by
  refine Only.andThen (fs := [.quiet, .downlink, .links]) ?_ (setSlot_only _ _ _)
  refine Only.andThen (fs := [.quiet, .downlink, .links]) ?_ (Only.iteFun (fs := [.links]) _ (broadcast_only _ _) (.refl _ _))
  refine Only.andThen (fs := [.downlink, .links]) ?_ (Only.iteFun (fs := [.quiet]) _ ?_ (.refl _ _))
  · exact (withdraw_only _ _).andThen (Only.whenSome (fs := [.downlink, .links]) _ (fun _ => reject_only _ _ _))
  · intro f hf; cases f <;> first | exact rfl | simp at hf

theorem sendOffer_only (sl : Slot) (s : State) : Only [.downlink, .links] s (sendOffer sl s) := placeFrame_only _ _ _

theorem sendConfirm_only (sl : Slot) (n : Nat) (s : State) : Only [.downlink, .links] s (sendConfirm sl n s) :=
  placeFrame_only _ _ _

/-- R102: what resolving changes. -/
theorem resolve_only (i : SlotIx) (sl : Slot) (s : State) : Only [.slots, .quiet, .downlink, .links] s (resolve i sl s) := by
  unfold resolve
  split
  · exact freeSlot_only _ _ _ _ _
  · exact (setSlot_only _ _ _).andThen (sendOffer_only _ _)

/-- R101 to R105: what a burst changes. -/
theorem burstInSlot_only (i : SlotIx) (sl : Slot) (w : Capability) (s : State) :
    Only [.slots, .quiet, .downlink, .links] s (burstInSlot i sl w s) := by
  have h (x : Option Slot) (t : State) : Only [.slots, .quiet, .downlink, .links] t (setSlot i x t) :=
    (setSlot_only _ _ _).mono (by decide)
  unfold burstInSlot
  split
  · exact Only.ite _ (Only.ite _ (resolve_only _ _ _) (h _ _)) (h _ _)
  · exact Only.ite _ (Only.ite _ (Only.ite _ ((setSlot_only _ _ _).andThen (sendConfirm_only _ _ _)) (h _ _)) (h _ _))
      ((withdraw_only _ _).andThen (setSlot_only _ _ _))
  · exact h _ _

/-- R98: what a burst changes that R97 does not set aside. -/
theorem takeBurst_only (w : Capability) (s : State) : Only [.slots, .quiet, .downlink, .links] s (takeBurst w s) := by
  refine Only.ite _ (.refl _ _) (Only.ite _ ?_ ?_) <;> split
  · exact freeSlot_only _ _ _ _ _
  · exact (reject_only _ _ _).mono (by decide)
  · exact burstInSlot_only _ _ _ _
  · exact Only.whenSome _ fun _ => (setSlot_only _ _ _).mono (by decide)

theorem reportAdmitted_only (i : SlotIx) (sl : Slot) (b : Bool) (s : State) :
    Only [.slots, .quiet, .downlink, .links] s (reportAdmitted i sl b s) :=
  (freeSlot_only _ _ _ _ _).andThen (broadcast_only _ _)

theorem replaceRecord_only (i : SlotIx) (sl : Slot) (s : State) : Only enrolFields s (replaceRecord i sl s) :=
  ((removeRecord_only _ _ _).andThen (hs := enrolFields) (modUnit_only _ _ _)).andThen (reportAdmitted_only _ _ _ _)

theorem addRecord_only (i : SlotIx) (sl : Slot) (s : State) : Only enrolFields s (addRecord i sl s) := by
  exact (units_only _ _).andThen (reportAdmitted_only _ _ _ _)

theorem evictFor_only (i : SlotIx) (sl : Slot) (old : UnitRec) (s : State) : Only enrolFields s (evictFor i sl old s) :=
  ((removeRecord_only _ _ _).andThen (hs := enrolFields) (broadcast_only _ _)).andThen (addRecord_only _ _ _)

/-- R112: what an attempted admission changes. -/
theorem admitUnit_only (i : SlotIx) (sl : Slot) (s : State) : Only enrolFields s (admitUnit i sl s) := by
  have h (c : EnrolCause) (r : Option AirReason) : Only enrolFields s (freeSlot i sl c r s) :=
    (freeSlot_only _ _ _ _ _).mono (by decide)
  refine Only.andThen (fs := enrolFields) ?_ (serveFreed_only _ _)
  split
  · exact Only.ite _ (h _ _) (replaceRecord_only _ _ _)
  · refine Only.ite _ (addRecord_only _ _ _) ?_
    split
    · exact evictFor_only _ _ _ _
    · exact h _ _

/-- R105, R127: what the report of a hand-over changes. -/
theorem handedOver_only (f : Frame) (s : State) : Only enrolFields s (handedOver f s) :=
  Only.ite _ (Only.whenSome _ fun _ => Only.ite _ (admitUnit_only _ _ _) (.refl _ _)) (.refl _ _)

/-- R127: what a SLOT_READY changes. -/
theorem handHead_only (p : Port) (ch : Chan) (s : State) : Only enrolFields s (handHead p ch s) :=
  Only.whenSome _ fun _ => ((setFrames_only' _ _ _).andThen (hs := enrolFields) (send_only _ _ _)).andThen
    (handedOver_only _ _)

/-! ## Path tests (R154 to R159) -/

theorem testOrder_only (p : Port) (t : TestRec) (s : State) : Only [.sent] s (testOrder p t s) := by
  unfold testOrder
  split
  · exact .refl _ _
  · exact send_only _ _ _
  · exact send_only _ _ _

theorem echoOn_only (p : Port) (t : TestRec) (s : State) : Only [.downlink, .links] s (echoOn p t s) := by
  unfold echoOn
  split
  · exact placeFrame_only _ _ _
  · exact .refl _ _

/-- R155: what the start of a test changes. -/
theorem startTest_only (p : Port) (t : TestRec) (s : State) :
    Only [.tests, .sequences, .ports, .links, .sent, .downlink] s (startTest p t s) := by
  have h : Only [.tests, .sequences] s (setTest p (some t) { s with sequences := s.sequences.put p t.seq }) := by
    intro f hf; cases f <;> first | exact rfl | simp at hf
  exact ((h.andThen (hs := [.tests, .sequences, .ports, .links]) (portTo_only _ _ _ _ _)).andThen
    (hs := [.tests, .sequences, .ports, .links, .sent]) (testOrder_only _ _ _)).andThen (echoOn_only _ _ _)

/-- R159: what the normal end of a test changes. -/
theorem endTest_only (p : Port) (t : TestRec) (s : State) :
    Only [.tests, .ports, .links, .sent, .downlink, .floors] s (endTest p t s) := by
  refine Only.andThen (fs := [.tests, .ports, .links, .sent, .downlink]) ?_ (takeUpClosed_only _ _)
  refine Only.andThen (fs := [.tests, .ports, .links, .sent, .downlink]) ?_ (broadcast_only _ _)
  refine Only.andThen (fs := [.tests, .links, .sent, .downlink]) ?_ (portTo_only _ _ _ _ _)
  have h : Only [.tests, .links, .downlink] s (echoOff p t (setTest p (some (t.finished s.time .done none)) s)) :=
    (setTest_only _ _ _).andThen (echoOff_only _ _ _)
  revert h
  generalize echoOff p t _ = u
  intro h
  cases t.mode with
  | loc => exact h.mono (by decide)
  | unit | remote => exact h.andThen (send_only _ _ _)

/-- R135, R156: what ECHO test data changes. -/
theorem takeEcho_only (p : Port) (bytes : List Byte) (s : State) : Only [.tests] s (takeEcho p bytes s) :=
  Only.whenSome _ fun _ => Only.ite _ (.refl _ _) (setTest_only _ _ _)

end Sys2Proof.Machine
end

