-- ==== Sys2Proof/Laws/PerInstr.lean ====
section
/-! SUPPORT. Laws/PerInstr.lean: the statement families over every row. `PortRoundTrip`: the bytes of the port message
that brings a well-formed event (12.5, 12.6) are read back as that event, with every field. -/

namespace Sys2Proof

set_option Elab.async false

/-- R193: the two bytes of an identity, the high one first. -/
def wordBytes (x : BitVec 16) : List Byte := [x.extractLsb' 8 8, x.extractLsb' 0 8]

/-- 12.5, 12.6: the port and the bytes of the port message that brings an event, for the rows that a port brings. -/
def Instr.portBytes : Instr → Option (Port × List Byte)
  | .healthReport p status => some (p, [0x02#8, status])
  | .carrierReport p present source => some (p, [0x03#8, if present then 1 else 0] ++ wordBytes source)
  | .slotReady p => some (p, [0x04#8])
  | .tuned p => some (p, [0x05#8])
  | .undefinedPortMessage p bytes => some (p, bytes)
  | .unknownAirFrame p bytes => some (p, 0x01#8 :: bytes)
  | .talkReq p src cls => some (p, [0x01#8, 0x01#8] ++ wordBytes src ++ [cls])
  | .talkEndFrame p src => some (p, [0x01#8, 0x02#8] ++ wordBytes src)
  | .emergency p src => some (p, [0x01#8, 0x03#8] ++ wordBytes src)
  | .presence p src move => some (p, [0x01#8, 0x04#8] ++ wordBytes src ++ [move])
  | .stopAck p src move => some (p, [0x01#8, 0x05#8] ++ wordBytes src ++ [move])
  | .resume p src move => some (p, [0x01#8, 0x06#8] ++ wordBytes src ++ [move])
  | .handoverOffer p src move target => some (p, [0x01#8, 0x07#8] ++ wordBytes src ++ [move] ++ wordBytes target)
  | .handoverTake p src move => some (p, [0x01#8, 0x08#8] ++ wordBytes src ++ [move])
  | .joined p src move ch => some (p, [0x01#8, 0x09#8] ++ wordBytes src ++ [move, ch])
  | .capability p src kind levels chans flags =>
      some (p, [0x01#8, 0x0A#8] ++ wordBytes src ++ [kind, levels, chans, flags])
  | .echoTestData p bytes => some (p, [0x01#8, 0x0B#8] ++ bytes)
  | _ => none

namespace Laws.PortRoundTrip

/-- R196: a well-formed event of a port is what the port message that brings it spells. -/
def Statement (i : Instr) : Prop :=
  ∀ (p : Port) (bytes : List Byte), i.wellFormed = true → i.portBytes = some (p, bytes) → portEvent p bytes = i

theorem word (x : BitVec 16) : x.extractLsb' 8 8 ++ x.extractLsb' 0 8 = x := by
  ext i h
  simp only [BitVec.getElem_append, BitVec.getElem_extractLsb']
  split
  · simp [BitVec.getLsbD_eq_getElem h]
  · rw [show 8 + (i - 8) = i by omega, BitVec.getLsbD_eq_getElem h]

theorem unknown_reads (p : Port) (bytes : List Byte) (h : (Instr.unknownAirFrame p bytes).wellFormed = true) :
    airEvent p bytes = .unknownAirFrame p bytes := by
  simp only [Instr.wellFormed, Bool.not_eq_true'] at h
  unfold airEvent
  split
  case h_11 => exact if_neg (by simpa [airFrameFits, airFits] using h)
  case h_12 => rfl
  all_goals simp [airFrameFits, airFits] at h

theorem undefined_reads (p : Port) (bytes : List Byte) (h : (Instr.undefinedPortMessage p bytes).wellFormed = true) :
    portEvent p bytes = .undefinedPortMessage p bytes := by
  simp only [Instr.wellFormed, Bool.not_eq_true'] at h
  rcases bytes with _ | ⟨type, rest⟩
  · rfl
  unfold portMessageFits at h
  unfold portEvent
  dsimp only at h ⊢
  generalize type.toNat = n at h ⊢
  split at h <;> simp_all <;> split <;> simp_all

theorem powerOn : Statement (.powerOn) := fun _ _ _ h => nomatch h
theorem resetAssert : Statement (.resetAssert) := fun _ _ _ h => nomatch h
theorem resetRelease : Statement (.resetRelease) := fun _ _ _ h => nomatch h
theorem timeBaseTick : Statement (.timeBaseTick) := fun _ _ _ h => nomatch h
theorem consoleByte (link : Console) (b : Byte) (stopBit : Bool) :
    Statement (.consoleByte link b stopBit) := fun _ _ _ h => nomatch h
theorem gapDeadline (link : Console) : Statement (.gapDeadline link) := fun _ _ _ h => nomatch h
theorem unknownCommand (link : Console) (code : Byte) :
    Statement (.unknownCommand link code) := fun _ _ _ h => nomatch h
theorem transmitDone (link : Console) : Statement (.transmitDone link) := fun _ _ _ h => nomatch h
theorem setChannel (link : Console) (ch : Byte) (f : ChannelFields) :
    Statement (.setChannel link ch f) := fun _ _ _ h => nomatch h
theorem setGlobal (link : Console) (f : GlobalFields) :
    Statement (.setGlobal link f) := fun _ _ _ h => nomatch h
theorem loadPattern (link : Console) (pat rep : Byte) (steps : List StepField) :
    Statement (.loadPattern link pat rep steps) := fun _ _ _ h => nomatch h
theorem enterService (link : Console) : Statement (.enterService link) := fun _ _ _ h => nomatch h
theorem restart (link : Console) : Statement (.restart link) := fun _ _ _ h => nomatch h
theorem createMove (link : Console) (f : MoveFields) :
    Statement (.createMove link f) := fun _ _ _ h => nomatch h
theorem addMember (link : Console) (move : Byte) (unit : UnitId) :
    Statement (.addMember link move unit) := fun _ _ _ h => nomatch h
theorem removeMember (link : Console) (move : Byte) (unit : UnitId) :
    Statement (.removeMember link move unit) := fun _ _ _ h => nomatch h
theorem setController (link : Console) (move : Byte) (unit : UnitId) :
    Statement (.setController link move unit) := fun _ _ _ h => nomatch h
theorem moveChannel (link : Console) (move ch : Byte) :
    Statement (.moveChannel link move ch) := fun _ _ _ h => nomatch h
theorem releaseMove (link : Console) (move : Byte) :
    Statement (.releaseMove link move) := fun _ _ _ h => nomatch h
theorem takeMove (link : Console) (move : Byte) : Statement (.takeMove link move) := fun _ _ _ h => nomatch h
theorem reinstate (link : Console) (move : Byte) : Statement (.reinstate link move) := fun _ _ _ h => nomatch h
theorem talkRequest (link : Console) (ch cls : Byte) :
    Statement (.talkRequest link ch cls) := fun _ _ _ h => nomatch h
theorem talkEnd (link : Console) (ch : Byte) : Statement (.talkEnd link ch) := fun _ _ _ h => nomatch h
theorem play (link : Console) (ch pat mode : Byte) :
    Statement (.play link ch pat mode) := fun _ _ _ h => nomatch h
theorem swapPort (link : Console) (ch : Byte) : Statement (.swapPort link ch) := fun _ _ _ h => nomatch h
theorem isolatePort (link : Console) (port : Byte) :
    Statement (.isolatePort link port) := fun _ _ _ h => nomatch h
theorem restorePort (link : Console) (port : Byte) :
    Statement (.restorePort link port) := fun _ _ _ h => nomatch h
theorem startTest (link : Console) (port mode : Byte) (dur : BitVec 16) (remote : Option (UnitId × BitVec 16)) :
    Statement (.startTest link port mode dur remote) := fun _ _ _ h => nomatch h
theorem stopTest (link : Console) (port : Byte) : Statement (.stopTest link port) := fun _ _ _ h => nomatch h
theorem insertError (link : Console) (port : Byte) :
    Statement (.insertError link port) := fun _ _ _ h => nomatch h
theorem readMove (link : Console) (move : Byte) : Statement (.readMove link move) := fun _ _ _ h => nomatch h
theorem readUnit (link : Console) (unit : UnitId) : Statement (.readUnit link unit) := fun _ _ _ h => nomatch h
theorem listUnits (link : Console) (start : UnitId) (filter : Byte) (move : Option Byte) :
    Statement (.listUnits link start filter move) := fun _ _ _ h => nomatch h
theorem readFloor (link : Console) (ch : Byte) : Statement (.readFloor link ch) := fun _ _ _ h => nomatch h
theorem readPort (link : Console) (port : Byte) : Statement (.readPort link port) := fun _ _ _ h => nomatch h
theorem readTest (link : Console) (port : Byte) : Statement (.readTest link port) := fun _ _ _ h => nomatch h
theorem readConditions (link : Console) : Statement (.readConditions link) := fun _ _ _ h => nomatch h
theorem readTime (link : Console) : Statement (.readTime link) := fun _ _ _ h => nomatch h
theorem subscribe (link : Console) (mask : Byte) : Statement (.subscribe link mask) := fun _ _ _ h => nomatch h
theorem healthReport (p : Port) (status : Byte) :
    Statement (.healthReport p status) := by
  rintro _ _ _ ⟨⟩; rfl
theorem carrierReport (p : Port) (present : Bool) (source : UnitId) :
    Statement (.carrierReport p present source) := by
  rintro _ _ _ ⟨⟩; cases present <;> exact congrArg (Instr.carrierReport _ _) (word source)
theorem slotReady (p : Port) : Statement (.slotReady p) := by
  rintro _ _ _ ⟨⟩; rfl
theorem tuned (p : Port) : Statement (.tuned p) := by
  rintro _ _ _ ⟨⟩; rfl
theorem undefinedPortMessage (p : Port) (bytes : List Byte) :
    Statement (.undefinedPortMessage p bytes) := by
  rintro _ _ h ⟨⟩; exact undefined_reads p bytes h
theorem unknownAirFrame (p : Port) (bytes : List Byte) :
    Statement (.unknownAirFrame p bytes) := by
  rintro _ _ h ⟨⟩; exact unknown_reads p bytes h
theorem talkReq (p : Port) (src : UnitId) (cls : Byte) :
    Statement (.talkReq p src cls) := by
  rintro _ _ _ ⟨⟩; exact congrArg (fun x : UnitId => Instr.talkReq p x cls) (word src)
theorem talkEndFrame (p : Port) (src : UnitId) : Statement (.talkEndFrame p src) := by
  rintro _ _ _ ⟨⟩; exact congrArg (Instr.talkEndFrame p) (word src)
theorem emergency (p : Port) (src : UnitId) : Statement (.emergency p src) := by
  rintro _ _ _ ⟨⟩; exact congrArg (Instr.emergency p) (word src)
theorem presence (p : Port) (src : UnitId) (move : Byte) :
    Statement (.presence p src move) := by
  rintro _ _ _ ⟨⟩; exact congrArg (fun x : UnitId => Instr.presence p x move) (word src)
theorem stopAck (p : Port) (src : UnitId) (move : Byte) :
    Statement (.stopAck p src move) := by
  rintro _ _ _ ⟨⟩; exact congrArg (fun x : UnitId => Instr.stopAck p x move) (word src)
theorem resume (p : Port) (src : UnitId) (move : Byte) :
    Statement (.resume p src move) := by
  rintro _ _ _ ⟨⟩; exact congrArg (fun x : UnitId => Instr.resume p x move) (word src)
theorem handoverOffer (p : Port) (src : UnitId) (move : Byte) (target : UnitId) :
    Statement (.handoverOffer p src move target) := by
  rintro _ _ _ ⟨⟩; exact congrArg₂ (fun x y : UnitId => Instr.handoverOffer p x move y) (word src) (word target)
theorem handoverTake (p : Port) (src : UnitId) (move : Byte) :
    Statement (.handoverTake p src move) := by
  rintro _ _ _ ⟨⟩; exact congrArg (fun x : UnitId => Instr.handoverTake p x move) (word src)
theorem joined (p : Port) (src : UnitId) (move ch : Byte) :
    Statement (.joined p src move ch) := by
  rintro _ _ _ ⟨⟩; exact congrArg (fun x : UnitId => Instr.joined p x move ch) (word src)
theorem capability (p : Port) (src : UnitId) (kind levels chans flags : Byte) :
    Statement (.capability p src kind levels chans flags) := by
  rintro _ _ _ ⟨⟩; exact congrArg (fun x : UnitId => Instr.capability p x kind levels chans flags) (word src)
theorem echoTestData (p : Port) (bytes : List Byte) :
    Statement (.echoTestData p bytes) := by
  rintro _ _ h ⟨⟩
  have h : 1 ≤ bytes.length ∧ bytes.length ≤ 32 := by simpa [Instr.wellFormed] using h
  have k : airFits 0x0B#8 (bytes.length + 1) = true := by simp [airFits]; omega
  exact if_pos k
theorem testBit (p : Port) : Statement (.testBit p) := fun _ _ _ h => nomatch h
theorem formingDeadline (m : MoveIx) : Statement (.formingDeadline m) := fun _ _ _ h => nomatch h
theorem joinRepetition (m : MoveIx) (unit : UnitId) :
    Statement (.joinRepetition m unit) := fun _ _ _ h => nomatch h
theorem addDeadline (m : MoveIx) (unit : UnitId) : Statement (.addDeadline m unit) := fun _ _ _ h => nomatch h
theorem reChannelDeadline (m : MoveIx) : Statement (.reChannelDeadline m) := fun _ _ _ h => nomatch h
theorem releaseStopRepetition (m : MoveIx) : Statement (.releaseStopRepetition m) := fun _ _ _ h => nomatch h
theorem releaseDeadline (m : MoveIx) : Statement (.releaseDeadline m) := fun _ _ _ h => nomatch h
theorem windowDeadline (m : MoveIx) : Statement (.windowDeadline m) := fun _ _ _ h => nomatch h
theorem cleanSpanEnd (m : MoveIx) : Statement (.cleanSpanEnd m) := fun _ _ _ h => nomatch h
theorem stopOrderRepetition (m : MoveIx) : Statement (.stopOrderRepetition m) := fun _ _ _ h => nomatch h
theorem stopConfirmMark (m : MoveIx) : Statement (.stopConfirmMark m) := fun _ _ _ h => nomatch h
theorem minimumHoldMark (m : MoveIx) : Statement (.minimumHoldMark m) := fun _ _ _ h => nomatch h
theorem offerCycleRepetition (m : MoveIx) : Statement (.offerCycleRepetition m) := fun _ _ _ h => nomatch h
theorem offerExpiry (m : MoveIx) : Statement (.offerExpiry m) := fun _ _ _ h => nomatch h
theorem takeUpDeadline (ch : Chan) : Statement (.takeUpDeadline ch) := fun _ _ _ h => nomatch h
theorem silentCarrierDeadline (ch : Chan) : Statement (.silentCarrierDeadline ch) := fun _ _ _ h => nomatch h
theorem overtalkExpiry (ch : Chan) : Statement (.overtalkExpiry ch) := fun _ _ _ h => nomatch h
theorem warningMark (ch : Chan) : Statement (.warningMark ch) := fun _ _ _ h => nomatch h
theorem lockoutExpiry (ch : Chan) (party : Party) :
    Statement (.lockoutExpiry ch party) := fun _ _ _ h => nomatch h
theorem hangExpiry (ch : Chan) : Statement (.hangExpiry ch) := fun _ _ _ h => nomatch h
theorem foreignDetection (ch : Chan) : Statement (.foreignDetection ch) := fun _ _ _ h => nomatch h
theorem quietDeadline (ch : Chan) : Statement (.quietDeadline ch) := fun _ _ _ h => nomatch h
theorem timeoutExpiry (ch : Chan) (party : Party) :
    Statement (.timeoutExpiry ch party) := fun _ _ _ h => nomatch h
theorem healthSilence (p : Port) : Statement (.healthSilence p) := fun _ _ _ h => nomatch h
theorem restorationMark (p : Port) : Statement (.restorationMark p) := fun _ _ _ h => nomatch h
theorem tuneDeadline (p : Port) : Statement (.tuneDeadline p) := fun _ _ _ h => nomatch h
theorem testEndTime (p : Port) : Statement (.testEndTime p) := fun _ _ _ h => nomatch h
theorem offerRepetition (slot : SlotIx) : Statement (.offerRepetition slot) := fun _ _ _ h => nomatch h
theorem confirmSpacing (slot : SlotIx) : Statement (.confirmSpacing slot) := fun _ _ _ h => nomatch h
theorem lapseTimer (slot : SlotIx) : Statement (.lapseTimer slot) := fun _ _ _ h => nomatch h
theorem stuckMark (slot : SlotIx) : Statement (.stuckMark slot) := fun _ _ _ h => nomatch h
theorem failureTimer (slot : SlotIx) : Statement (.failureTimer slot) := fun _ _ _ h => nomatch h
theorem quietListExpiry (unit : UnitId) : Statement (.quietListExpiry unit) := fun _ _ _ h => nomatch h
theorem agingExpiry (unit : UnitId) : Statement (.agingExpiry unit) := fun _ _ _ h => nomatch h
theorem toneStepEnd (ch : Chan) : Statement (.toneStepEnd ch) := fun _ _ _ h => nomatch h

end Laws.PortRoundTrip

end Sys2Proof
end

