-- ==== Sys2Proof/Tests/Slice0.lean ====
section
/-! SUPPORT. Tests/Slice0.lean: the sender's own tests (their expected values come from the manual's text and tables), the
refusals of `Instr.wellFormed`, and the witnesses: states and operands that meet the hypotheses of the statements, named
after the statement they serve. -/

namespace Sys2Proof.Tests

set_option Elab.async false

open Sys2Proof.Machine

/-! ## Small states -/

/-- The state that a step answers. -/
def nx (o : Host.Outcome State Fault Refusal) : State :=
  match o with
  | .next s => s
  | .fault _ => State.reset
  | .refused _ => State.reset

def idle : Floor := { Floor.reset with state := .idle }

/-- A port that carries a channel, last heard 200 ms ago. -/
def carrying (ch : Chan) : PortRec :=
  { PortRec.reset with
    state := .active, channel := some ch, lastHealth := some 99800, status := some .ok
    pins := { Pins.closed with tone := some ch } }

/-- A STANDBY port, last heard 200 ms ago. -/
def spare : PortRec := { PortRec.reset with state := .standby, lastHealth := some 99800, status := some .ok }

/-- A level 3 unit with every channel. -/
def aUnit (x : UnitId) (k : UnitKind) (cur : Chan) (b : Option MoveIx) : UnitRec :=
  ⟨x, k, .l3, 0b111111#6, cur, b, 1000, 90000, 50000⟩

def member (x : UnitId) (j : Bool) : Member := ⟨x, j, 1, 99000, none⟩

/-- A conventional move of locomotive 0200 and handsets 0100 and 0101 on CH1. -/
def conv : Move where
  state := .active
  channel := 1
  console := 0
  loco := member 0x200 true
  handsets := [member 0x100 true, member 0x101 true]
  controller := none
  interval := 2000
  faultLimit := 3
  windowStart := none
  closedEnd := none
  deadline := none
  faultCount := 0
  cleanStart := none
  lastFault := none
  holdStart := none
  stopAckSeen := false
  presenceNoted := false
  suspensionPending := false
  handover := none
  formingDeadline := none
  rechannel := none
  releaseDeadline := none
  repeats := 0
  unconfirmedSent := false

/-- The same as an RC move with controller 0100, its window open until 101000. -/
def rc : Move :=
  { conv with
    controller := some 0x100, windowStart := some 99000, closedEnd := some 99500, deadline := some 101000
    cleanStart := some 40000 }

/-- An RC move whose channel is CH2. -/
def onCh2 : Move := { rc with channel := 2 }

/-- A conventional move with both parameters out of range, and an RC move with the defaults. -/
def convFields : MoveFields := ⟨1, 0x400, [0x300, 0x301], none, some 499, some 8⟩
def rcFields : MoveFields := ⟨1, 0x401, [0x300, 0x301], some 0x301, none, none⟩

/-- SERVICE at 100,000 ms: CH0 and CH1 carried by BP0 and BP1, BP2 in STANDBY, the units of move 1, and four others. -/
def svc : State :=
  { State.reset with
    time := 100000
    part := .service
    floors := (State.reset.floors.put 0 idle).put 1 idle
    ports := ((State.reset.ports.put 0 (carrying 0)).put 1 (carrying 1)).put 2 spare
    units := [aUnit 0x100 .handset 1 (some 0), aUnit 0x101 .handset 1 (some 0), aUnit 0x200 .locoRc 1 (some 0),
      aUnit 0x300 .handset 1 none, aUnit 0x301 .handset 1 none, aUnit 0x302 .handset 0 none,
      aUnit 0x400 .loco 0 none, aUnit 0x401 .locoRc 0 none]
    moves := State.reset.moves.put 0 (some conv) }

/-- The same with move 1 as a given record. -/
def withMove (m : Move) : State := { svc with moves := svc.moves.put 0 (some m) }

/-- The same with the floor of CH1 as a given record. -/
def withFloor (f : Floor) : State := { svc with floors := svc.floors.put 1 f }

/-- The same with BP2 as a given record. -/
def withPort (r : PortRec) : State := { svc with ports := svc.ports.put 2 r }

/-- The same in CONFIG. -/
def cfg : State := { State.reset with time := 100000, ports := State.reset.ports.put 0 spare }

/-- A grant of a party, ROUTINE, issued 1 s ago, with every deadline reached. -/
def grantOf (p : Party) : Grant :=
  ⟨p, none, .routine, 99000, true, some 99500, some 99900, some 99900, some 99950, false⟩

def entryOf (p : Party) (c : TalkClass) : Entry := ⟨p, none, c, 98000, 99999⟩

/-- A floor GRANTED to a party. -/
def granted (p : Party) : Floor := { idle with state := .granted, grant := some (grantOf p), gate := some p }

/-- A floor in a hang reserved for a party, its expiry reached. -/
def hanging (p : Party) : Floor := { idle with state := .hang, hang := some ⟨.party p, 99999⟩ }

/-- A running test that has lasted to its end time. -/
def test (mode : TestMode) : TestRec :=
  ⟨mode, none, none, none, 1, 10, .search, 0, 0, 0, 0, false, 90000, 100000, none, none, BitVec.allOnes 15,
    BitVec.allOnes 15, 0, 0⟩

/-- The same state with a test running on BP2. -/
def testing (mode : TestMode) : State :=
  { withPort { spare with state := .test } with tests := svc.tests.put 2 (some (test mode)) }

/-- A slot in a phase, all its timers reached. -/
def aSlot (x : UnitId) (ph : EnrolPhase) : Slot :=
  ⟨x, ⟨x, .handset, 0b111#3, 0b111111#6, true⟩, ph, 1, 0, 90000, 90000, 90000, some .l3, some 0b111111#6, false, 1, 0⟩

/-- The same state with slot 0 held. -/
def enrolling (sl : Slot) : State := { svc with slots := svc.slots.put 0 (some sl) }

/-- A frame on its way into a link. -/
def receiving (c : Console) (bytes : List Byte) (s : State) : State :=
  setLink c { s.link c with framer := some ⟨bytes, bytes.head?, 100000⟩ } s

/-! ## What `Instr.wellFormed` refuses -/

/-- R178: READ_TIME's code is a known one. -/
theorem test_ill_unknownCommand : (Instr.unknownCommand 0 0x37#8).wellFormed = false := by decide +kernel
/-- R194: 30 steps need 123 bytes of body. -/
theorem test_ill_loadPattern : (Instr.loadPattern 0 4 1 (List.replicate 30 ⟨1000, 1, 1⟩)).wellFormed = false := by
  decide +kernel
/-- R194: 58 handsets need more than 119 bytes of body. -/
theorem test_ill_createMove : (Instr.createMove 0 { channel := 1, loco := 1, handsets := List.replicate 58 2 }).wellFormed =
    false := by decide +kernel
/-- R195: a REMOTE test without its echo unit, and a LOCAL test with one. -/
theorem test_ill_startTest : (Instr.startTest 0 2 2 10 none).wellFormed = false ∧
    (Instr.startTest 0 2 0 10 (some (0x300, 1))).wellFormed = false := by decide +kernel
/-- R195: filter 2 without a move, and filter 1 with one. -/
theorem test_ill_listUnits : (Instr.listUnits 0 1 2 none).wellFormed = false ∧
    (Instr.listUnits 0 1 1 (some 1)).wellFormed = false := by decide +kernel
/-- R196: a HEALTH message of its length. -/
theorem test_ill_undefinedPortMessage : (Instr.undefinedPortMessage 0 [0x02, 0x00]).wellFormed = false := by decide +kernel
/-- R133: a TALK_END of its length. -/
theorem test_ill_unknownAirFrame : (Instr.unknownAirFrame 0 [0x02, 0x03, 0x00]).wellFormed = false := by decide +kernel
/-- 12.6: no test data, and 33 bytes of it. -/
theorem test_ill_echoTestData : (Instr.echoTestData 0 []).wellFormed = false ∧
    (Instr.echoTestData 0 (List.replicate 33 0)).wellFormed = false := by decide +kernel

/-! ## Bytes, written by hand from chapter 12 -/

/-- R194: the check value of the CRC, for the bytes of "123456789". -/
theorem test_crc : crc [0x31, 0x32, 0x33, 0x34, 0x35, 0x36, 0x37, 0x38, 0x39] = 0x29B1 := by decide +kernel

/-- 12.3: SET_CHANNEL of CH2: in use (bit 0), AGE_STEP 1000 (bit 3), QUEUE_TIMEOUT 60,000 (bit 8). -/
theorem test_parse_setChannel : parseCommand 0x01 [2, 0x01, 0x09, 1, 0x03, 0xE8, 0x00, 0x00, 0xEA, 0x60] =
    .fits (.setChannel 2 { inUse := some 1, ageStep := some 1000, queueTimeout := some 60000 }) := by decide +kernel
/-- 12.3: SET_GLOBAL with the age-out (bit 1) and the presence interval (bit 2). -/
theorem test_parse_setGlobal : parseCommand 0x02 [0x06, 30, 0x07, 0xD0] =
    .fits (.setGlobal { ageOut := some 30, interval := some 2000 }) := by decide +kernel
/-- 12.3: LOAD_PATTERN 4, 3 repeats, one step of 1200 Hz, 300 ms, level 10. -/
theorem test_parse_loadPattern : parseCommand 0x03 [4, 3, 1, 0x04, 0xB0, 30, 10] =
    .fits (.loadPattern 4 3 [⟨1200, 30, 10⟩]) := by decide +kernel
/-- 12.3: CREATE_MOVE on CH2 with two handsets, a controller and the fault limit. -/
theorem test_parse_createMove :
    parseCommand 0x10 [2, 0x30, 0x05, 2, 0x22, 0x01, 0x22, 0x02, 1, 0x22, 0x02, 0, 1, 5] =
    .fits (.createMove ⟨2, 0x3005, [0x2201, 0x2202], some 0x2202, none, some 5⟩) := by decide +kernel
/-- R195: a handset count of 3 with two unit IDs, and a presence byte of 2. -/
theorem test_parse_unfit : parseCommand 0x10 [2, 0x30, 0x05, 3, 0x22, 0x01, 0x22, 0x02, 0, 0, 0] = .unfit ∧
    parseCommand 0x10 [2, 0x30, 0x05, 1, 0x22, 0x01, 2, 0, 0] = .unfit := by decide +kernel
/-- 12.3: a REMOTE test with echo unit 2301 and frequency code 258; a UNIT test with a byte too many. -/
theorem test_parse_startTest :
    parseCommand 0x2B [3, 2, 0x00, 0x3C, 0x23, 0x01, 0x01, 0x02] = .fits (.startTest 3 2 60 (some (0x2301, 258))) ∧
    parseCommand 0x2B [3, 1, 0x00, 0x3C, 0x00] = .unfit := by decide +kernel
/-- 12.3: the codes of the commands on moves. -/
theorem test_parse_moves : [parseCommand 0x11 [5, 0x22, 0x03], parseCommand 0x12 [5, 0x22, 0x03],
    parseCommand 0x13 [5, 0x22, 0x03], parseCommand 0x14 [5, 3], parseCommand 0x15 [5], parseCommand 0x16 [5],
    parseCommand 0x17 [5]] = [.fits (.addMember 5 0x2203), .fits (.removeMember 5 0x2203), .fits (.setController 5 0x2203),
    .fits (.moveChannel 5 3), .fits (.releaseMove 5), .fits (.takeMove 5), .fits (.reinstate 5)] := by decide +kernel
/-- 12.3: the codes of the floor, port and part commands. -/
theorem test_parse_others : [parseCommand 0x20 [2, 3], parseCommand 0x21 [2], parseCommand 0x22 [2, 0, 1],
    parseCommand 0x28 [4], parseCommand 0x29 [4], parseCommand 0x2A [4], parseCommand 0x2C [4], parseCommand 0x2D [4],
    parseCommand 0x08 [], parseCommand 0x09 []] = [.fits (.talkRequest 2 3), .fits (.talkEnd 2), .fits (.play 2 0 1),
    .fits (.swapPort 4), .fits (.isolatePort 4), .fits (.restorePort 4), .fits (.stopTest 4), .fits (.insertError 4),
    .fits .enterService, .fits .restart] := by decide +kernel
/-- 12.3: the codes of the reads and of SUBSCRIBE. -/
theorem test_parse_reads : [parseCommand 0x30 [7], parseCommand 0x31 [0x23, 0x01], parseCommand 0x32 [0x00, 0x01, 2, 9],
    parseCommand 0x33 [2], parseCommand 0x34 [6], parseCommand 0x35 [6], parseCommand 0x36 [], parseCommand 0x37 [],
    parseCommand 0x38 [0x21]] = [.fits (.readMove 7), .fits (.readUnit 0x2301), .fits (.listUnits 1 2 (some 9)),
    .fits (.readFloor 2), .fits (.readPort 6), .fits (.readTest 6), .fits .readConditions, .fits .readTime,
    .fits (.subscribe 0x21)] := by decide +kernel

/-- 12.5, 12.6: uplink messages of a port. -/
theorem test_port_events : [portEvent 3 [0x02, 1], portEvent 3 [0x03, 1, 0x22, 0x01], portEvent 3 [0x04], portEvent 3 [0x05],
    portEvent 3 [0x05, 0], portEvent 3 [0x09]] = [.healthReport 3 1, .carrierReport 3 true 0x2201, .slotReady 3, .tuned 3,
    .undefinedPortMessage 3 [0x05, 0], .undefinedPortMessage 3 [0x09]] := by decide +kernel
theorem test_air_events : [portEvent 3 [0x01, 0x01, 0x22, 0x01, 2], portEvent 3 [0x01, 0x03, 0x22, 0x01],
    portEvent 3 [0x01, 0x07, 0x22, 0x01, 5, 0x22, 0x02], portEvent 3 [0x01, 0x0A, 0x22, 0x01, 1, 7, 0x3F, 1],
    portEvent 3 [0x01, 0x04, 0x22, 0x01], portEvent 3 [0x01, 0x0B, 0xFF]] = [.talkReq 3 0x2201 2, .emergency 3 0x2201,
    .handoverOffer 3 0x2201 5 0x2202, .capability 3 0x2201 1 7 0x3F 1, .unknownAirFrame 3 [0x04, 0x22, 0x01],
    .echoTestData 3 [0xFF]] := by decide +kernel

/-- 12.4: REFUSED(CHANNEL_FULL) of CREATE_MOVE, FRAME_REJECT(CRC), and the ACCEPTED of READ_TIME (without sync and CRC). -/
theorem test_response_frames :
    ((Response.frames ⟨some 0x10, .refused .channelFull 0⟩).map (fun f => f.take 7) = [[0xA5, 5, 0x81, 0x10, 0x12, 0, 0]]) ∧
    ((Response.frames ⟨none, .frameReject .crc⟩).map (fun f => f.take 4) = [[0xA5, 2, 0x82, 2]]) ∧
    (Response.frames ⟨some 0x37, .accepted false (.clock 0x01020304 .service)⟩).map (fun f => f.take 10) =
      [[0xA5, 8, 0x80, 0x37, 0, 1, 2, 3, 4, 1]] := by decide +kernel
/-- 12.4: notice TALK_GRANTED, number 7, of CH2 with class WORK. -/
theorem test_notice_frame : (Notice.frames ⟨7, 0x00018A88, .talkGranted 2 .work⟩).map (fun f => f.take 12) =
    [[0xA5, 10, 0xC0, 0x21, 7, 0x00, 0x01, 0x8A, 0x88, 0, 2, 1]] := by decide +kernel
/-- 12.5, 12.6: downlink messages to a port. -/
theorem test_port_messages : [PortMsg.bytes (.air ⟨0x2201, .grant 2 .work⟩), PortMsg.bytes (.air ⟨0x3005, .stopOrder 4⟩),
    PortMsg.bytes (.air ⟨0x2201, .revoke 2 .overtalk⟩), PortMsg.bytes (.tune 230), PortMsg.bytes (.gate (some (.console 2))),
    PortMsg.bytes (.testAir 258)] = [[0x81, 0x42, 0x22, 0x01, 2, 1], [0x81, 0x41, 0x30, 0x05, 5],
    [0x81, 0x45, 0x22, 0x01, 2, 7], [0x82, 0, 230], [0x83, 0xFF, 0xF2], [0x84, 1, 1, 2]] := by decide +kernel

/-! ## Worked figures and sequences of the manual -/

/-- 9.1.1: dividers of 300, 1000, 1200, 1800, 2400, 2999 and 3000 Hz. -/
theorem test_dividers : [300, 1000, 1200, 1800, 2400, 2999, 3000].map toneDivider =
    [0, 2867, 3072, 3413, 3584, 3686, 3686] := by decide +kernel

/-- 3.9: ranks at t = 21,000 and at t = 37,500. -/
theorem test_ranks :
    [rank 21000 2000 ⟨.unit 0x2211, some 7, .routine, 0, 60000⟩, rank 21000 2000 ⟨.unit 0x2221, some 8, .work, 4000, 64000⟩,
      rank 21000 2000 ⟨.console 1, none, .routine, 9000, 69000⟩, rank 37500 2000 ⟨.unit 0x2211, some 7, .routine, 0, 60000⟩,
      rank 37500 2000 ⟨.unit 0x2231, some 9, .work, 37000, 97000⟩] = [10, 18, 6, 15, 10] := by decide +kernel

/-- 2.10 at 100,000: the grant of class WORK. -/
theorem test_talkReq_grants : ((nx (exec (.talkReq 1 0x300 1) svc)).floor 1).grant.map
    (fun g => (g.cls, g.takeUp, g.overtalk, g.warning)) = some (.work, some 101500, some 160000, some 155000) := by
  decide +kernel
/-- 2.10 at 124,000: TALK_END begins a hang of 2500 ms, and the gate closes. -/
theorem test_talkEnd_hangs : ((nx (exec (.talkEndFrame 1 0x300) (withFloor (granted (.unit 0x300))))).floor 1).hang =
    some ⟨.party (.unit 0x300), 102500⟩ ∧
    ((nx (exec (.talkEndFrame 1 0x300) (withFloor (granted (.unit 0x300))))).port 1).pins.gate = none := by decide +kernel
/-- 2.10 at 126,500: the take-up deadline revokes, and the waiting party is granted. -/
theorem test_takeUp_revokes : ((nx (exec (.takeUpDeadline 1) (withFloor { granted (.unit 0x300) with
    queue := [entryOf (.unit 0x301) .routine] }))).floor 1).grant.map (fun g => (g.holder, g.takeUp, g.overtalk, g.warning)) =
    some (.unit 0x301, some 101500, some 130000, some 125000) := by decide +kernel
/-- 2.10 at 130,000: a console's EMERGENCY preempts, is taken up at once and has no overtalk expiry. -/
theorem test_talkRequest_preempts : ((nx (exec (.talkRequest 2 1 3) (withFloor (granted (.unit 0x300))))).floor 1).grant.map
    (fun g => (g.holder, g.takenUp, g.overtalk)) = some (.console 2, true, none) := by decide +kernel
/-- 2.10 at 112,000: the end of the holder's carrier sets the silent-carrier deadline 5000 ms ahead. -/
theorem test_carrier_silent : ((nx (exec (.carrierReport 1 false 0) (withFloor { granted (.unit 0x300) with
    heard := some ⟨0x300, 90000⟩ }))).floor 1).grant.map (·.silent) = some (some 105000) := by decide +kernel
/-- R57: of two equal ranks the earlier entry is granted. -/
theorem test_best_is_earliest : ((nx (exec (.hangExpiry 1) (withFloor { hanging (.console 1) with
    queue := [entryOf (.unit 0x300) .work, entryOf (.unit 0x301) .work] }))).floor 1).grant.map (·.holder) =
    some (.unit 0x300) := by decide +kernel

/-- R76: a PRESENCE opens a window of P = 2000 ms with a closed part of P / 4. -/
theorem test_presence_window : ((nx (exec (.presence 1 0x100 0) (withMove rc))).move 0).map
    (fun m => (m.windowStart, m.closedEnd, m.deadline)) = some (some 100000, some 100500, some 102000) := by decide +kernel
/-- R79, R82, R83: an EARLY presence counts and orders a stop; the STOP pattern waits at the head of CH1's list. -/
theorem test_presence_early : ((nx (exec (.presence 1 0x100 0) (withMove { rc with closedEnd := some 100001 }))).move 0).map
      (fun m => (m.state, m.faultCount, m.lastFault, m.holdStart)) = some (.stopHeld, 1, some .early, some 100000) ∧
    (nx (exec (.presence 1 0x100 0) (withMove { rc with closedEnd := some 100001 }))).frames 1 = [⟨0x200, .stopOrder 0⟩] ∧
    ((nx (exec (.presence 1 0x100 0) (withMove { rc with closedEnd := some 100001 }))).floor 1).state = .alert := by
  decide +kernel
/-- R81: the fault that reaches the limit makes suspension pending. -/
theorem test_missed_suspends : ((nx (exec (.windowDeadline 0)
    (withMove { rc with deadline := some 100000, faultCount := 2 }))).move 0).map (fun m => (m.faultCount, m.suspensionPending)) =
    some (3, true) := by decide +kernel

/-- R5: a presence interval of 2,345 ms is rounded down to 2,300 and 8 faults are clamped to 7. -/
theorem test_createMove : ((nx (exec (.createMove 0 ⟨1, 0x400, [0x300], none, some 2345, some 8⟩) svc)).move 1).map
    (fun m => (m.state, m.interval, m.faultLimit, m.formingDeadline)) = some (.forming, 2300, 7, some 105000) := by
  decide +kernel
/-- R4: a locomotive of kind LOCO with a controller. -/
theorem test_createMove_controller : ((nx (exec (.createMove 0 ⟨1, 0x400, [0x300], some 0x300, none, none⟩) svc)).link 0).tx =
    some ⟨[0xA5, 5, 0x81, 0x10, 0x1C, 0, 0] ++ (e16 (crc [5, 0x81, 0x10, 0x1C, 0, 0]).toNat), []⟩ := by decide +kernel
/-- R13: the last handset of a move stays. -/
theorem test_removeMember_last : ((nx (exec (.removeMember 0 1 0x100) (withMove { conv with
    handsets := [member 0x100 true] }))).link 0).tx.map (fun x => x.frame.take 7) = some [0xA5, 5, 0x81, 0x12, 0x21, 0, 0] := by
  decide +kernel

/-- R2, R93: of two controllers the earlier handset of the list is told first, be it the new one or the former. -/
theorem test_handover_order : ∀ m ∈ [{ rc with handover := some ⟨0x101, 100001⟩ }], ∀ m' ∈ [{ m with handsets := m.handsets.reverse }],
    ((nx (exec (.handoverTake 1 0x101 1) (withMove m))).frames 1).map (·.dest) = [0x100, 0x101] ∧
    ((nx (exec (.handoverTake 1 0x101 1) (withMove m'))).frames 1).map (·.dest) = [0x101, 0x100] := by decide +kernel
/-- R127, R123: of a GRANT and a STOP_ORDER placed after it, the STOP_ORDER is handed first. -/
theorem test_slotReady_order : (nx (exec (.slotReady 1) (setFrames 1 [⟨0x300, .grant 1 .work⟩, ⟨0x200, .stopOrder 0⟩] svc))).sent =
    [(1, .air ⟨0x200, .stopOrder 0⟩)] := by decide +kernel

/-- R162, R165: a MIX of CALL ends its first step after 400 ms; a step's end time begins the next from that time. -/
theorem test_play_mix : ((nx (exec (.play 0 1 3 2) (withFloor (granted (.console 1))))).generator 1).map (·.stepEnd) =
    some 100400 := by decide +kernel
theorem test_toneStepEnd : ((nx (exec (.toneStepEnd 1) (setGenerator 1 (some ⟨.mix, 3, 99000, 1, 0, 99990, ⟨3072, 12⟩⟩) svc))).generator 1).map
    (fun g => (g.rep, g.step, g.stepEnd, g.output)) = some (1, 1, 100190, ⟨3072, 0⟩) := by decide +kernel
/-- R151, R163, R165: CALL's first step gives BP1's tone line divider 3072 and level 12; its second step is silent. -/
theorem test_toneLine : ((nx (exec (.play 0 1 3 2) (withFloor (granted (.console 1))))).toneLine 1) = some ⟨3072, 12⟩ ∧
    (nx (exec (.toneStepEnd 1) (setGenerator 1 (some ⟨.mix, 3, 99000, 1, 0, 99990, ⟨3072, 12⟩⟩) svc))).toneLine 1 = none := by
  decide +kernel
/-- R171: nothing is mixed over an IDLE floor. -/
theorem test_play_notGranted : ((nx (exec (.play 0 1 3 2) svc)).link 0).tx.map (fun x => x.frame.take 7) =
    some [0xA5, 5, 0x81, 0x22, 0x38, 0, 0] := by decide +kernel

/-- R140: 500 ms of silence of a carrying port; the spare is told to tune to CH1's frequency code 210. -/
theorem test_silence_transfers : (nx (exec (.healthSilence 1) { svc with time := 100300 })).sent =
    [(1, .gate none), (2, .tune 210)] := by decide +kernel
/-- R140: 499 ms are not 500. -/
theorem test_silence_early : (nx (exec (.healthSilence 1) { svc with time := 100299 })).sent = [] := by decide +kernel
/-- R147: SWAP_PORT with no STANDBY port. -/
theorem test_swap_noSpare : ((nx (exec (.swapPort 0 1) (withPort PortRec.reset))).link 0).tx.map (fun x => x.frame.take 7) =
    some [0xA5, 5, 0x81, 0x28, 0x43, 0, 0] := by decide +kernel

/-- R154: after the first bit of a test the generator holds a 0 in stage 1 and ones elsewhere. -/
theorem test_generator : ((nx (exec (.testBit 2) (testing .unit))).testOf 2).map (·.generator) = some 0b111111111111110#15 ∧
    (nx (exec (.testBit 2) (testing .unit))).sent = [(2, .bit true)] := by decide +kernel
/-- R154, R156: a test begins with fifteen ones and a zero, and the checker, seeded like the generator, finds no error in
them; a sixteenth one in place of the zero is an error. -/
theorem test_prediction : ∀ bits, bits = List.replicate 15 true ++ [false] →
    (bits.foldl (TestRec.takes 100000) (test .unit)).windowErrors = 0 ∧
    ((List.replicate 16 true).foldl (TestRec.takes 100000) (test .unit)).windowErrors = 1 := by simp only [forall_eq]; decide +kernel
/-- R156: fifteen bits of an undamaged stream put a checker that held something else into the sender's state. -/
theorem test_align : (((List.range 15).foldl (fun x _ => (TestRec.takes 100000 x.1 (stage15 x.2), advance x.2))
    ({ test .unit with checker := 0x1234 }, 0x0F0F#15)) : TestRec × BitVec 15).1.checker = advance^[15] 0x0F0F#15 := by
  decide +kernel
/-- R158: an inserted error inverts the bit and is counted. -/
theorem test_insertError : ∀ s, s = nx (exec (.testBit 2) (setTest 2 (some { test .unit with insertPending := true })
    (testing .unit))) → s.sent = [(2, .bit false)] ∧ (s.testOf 2).map (fun t => (t.inserted, t.insertPending)) =
    some (1, false) := by simp only [forall_eq]; decide +kernel
/-- R153: sequence 255 is followed by 1. -/
theorem test_startTest_sequence : (nx (exec (.startTest 0 2 1 10 none)
    { svc with sequences := svc.sequences.put 2 255 })).sequences.get 2 = 1 := by decide +kernel

/-- R102: offered {L1, L2, L3} and {L1, L2} of the unit resolve to L2; a LOCO_RC needs L3; CH3, not in use, leaves the set. -/
theorem test_resolve :
    resolvedLevel 0b111#3 ⟨0x500, .handset, 0b011#3, 0b111111#6, false⟩ = some .l2 ∧
    resolvedLevel 0b111#3 ⟨0x500, .locoRc, 0b011#3, 0b111111#6, false⟩ = none ∧
    resolvedLevel 0b111#3 ⟨0x500, .locoRc, 0b101#3, 0b111111#6, false⟩ = some .l3 ∧
    effectiveSet svc ⟨0x500, .handset, 0b111#3, 0b001010#6, false⟩ = 0b000011#6 := by decide +kernel

/-- R112: the fourth CONFIRM admits the unit on CH0, unbound. -/
theorem test_confirm_admits : ((nx (exec (.slotReady 0) (setFrames 0 [⟨0x500, .confirm .l3 0b111111#6 4⟩]
    (enrolling (aSlot 0x500 .confirm))))).unit 0x500).map (fun r => (r.current, r.binding, r.admitted)) =
    some (0, none, 100000) := by decide +kernel
/-- R119: 20 minutes after the later of last heard (90,000) and unbound since (50,000), and a millisecond before. -/
theorem test_aging : (nx (exec (.agingExpiry 0x300) { svc with time := 1290000 })).unit 0x300 = none ∧
    ((nx (exec (.agingExpiry 0x300) { svc with time := 1289999 })).unit 0x300).isSome = true := by decide +kernel

/-- R192: the Time Base follows 2^32 - 1 with 0. -/
theorem test_tick_wraps : (nx (exec .timeBaseTick { State.reset with time := 0xFFFFFFFF })).time = 0 := by decide +kernel
/-- R188: ENTER_SERVICE with CH0's port shared: CONFIG_INVALID naming the channel and PORT_SHARED. -/
theorem test_enterService_shared : ((nx (exec (.enterService 0)
    { cfg with channels := cfg.channels.put 1 { cfg.chan 1 with port := some 0 } })).link 0).tx.map (fun x => x.frame.take 5) =
    some [0xA5, 5, 0x81, 0x08, 4] := by decide +kernel

/-! ## Witnesses: the part and the console links -/

theorem witness_EveryEventIsTakenOrHeld :
    { svc with resetLine := true }.resetLine = true ∧ Instr.timeBaseTick ≠ .powerOn ∧
      Instr.timeBaseTick ≠ .resetAssert ∧ Instr.timeBaseTick ≠ .resetRelease := by decide +kernel

theorem witness_PowerOnAndTheResetLine : ∃ t, exec .resetAssert svc = .next t := ⟨_, rfl⟩

/-- Also a record of the greatest age, whose times move with the Time Base. -/
theorem witness_TickRaisesTheTimeBase :
    (svc.resetLine = false ∧ RegisterLaw svc) ∧
      RegisterLaw { svc with time := 2147483647, units := [⟨0x300, .handset, .l1, 1, 0, none, 0, 0, 1⟩] } := by
  simp only [RegisterLaw]; decide +kernel

theorem witness_ReceiveFramer :
    (svc.resetLine = false ∧ (svc.link 0).framer = none) ∧
    (∃ (r : Reception) (frame : List Byte), frame = r.bytes ++ [0x00#8] ∧ r.declared.getD 0x00#8 = 0 ∧
      ((receiving 0 [] svc).link 0).framer = some r) ∧
    (∃ r : Reception, r.declared.getD 0x79#8 = 121 ∧ ((receiving 0 [] svc).link 0).framer = some r) ∧
    (∃ r : Reception, r.declared.getD 0x78#8 = 120 ∧ (r.bytes ++ [0x78#8]).length ≠ 123 ∧
      ((receiving 0 [] svc).link 0).framer = some r) ∧
    (∃ r : Reception, r.declared.getD 0x8B#8 = 1 ∧ (r.bytes ++ [0x8B#8]).length = 1 + 3 ∧
      crcMatches (r.bytes ++ [0x8B#8]) = false ∧ ((receiving 0 [0x01, 0x37, 0x68] svc).link 0).framer = some r) ∧
    ∃ r : Reception, ((receiving 0 [0x01] svc).link 0).framer = some r ∧ reached svc.time r.gap = true :=
  ⟨by decide +kernel, ⟨_, _, rfl, by decide, rfl⟩, ⟨_, by decide, rfl⟩, ⟨_, by decide, by decide, rfl⟩,
    ⟨_, by decide, by decide, by decide +kernel, rfl⟩, ⟨_, rfl, by decide +kernel⟩⟩

/-- READ_TIME, a code that is no command, and a READ_TIME with a body: their CRCs are worked by hand from R194. -/
theorem witness_CheckedFrameIsCarriedOut :
    Listening 0 svc ∧ crcMatches [0x01, 0x37, 0x68, 0x8A] = true ∧ parseCommand 0x37#8 [] = .fits .readTime ∧
      frameType [0x01, 0x37, 0x68, 0x8A] = 0x37#8 ∧ frameBody [0x01, 0x37, 0x68, 0x8A] = [] ∧
      crcMatches [0x01, 0x7F, 0xA1, 0x46] = true ∧ parseCommand 0x7F#8 [] = .unknown ∧
      crcMatches [0x02, 0x37, 0x00, 0x3E, 0xFE] = true ∧
      parseCommand (frameType [0x02, 0x37, 0x00, 0x3E, 0xFE]) (frameBody [0x02, 0x37, 0x00, 0x3E, 0xFE]) = .unfit := by
  simp only [Listening]; decide +kernel

/-- A busy transmitter with a further frame, with a response waiting, with a notice waiting, and with nothing. -/
theorem witness_TransmitterTakesTheNextFrame :
    ∃ x : Sending, ((setLink 0 { Link.reset with tx := some x } svc).link 0).tx = some x ∧ x.rest = [[0x00#8]] ∧
    ∃ y : Sending, y.rest = [] ∧
      ((setLink 0 { Link.reset with tx := some y, responses := [⟨none, .frameReject .crc⟩] } svc).link 0).tx = some y ∧
      ((setLink 0 { Link.reset with tx := some y, notices := [⟨0, 0, .moveReleased 0⟩] } svc).link 0).tx = some y ∧
      ((setLink 0 { Link.reset with tx := some y } svc).link 0).tx = some y :=
  ⟨⟨[], [[0x00#8]]⟩, rfl, rfl, ⟨[], []⟩, rfl, rfl, rfl, rfl⟩

theorem witness_RefusedCommandsChangeNothing :
    Listening 0 svc ∧
      nx (exec (commandRow 0 (.readTest 7)) svc) = nx (answeredWith 0 0x35#8 (.refused .portUnknown 0) (hunt 0 svc)) ∧
      parseCommand 0x35#8 [7] = .fits (.readTest 7) := by
  simp only [Listening, answeredWith]; decide +kernel

/-- A link with room and a full one. -/
theorem witness_NoticesAreNumberedAndDelivered :
    svc.part = .service ∧ (svc.link 0).notices.length < 32 ∧
    32 ≤ ((setLink 0 { Link.reset with notices := List.replicate 32 ⟨0, 0, .moveReleased 0⟩ } svc).link 0).notices.length ∧
    NoticeBody.category (.moveReleased 0) ≠ some .port ∧ cfg.part = .config ∧
    NoticeBody.category (.portHealth 0 .ok) = some .port := by decide +kernel

/-! ## Witnesses: reads, configuration, the part state -/

/-- One claim of a unit: its grant, or its entry. -/
theorem oneClaim (f : Floor) (h : (f.queue.map (·.party)).Nodup) (k : ∀ g ∈ f.grant, g.holder ∉ f.queue.map (·.party)) :
    OneClaim (withFloor f) := by
  intro ch
  by_cases e : ch = 1
  · subst e; exact ⟨h, fun g hg => k g hg⟩
  · have hq : ∀ c, (svc.floor c).queue = [] ∧ (svc.floor c).grant = none := by decide +kernel
    have hf : (withFloor f).floor ch = svc.floor ch := Tab.get_put_ne _ _ e
    rw [hf, (hq ch).1, (hq ch).2]
    exact ⟨List.nodup_nil, nofun⟩

/-- A unit that holds the grant, and one that waits behind another's. -/
theorem witness_claims : OneClaim (withFloor (granted (.unit 0x300))) ∧
    OneClaim (withFloor { granted (.console 1) with queue := [entryOf (.unit 0x300) .work] }) :=
  ⟨oneClaim _ (by decide) (by decide), oneClaim _ (by decide) (by decide)⟩

theorem witness_ReadsReportAndChangeNothing :
    Listening 0 svc ∧ svc.move 0 = some conv ∧ (0x01#8).toNat = (0 : MoveIx).val + 1 ∧
      (∀ ch, (svc.chan ch).port = some (1 : Port) ↔ some (1 : Chan) = some ch) ∧
      (∀ ch, (svc.chan ch).port = some (2 : Port) ↔ (none : Option Chan) = some ch) ∧
      (testing .unit).testOf 2 = some (test .unit) := by
  simp only [Listening]; decide +kernel

/-- A registered unit, one with a slot alone, one with a quiet-list entry alone, an unknown one, and no unit's ID. -/
theorem witness_RegisterReadsReportAndChangeNothing_units :
    Listening 0 (enrolling (aSlot 0x500 .listen)) ∧ isUnitId 0x300 = true ∧ (svc.unit 0x300).isSome = true ∧
      isUnitId 0x500 = true ∧ (∃ sl ∈ (enrolling (aSlot 0x500 .listen)).slot 0, sl.unit = 0x500) ∧
      (∃ q ∈ { svc with quiet := [⟨0x500, 100001⟩] }.quiet, q.unit = 0x500) ∧
      (svc.unit 0x500 = none ∧ (∀ i, ∀ sl ∈ svc.slot i, sl.unit ≠ 0x500) ∧ ∀ q ∈ svc.quiet, q.unit ≠ 0x500) ∧
      isUnitId 0 = false ∧ isUnitId 0xFFF0 = false := by
  simp only [Listening]; decide +kernel

theorem witness_RegisterReadsReportAndChangeNothing :
    Listening 0 svc ∧
      (∀ r : UnitRec, (fun _ => true) r = true) ∧
      (∀ r : UnitRec, (fun r => r.binding.isNone) r = true ↔ r.binding = none) ∧
      (∀ r : UnitRec, (fun r => r.binding == some 23) r = true ↔ r.binding = some 23) ∧
      (0x18#8).toNat = (23 : MoveIx).val + 1 ∧ 24 < (0x19#8).toNat :=
  ⟨by simp only [Listening]; decide +kernel, fun _ => rfl, fun r => by simp, fun r => by simp, by decide, by decide⟩

theorem witness_ConditionsAndSubscriptions :
    Listening 0 svc ∧ Listening 0 (setLink 0 { Link.reset with responses := List.replicate 7 (.mk none (.frameReject .crc)) } svc) ∧ (0x3F#8).toNat < 64 ∧ 64 ≤ (0x40#8).toNat := by
  simp only [Listening]; decide +kernel

/-- In CONFIG with every kind of field, and in SERVICE without a structural one. -/
theorem witness_SetChannelAppliesItsFields :
    (Listening 0 cfg ∧ cfg.part = .config ∧ (0x05#8).toNat = (5 : Chan).val ∧ (∀ v ∈ some 0x01#8, v.toNat ≤ 1) ∧
      (∀ v ∈ some 0x06#8, v.toNat ≤ 6 ∨ v = 0xFF#8) ∧ ∀ v ∈ some 0xFF#8, v.toNat ≤ 6 ∨ v = 0xFF#8) ∧
    Listening 0 svc ∧ ∀ f : ChannelFields, f = { hangMs := some 10001 } →
      (∀ v ∈ f.inUse, v.toNat ≤ 1) ∧ (∀ v ∈ f.port, v.toNat ≤ 6 ∨ v = 0xFF#8) ∧
      (f.inUse = none ∧ f.port = none ∧ f.freq = none) := by
  simp only [Listening, forall_eq]; decide +kernel

/-- CONFIG with CH1 assigned a port, or none. -/
def planned (p : Option Port) : State := { cfg with channels := cfg.channels.put 1 { cfg.chan 1 with port := p } }

/-- What a link sends first. -/
def sentFirst (link : Console) (o : Host.Outcome State Fault Refusal) : Option (List Byte) :=
  ((nx o).link link).tx.map (fun x => x.frame.take 7)

/-- R188, 12.4: CH1 without a port, on CH0's port, and on a FAILED port: CONFIG_INVALID with channel 1 and the cause. -/
theorem test_enterService_causes :
    sentFirst 0 (exec (.enterService 0) (planned none)) = some [0xA5, 5, 0x81, 0x08, 0x04, 1, 1] ∧
    sentFirst 0 (exec (.enterService 0) (planned (some 0))) = some [0xA5, 5, 0x81, 0x08, 0x04, 1, 2] ∧
    sentFirst 0 (exec (.enterService 0) { cfg with ports := cfg.ports.put 1 { spare with state := .failed } }) =
      some [0xA5, 5, 0x81, 0x08, 0x04, 1, 3] := by decide +kernel
/-- R4: the first unit that has no record, and R16: SAME_CHANNEL. -/
theorem test_createMove_moveChannel_refused :
    sentFirst 0 (exec (.createMove 0 { convFields with handsets := [0x300, 0x999, 0x998] }) svc) =
      some [0xA5, 5, 0x81, 0x10, 0x15, 0x09, 0x99] ∧
    sentFirst 0 (exec (.moveChannel 0 1 1) svc) = some [0xA5, 5, 0x81, 0x14, 0x24, 0, 0] := by decide +kernel

theorem witness_CommandsAreGuarded :
    Listening 0 svc ∧ svc.part = .service ∧ (∀ v ∈ some 0x01#8, v.toNat ≤ 1) ∧
      ¬ (some 0x01#8 = none ∧ (none : Option Byte) = none ∧ (none : Option (BitVec 16)) = none) ∧ 6 ≤ (0x06#8).toNat ∧
      7 ≤ (0x07#8).toNat ∧ 0x07#8 ≠ 0xFF#8 ∧ (0x07#8).toNat ≤ 7 := by
  simp only [Listening]; decide +kernel

/-- ENTER_SERVICE: CH0 not in use; CH0 as it should be, and CH1 without a port, on CH0's port, and on a FAILED one. -/
theorem witness_CommandsAreGuarded_plan :
    (∀ s, s = { cfg with channels := cfg.channels.put 0 { cfg.chan 0 with inUse := false } } →
      Listening 0 s ∧ s.part = .config ∧ ¬ (s.chan 0).inUse = true) ∧
    ∀ s ∈ [planned none, planned (some 0), { cfg with ports := cfg.ports.put 1 { spare with state := .failed } }],
      Listening 0 s ∧ s.part = .config ∧ (s.chan 0).inUse = true ∧ (s.chan 0).port = some 0 ∧ (s.port 0).state ≠ .failed ∧
      (s.chan 1).inUse = true ∧
      ((s.chan 1).port = none ∨ (s.chan 1).port = (s.chan 0).port ∨ (s.port 1).state = .failed ∧ (s.chan 1).port = some 1) := by
  simp only [Listening, forall_eq]; decide +kernel

/-- CREATE_MOVE in CONFIG, where its first check fails, and in SERVICE with a LOCO and a controlling handset, where its last
one does. -/
theorem witness_CommandsAreGuarded_create :
    (∀ f s, ∃ behind, createChecks f s = [] ++ (s.part = .service, .wrongState, 0) :: behind) ∧ Listening 0 cfg ∧
      ¬ cfg.part = .service := by
  refine ⟨fun f s => ⟨_, rfl⟩, ?_⟩
  simp only [Listening]; decide +kernel

theorem witness_CommandsAreGuarded_create_room : Placeable 1 svc ∧ HasMoveRoom 1 svc :=
  ⟨⟨1, rfl, by decide, rfl, by decide +kernel⟩, by unfold HasMoveRoom; decide +kernel⟩

theorem witness_CommandsAreGuarded_create_last : ∀ f, f = { convFields with controller := some 0x300 } →
    Listening 0 svc ∧ svc.part = .service ∧ svc.move 1 = none ∧ f.channel = 1 ∧ f.handsets.length = 2 ∧
      (f.loco :: f.handsets).Nodup ∧
      ((f.loco :: f.handsets).all (fun x => (svc.unit x).any (fun r => r.binding.isNone && r.chans.getLsbD 1))) = true ∧
      (f.handsets.all (fun x => svc.kindOf x == some .handset)) = true ∧ svc.kindOf f.loco = some .loco ∧
      f.controller ≠ none := by
  simp only [Listening, forall_eq]; decide +kernel

/-- MOVE_CHANNEL of a move in ACTIVE to its own channel: the checks before pass, and SAME_CHANNEL fails; the same of a free
record, of another console's move, and of a FORMING one; TAKE_MOVE in CONFIG. -/
theorem witness_CommandsAreGuarded_moves :
    (∃ states own behind, MoveChecks 1 conv svc (.moveChannel 1 1) states own ∧ conv.state ∈ states ∧
      own = ((0x01#8).toNat ≠ conv.channel.val, .sameChannel, 0) :: behind ∧ ¬ (0x01#8).toNat ≠ conv.channel.val) ∧
    (∀ i : MoveIx, (0x01#8).toNat = i.val + 1 → svc.move i = none ∨ svc.move i = some conv) ∧
    (svc.part = .service ∧ (∃ i : MoveIx, (0x01#8).toNat = i.val + 1 ∧ svc.move i = some conv) ∧ conv.console = 0 ∧
      conv.console ≠ 1) ∧
    (∀ i : MoveIx, (0x02#8).toNat = i.val + 1 → svc.move i = none) ∧ MoveState.forming ∉ [MoveState.active, .recovery, .suspended] ∧
    cfg.part ≠ .service ∧ Listening 0 cfg ∧ Listening 1 svc := by
  refine ⟨⟨_, _, _, .inr (.inr (.inr (.inl ⟨1, rfl, rfl, rfl⟩))), by decide, rfl, by decide⟩, ?_⟩
  simp only [Listening]; decide +kernel

theorem witness_SetGlobalAppliesItsFields :
    Listening 0 svc ∧ (svc.units.map (·.unit)).Nodup ∧ Listening 0 cfg ∧ cfg.part = .config ∧
      (∀ v ∈ some 0x07#8, 1 ≤ v.toNat ∧ v.toNat ≤ 7) ∧
      aUnit 0x300 .handset 1 none ∈ svc.units ∧
      aUnit 0x300 .handset 1 none ∉ (nx (exec (.setGlobal 0 { ageOut := some 0 }) { svc with time := 200000 })).units ∧
      ∀ f : GlobalFields, f = { ageOut := some 61 } → f.levels = none ∧ ∃ v ∈ f.ageOut, 60 < v.toNat := by
  simp only [Listening, forall_eq]; decide +kernel

/-- CH0's port in STANDBY and CH1's ABSENT. -/
theorem witness_EnterServicePlacesTheChannels :
    Listening 0 cfg ∧ cfg.part = .config ∧ (cfg.chan 0).inUse = true ∧
      (∀ ch, (cfg.chan ch).inUse = true → ∃ p ∈ (cfg.chan ch).port, (cfg.port p).state ≠ .failed) ∧
      (∀ ch ch' p, (cfg.chan ch).inUse = true → (cfg.chan ch').inUse = true → (cfg.chan ch).port = some p →
        (cfg.chan ch').port = some p → ch = ch') ∧
      (cfg.port 0).state = .standby ∧ (cfg.port 1).state = .absent ∧ (cfg.floor 0).state = .off ∧
      (cfg.chan 2).inUse = false := by
  simp only [Listening]; decide +kernel

/-- Five channels in use, CH1 to CH4 on ISOLATED ports, BP5 in STANDBY and BP6 in TEST. -/
def cfgIsolated : State :=
  { cfg with
    channels := forChans.foldl (fun t c => t.put c.1 { cfg.chan c.1 with inUse := true, port := some c.2 }) cfg.channels
    ports := (((((cfg.ports.put 1 isolatedPort).put 2 isolatedPort).put 3 isolatedPort).put 4 isolatedPort).put 5 spare).put 6
      { spare with state := .test }
    tests := cfg.tests.put 6 (some (test .unit)) }
where
  forChans : List (Chan × Port) := [(1, 1), (2, 2), (3, 3), (4, 4)]
  isolatedPort : PortRec := { PortRec.reset with state := .isolated }

theorem witness_EnterServicePlacesTheChannels_isolated :
    Listening 0 cfgIsolated ∧ cfgIsolated.part = .config ∧ (cfgIsolated.chan 0).inUse = true ∧
      (∀ ch, (cfgIsolated.chan ch).inUse = true →
        ∃ p ∈ (cfgIsolated.chan ch).port, (cfgIsolated.port p).state ≠ .failed) ∧
      (∀ ch ch' p, (cfgIsolated.chan ch).inUse = true → (cfgIsolated.chan ch').inUse = true →
        (cfgIsolated.chan ch).port = some p → (cfgIsolated.chan ch').port = some p → ch = ch') ∧
      spares cfgIsolated = [5, 6] ∧ (cfgIsolated.testOf 6).map (·.state) = some .search ∧
      ∀ ch ∈ ([1, 2, 3, 4] : List Chan), (cfgIsolated.floor ch).state = .off ∧
        ∃ p ∈ (cfgIsolated.chan ch).port, (cfgIsolated.port p).state = .isolated := by
  simp only [Listening]
  exact ⟨by decide +kernel, by decide +kernel, by decide +kernel, by decide +kernel, by decide +kernel, by decide +kernel,
    by decide +kernel, by decide +kernel⟩

/-- R146 step 4: CH1 takes the STANDBY port, CH2 the port in TEST, and CH3 and CH4 close. -/
theorem test_isolated_channels : ∀ s ∈ [nx (exec (.enterService 0) cfgIsolated)],
    (s.port 5).channel = some 1 ∧ (s.port 6).channel = some 2 ∧ (s.testOf 6).map (·.state) = some .aborted ∧
      ([1, 2, 3, 4] : List Chan).map (fun ch => (s.floor ch).state) = [.transfer, .transfer, .closed, .closed] := by
  decide +kernel

theorem witness_RestartEmptiesThePart :
    Listening 0 cfg ∧ cfg.part = .config ∧ svc.part = .service ∧ svc.move 0 = some conv ∧
      (∀ i, { svc with moves := Tab.fill 24 none }.move i = none) ∧
      ({ svc with moves := Tab.fill 24 none }.port 1).state = .active ∧ (svc.port 3).state = .absent ∧
      ((testing .unit).port 2).state = .test ∧ (svc.link 0).subs.getLsbD 2 = true ∧
      [0, 1] = ([0, 1, 2, 3, 4, 5, 6] : List Port).filter (fun p => decide
        ((svc.port p).state = .active ∨ (svc.port p).state = .tuning ∨ (svc.port p).state = .test)) := by
  simp only [Listening]; decide +kernel

/-! ## Witnesses: the Move Table and the Supervision Monitor -/

theorem witness_CreateMoveFillsTheRecord :
    (Listening 0 svc ∧ svc.part = .service ∧ svc.move 1 = none ∧
      (∀ j : MoveIx, j.val < (1 : MoveIx).val → (svc.move j).isSome = true) ∧ convFields.channel.toNat = (1 : Chan).val ∧
      (1 : Chan) ≠ 0 ∧ (svc.chan 1).inUse = true ∧ (svc.floor 1).state ≠ .closed ∧ movesOn svc 1 < 6) ∧
    (1 ≤ convFields.handsets.length ∧ convFields.handsets.length ≤ 4 ∧
      convFields.loco :: convFields.handsets = [0x400, 0x300, 0x301] ∧ (convFields.loco :: convFields.handsets).Nodup ∧
      convFields.controller = none ∧ rcFields.loco :: rcFields.handsets = [0x401, 0x300, 0x301] ∧
      (rcFields.loco :: rcFields.handsets).Nodup ∧ rcFields.controller = some 0x301 ∧
      (0x301#16) ∈ rcFields.handsets) ∧
    (∃ r ∈ svc.unit 0x400, r.binding = none ∧ hasChan r.chans 1 = true ∧ r.level = .l3) ∧ svc.kindOf 0x400 = some .loco ∧
    (∃ r ∈ svc.unit 0x401, r.binding = none ∧ hasChan r.chans 1 = true ∧ r.level = .l3) ∧ svc.kindOf 0x401 = some .locoRc ∧
    (∃ r ∈ svc.unit 0x300, r.binding = none ∧ hasChan r.chans 1 = true ∧ r.level = .l3) ∧ svc.kindOf 0x300 = some .handset ∧
    (∃ r ∈ svc.unit 0x301, r.binding = none ∧ hasChan r.chans 1 = true ∧ r.level = .l3) ∧ svc.kindOf 0x301 = some .handset := by
  simp only [Listening]; decide +kernel

theorem witness_MembersAreAddedAndRemoved :
    (Listening 0 (withMove rc) ∧ NamesMove 0 1 0 rc (withMove rc) ∧ rc.state = .active ∧ rc.handsets.length < 4 ∧
      (withMove rc).unit 0x300 = some (aUnit 0x300 .handset 1 none) ∧ (aUnit 0x300 .handset 1 none).binding = none ∧
      (aUnit 0x300 .handset 1 none).kind = .handset ∧ hasChan (aUnit 0x300 .handset 1 none).chans rc.channel = true ∧
      (aUnit 0x300 .handset 1 none).level = .l3) ∧
    (0x101#16) ∈ rc.handsets.map (·.unit) ∧ 0x101#16 ≠ rc.loco.unit ∧ rc.controller ≠ some 0x101 ∧
      2 ≤ rc.handsets.length ∧ (withMove rc).unit 0x101 = some (aUnit 0x101 .handset 1 (some 0)) := by
  simp only [Listening, NamesMove]; decide +kernel

/-- Naming the present controller and another handset; taking one's own move and another's. -/
theorem witness_ControllerConsoleAndReinstatement :
    ∀ st ∈ [.active, .recovery, .suspended],
      Listening 0 (withMove { rc with state := st }) ∧ NamesMove 0 1 0 { rc with state := st } (withMove { rc with state := st }) ∧
      rc.controller = some 0x100 ∧ (∃ e ∈ rc.handsets.find? (fun e => e.unit == 0x100), e.joined = true) ∧
      (∃ e ∈ rc.handsets.find? (fun e => e.unit == 0x101), e.joined = true) ∧ (0x101#16) ≠ 0x100 ∧ rc.console ≠ 1 := by
  simp only [Listening, NamesMove]; decide +kernel

/-- CH1 becomes the new channel of a move on CH2. -/
theorem witness_MoveChannelRestartsTheJoinRounds :
    Listening 0 (withMove onCh2) ∧ NamesMove 0 1 0 onCh2 (withMove onCh2) ∧ onCh2.state = .active ∧
      (0x01#8).toNat = (1 : Chan).val ∧ (1 : Chan) ≠ onCh2.channel ∧ (1 : Chan) ≠ 0 ∧
      ((withMove onCh2).chan 1).inUse = true ∧ ((withMove onCh2).floor 1).state ≠ .closed ∧
      movesOn (withMove onCh2) 1 < 6 ∧ onCh2.units = [0x200, 0x100, 0x101] ∧
      (∃ r ∈ (withMove onCh2).unit 0x200, hasChan r.chans 1 = true) ∧
      (∃ r ∈ (withMove onCh2).unit 0x100, hasChan r.chans 1 = true) ∧
      ∃ r ∈ (withMove onCh2).unit 0x101, hasChan r.chans 1 = true := by
  simp only [Listening, NamesMove]; decide +kernel

/-- A conventional move, an RC move in RECOVERY, and RC moves in ACTIVE and STOP_HELD. -/
theorem witness_ReleaseMoveFreesOrStops :
    (Listening 0 svc ∧ NamesMove 0 1 0 conv svc ∧ conv.state ≠ .releasing ∧ conv.controller = none) ∧
    (∀ st ∈ [.recovery, .active, .stopHeld], NamesMove 0 1 0 { rc with state := st }
      (withMove { rc with state := st })) ∧ rc.controller.isSome = true ∧
    takesFrames (svc.floor (svc.currentOf rc.loco.unit)) = true ∧ (svc.frames (svc.currentOf rc.loco.unit)).length < 16 := by
  simp only [Listening, NamesMove]; decide +kernel

/-- The last member to join and the last but one, in FORMING and in ACTIVE. -/
theorem witness_JoinedSetsTheFlag :
    ∀ m ∈ [{ rc with state := .forming, loco := member 0x200 false }, { conv with state := .forming, loco := member 0x200 false }, { rc with loco := member 0x200 false }, { rc with loco := member 0x200 false, handsets := [member 0x100 false] }],
      Arrives 1 1 0x200 (withMove m) ∧ (withMove m).unit 0x200 = some (aUnit 0x200 .locoRc 1 (some 0)) ∧
      (0x01#8).toNat = (0 : MoveIx).val + 1 ∧ (withMove m).move 0 = some m ∧ m.state ≠ .releasing ∧
      m.members.find? (fun e => e.unit == 0x200) = some (member 0x200 false) ∧ (member 0x200 false).joined = false ∧
      (0x01#8).toNat = m.channel.val := by
  simp only [Arrives]; decide +kernel

/-- The locomotive missing; one handset missing; every handset missing; the controller missing. -/
theorem witness_FormingAndJoiningTimers :
    (∀ m ∈ [{ conv with state := .forming, formingDeadline := some 100000, loco := member 0x200 false }, { conv with
          state := .forming, formingDeadline := some 100000, handsets := [member 0x100 false, member 0x101 true] }, { conv with
          state := .forming, formingDeadline := some 100000, handsets := [member 0x100 false, member 0x101 false] }, { rc with
          state := .forming, formingDeadline := some 100000, handsets := [member 0x100 false, member 0x101 true] }],
      (withMove m).resetLine = false ∧ (withMove m).move 0 = some m ∧ m.state = .forming ∧ m.handover = none ∧
      m.formingDeadline = some 100000 ∧ reached (withMove m).time 100000 = true ∧ m.units.Nodup ∧
      ∃ e ∈ m.loco :: m.handsets, e.joined = false) ∧
    ∀ m ∈ [{ rc with
        handsets := [member 0x100 true, { member 0x101 false with addDeadline := some 100000 }]
        rechannel := some ⟨1, 100000⟩ }],
      (withMove m).move 0 = some m ∧ m.state ≠ .releasing ∧
      (∃ e ∈ m.members.find? (fun e => e.unit == 0x101), e.joined = false ∧ 1 ≤ e.sends ∧ e.sends ≤ 4 ∧
        1000 * e.sends ≤ elapsed (withMove m).time e.roundStart ∧ elapsed (withMove m).time e.roundStart < 5000 ∧
        e.addDeadline = some 100000) ∧
      reached (withMove m).time 100000 = true ∧ m.rechannel = some ⟨1, 100000⟩ := by
  decide +kernel

theorem witness_FaultOpensAStopHold :
    (withMove rc).move 0 = some rc ∧ rc.faultCount + 1 = 1 ∧
      takesFrames ((withMove rc).floor ((withMove rc).currentOf rc.loco.unit)) = true := by decide +kernel

/-- The STOP alert of move 1, one of another move, and an alert of a console. -/
def stopOf (i : MoveIx) : Alert := ⟨0, .preempt, some i, .supervision, 100000, false⟩
def callOf (c : Console) (playing : Bool) : Alert := ⟨3, .nextFree, none, .console c, 99000, playing⟩

/-- R167: the STOP alert admitted to an empty list and to a full one with two NEXT_FREE entries that wait, where the newer
gives way; collapsed; and turned away. -/
theorem witness_FaultOpensAStopHold_admission :
    Admits (stopOf 0) [] [stopOf 0] ∧
    (Displaced (callOf 2 false) [callOf 1 false, callOf 2 false, stopOf 1, callOf 3 true]
      [callOf 1 false, stopOf 1, callOf 3 true] ∧
      Admits (stopOf 0) [callOf 1 false, callOf 2 false, stopOf 1, callOf 3 true]
        [callOf 1 false, stopOf 1, callOf 3 true, stopOf 0]) ∧
    Admits (callOf 0 false) [] [callOf 0 false] ∧ Collapses (stopOf 0) [callOf 1 true, stopOf 0] ∧ TurnsAway (stopOf 0) [stopOf 1, stopOf 2, stopOf 3, callOf 3 true] ∧
    TurnsAway (callOf 0 false) [stopOf 1, stopOf 2, stopOf 3, callOf 3 true] := by
  have h : Displaced (callOf 2 false) [callOf 1 false, callOf 2 false, stopOf 1, callOf 3 true]
      [callOf 1 false, stopOf 1, callOf 3 true] := ⟨[callOf 1 false], [stopOf 1, callOf 3 true], rfl, rfl, rfl, rfl, by decide⟩
  refine ⟨⟨nofun, .inl ⟨by decide, rfl⟩⟩, ⟨h, ?_, .inr ⟨by decide, rfl, _, _, h, rfl⟩⟩,
    ⟨nofun, .inl ⟨by decide, rfl⟩⟩, ?_⟩
  · simp only [Collapses]; decide
  · simp only [Collapses, TurnsAway]; decide

/-- R44, R167: the floors on which the alert plays and those on which it waits; and what the displaced console is told. -/
theorem witness_FaultOpensAStopHold_floor :
    (∀ f ∈ [idle, hanging (.console 1), granted (.console 1), granted (.unit 0x300)],
      (f.state = .idle ∨ f.state = .hang ∨ f.state = .granted ∧ ∀ g ∈ f.grant, g.cls ≠ .emergency) ∧ f.alerts = [] ∧
      ((raiseFault 0 .early { withFloor f with moves := svc.moves.put 0 (some rc) }).floor 1).alerts =
        [{ stopOf 0 with playing := true }]) ∧
    (∀ f ∈ [{ granted (.console 1) with grant := some { grantOf (.console 1) with cls := .emergency } }, { idle with state := .alert }, { idle with state := .transfer }],
      f.state ≠ .idle ∧ f.state ≠ .hang ∧ (f.state = .granted → ∃ g ∈ f.grant, g.cls = .emergency)) ∧
    rc.channel = 1 ∧ rc.console = 0 ∧ svc.part = .service ∧ (svc.link 0).notices.length < 28 ∧ (svc.frames 1).length < 15 ∧
    svc.patterns.get 0 = some ⟨5, [⟨1800, 20, 12, 3413⟩, ⟨1800, 10, 0, 3413⟩]⟩ := by decide +kernel

/-- Before the closed-window end, at it, with none, in STOP_HELD, from another member, and in RECOVERY. -/
theorem witness_PresenceWindow :
    (∀ m ∈ [{ rc with closedEnd := some 100001 }, { rc with closedEnd := some 100000 }, { rc with closedEnd := none }, { rc with state := .stopHeld }, { rc with state := .recovery }],
      Arrives 1 1 0x100 (withMove m) ∧ SendsFor 0x100 0 m (withMove m) ∧ m.controller = some 0x100) ∧
    reached svc.time 100001 = false ∧ reached svc.time 100000 = true ∧
    Arrives 1 1 0x101 (withMove rc) ∧ SendsFor 0x101 0 rc (withMove rc) ∧ rc.controller ≠ some 0x101 := by
  simp only [Arrives, SendsFor]; decide +kernel

/-- Before 3000 ms and at it, with suspension pending and without, and a STOP_ACK already seen. -/
theorem witness_StopHoldEnds :
    (∀ m ∈ [{ rc with state := .stopHeld, holdStart := some 97001 }, { rc with state := .stopHeld, holdStart := some 97000 }, { rc with state := .stopHeld, holdStart := some 97000, suspensionPending := true }, { rc with state := .stopHeld, holdStart := some 97000, stopAckSeen := true }],
      Arrives 1 1 0x200 (withMove m) ∧ SendsFor 0x200 0 m (withMove m) ∧ m.loco.unit = 0x200 ∧ m.state = .stopHeld ∧
      m.holdStart.isSome = true ∧ m.controller = some 0x100) ∧
    elapsed svc.time 97001 < 3000 ∧ 3000 ≤ elapsed svc.time 97000 := by
  simp only [Arrives, SendsFor]; decide +kernel

theorem witness_ReleasesEnd :
    ∀ m ∈ [{ rc with state := .releasing, releaseDeadline := some 100000 }],
      Arrives 1 1 0x200 (withMove m) ∧ SendsFor 0x200 0 m (withMove m) ∧ m.loco.unit = 0x200 ∧ m.state = .releasing ∧
      (withMove m).move 0 = some m ∧ m.releaseDeadline = some 100000 ∧
      reached (withMove m).time (100000 - 5000 + BitVec.ofNat 32 (200 * (m.repeats + 1))) = true ∧
      reached (withMove m).time 100000 = true := by
  simp only [Arrives, SendsFor]; decide +kernel

theorem witness_SupervisionTimers :
    (∀ m ∈ [{ rc with deadline := some 100000, handover := some ⟨0x101, 100000⟩ }, { rc with state := .stopHeld, holdStart := some 97000 }, { rc with state := .stopHeld, holdStart := some 97000, unconfirmedSent := true }, { rc with state := .stopHeld, holdStart := some 97000, stopAckSeen := true }, { rc with state := .stopHeld, holdStart := some 97000, stopAckSeen := true, suspensionPending := true }, { rc with state := .recovery, windowStart := some 98000 }],
      (withMove m).resetLine = false ∧ (withMove m).move 0 = some m ∧ m.controller = some 0x100) ∧
    60000 ≤ elapsed svc.time 40000 ∧ rc.cleanStart = some 40000 ∧ reached svc.time 100000 = true ∧
    reached svc.time (97000 + BitVec.ofNat 32 (200 * (rc.repeats + 1))) = true ∧ reached svc.time (97000 + 2000) = true ∧
    3000 ≤ elapsed svc.time 97000 ∧ reached svc.time (98000 + BitVec.ofNat 32 (2000 * (rc.repeats + 1))) = true := by
  decide +kernel

theorem witness_ResumeAndHandover :
    (Arrives 1 1 0x100 (withMove { rc with state := .recovery }) ∧
      SendsFor 0x100 0 { rc with state := .recovery } (withMove { rc with state := .recovery })) ∧
    (Arrives 1 1 0x100 (withMove rc) ∧ SendsFor 0x100 0 rc (withMove rc) ∧ rc.controller = some 0x100 ∧ rc.state = .active ∧
      ∃ e ∈ rc.handsets, e.unit = 0x101 ∧ e.joined = true) ∧
    ∀ m ∈ [{ rc with handover := some ⟨0x101, 100000⟩ }],
      Arrives 1 1 0x101 (withMove m) ∧ SendsFor 0x101 0 m (withMove m) ∧ m.state = .active ∧
      (0x100 : UnitId) = (if m.units.idxOf 0x101 < m.units.idxOf 0x100 then 0x101 else 0x100) := by
  simp only [Arrives, SendsFor]; decide +kernel

/-! ## Witnesses: the Talk Floor -/

/-- A floor with a waiting entry, the best of its queue. -/
theorem best (f : Floor) (e : Entry) (h : f.queue = [e]) : IsBest 1 e (withFloor f) :=
  ⟨[], [], h, nofun, nofun⟩

theorem witness_ServiceDecisionPlaysOrGrants :
    ((withFloor (granted (.console 1))).floor 1).state ≠ .idle ∧
    (((withFloor idle).floor 1).state = .idle ∧ ((withFloor idle).floor 1).alerts = [] ∧ ((withFloor idle).floor 1).queue = []) ∧
    IsBest 1 (entryOf (.console 2) .work) (withFloor { idle with queue := [entryOf (.console 2) .work] }) ∧
    (withFloor { idle with alerts := [⟨3, .nextFree, none, .console 0, 0, false⟩] }).patterns.get 3 = some Pattern.call ∧
    Pattern.call.steps = [⟨1200, 40, 12, 3072⟩, ⟨1200, 20, 0, 3072⟩] :=
  ⟨by decide +kernel, by decide +kernel, best _ _ rfl, by decide +kernel, rfl⟩

/-- An IDLE floor, and a hang reserved for the party: for a unit and for a console. -/
theorem witness_TalkRequestOnAFreeFloorIsGranted :
    ∀ x ∈ [.unit 0x300, .console 2], ∀ f ∈ [idle, hanging x],
      ((withFloor f).floor 1).grant = none ∧ (∀ l ∈ ((withFloor f).floor 1).lockouts, l.party ≠ x) ∧
      (∀ e ∈ ((withFloor f).floor 1).queue, e.party ≠ x) ∧
      (((withFloor f).floor 1).state = .idle ∧ ((withFloor f).floor 1).queue = [] ∧ ((withFloor f).floor 1).alerts = [] ∨
        ((withFloor f).floor 1).state = .hang ∧ (∀ e ∈ ((withFloor f).floor 1).queue, e.cls ≠ .emergency) ∧
          ∃ h ∈ ((withFloor f).floor 1).hang,
            h.reservation = (match (withFloor f).bindingOf x with | some i => .move i | none => .party x)) ∧
      Arrives 1 1 0x300 (withFloor f) ∧ (withFloor f).currentOf 0x300 = 1 ∧ Listening 2 (withFloor f) ∧
      (withFloor f).part = .service ∧ NamesChannel 1 1 (withFloor f) := by
  simp only [Arrives, Listening, NamesChannel]; decide +kernel

/-- A floor GRANTED to another party: with no entry of the party, with one, with a lockout, with a queue of 8 whose weakest
entry is a fresh ROUTINE or an URGENT one; a unit of another channel; a channel that is not carried. -/
theorem witness_TalkRequestOnABusyFloor :
    (∀ x ∈ [.unit 0x300, .console 2],
      ∀ f ∈ [granted (.console 1), { granted (.console 1) with queue := [entryOf x .routine] }, { granted (.console 1) with lockouts := [⟨x, 100001⟩] }],
        Arrives 1 1 0x300 (withFloor f) ∧ (withFloor f).currentOf 0x300 = 1 ∧ ((withFloor f).floor 1).state = .granted ∧
        (∀ g ∈ ((withFloor f).floor 1).grant, g.holder ≠ x) ∧ ((withFloor f).floor 1).queue.length < 8 ∧
        Listening 2 (withFloor f) ∧ (withFloor f).part = .service ∧ NamesChannel 1 1 (withFloor f)) ∧
    (Arrives 1 1 0x302 svc ∧ svc.currentOf 0x302 ≠ 1) ∧ 3 ≤ (0x03#8).toNat ∧ 4 ≤ (0x04#8).toNat ∧
    ((withFloor { idle with state := .closed }).floor 1).state = .closed ∧
    ∀ c ∈ [TalkClass.routine, .urgent],
      ∀ f ∈ [{ granted (.console 1) with queue := List.replicate 7 (entryOf (.unit 0x301) .emergency) ++ [entryOf (.console 0) c] }],
        8 ≤ ((withFloor f).floor 1).queue.length ∧ (∀ e ∈ ((withFloor f).floor 1).queue, e.party ≠ .console 2) ∧
        (c = .routine → rank 100000 ((withFloor f).chan 1).ageStep (entryOf (.console 0) c) < 10) ∧
        (c = .urgent → 30 ≤ rank 100000 ((withFloor f).chan 1).ageStep (entryOf (.console 0) c)) := by
  simp only [Arrives, Listening, NamesChannel]; decide +kernel

/-- The holder's own request; a hang reserved for another party; and one reserved for the party with an EMERGENCY waiting. -/
theorem witness_TalkRequestOnABusyFloor_hang :
    (∀ f ∈ [granted (.unit 0x300), hanging (.console 1), { hanging (.unit 0x300) with queue := [entryOf (.console 0) .emergency] }],
      Arrives 1 1 0x300 (withFloor f) ∧ (withFloor f).currentOf 0x300 = 1 ∧ (withFloor f).bindingOf (.unit 0x300) = none ∧
      (∀ l ∈ ((withFloor f).floor 1).lockouts, l.party ≠ .unit 0x300)) ∧
    (grantOf (.unit 0x300)).holder = .unit 0x300 ∧
    (∀ h ∈ (hanging (.console 1)).hang, h.reservation ≠ .party (.unit 0x300)) ∧
    ∃ e ∈ [entryOf (.console 0) .emergency], e.cls = .emergency := by
  simp only [Arrives]; decide +kernel

/-- R30 outcome 1: the holder's own request is ignored; outcome 5: in another party's hang a request is queued. -/
theorem test_talkReq_holder_hang :
    ((nx (exec (.talkReq 1 0x300 2) (withFloor (granted (.unit 0x300))))).frames 1 = [] ∧
      (nx (exec (.talkReq 1 0x300 2) (withFloor (granted (.unit 0x300))))).floor 1 = granted (.unit 0x300)) ∧
    ((nx (exec (.talkReq 1 0x300 2) (withFloor (hanging (.console 1))))).floor 1).queue.map (fun e => (e.party, e.cls)) =
      [(.unit 0x300, .urgent)] := by decide +kernel

theorem witness_TalkRequestOnABusyFloor_weakest (c : TalkClass) (h : rank 100000 2000 (entryOf (.console 0) c) ≤ 60) :
    IsWeakest 1 (entryOf (.console 0) c) (withFloor { granted (.console 1) with
      queue := List.replicate 7 (entryOf (.unit 0x301) .emergency) ++ [entryOf (.console 0) c] }) :=
  ⟨List.replicate 7 (entryOf (.unit 0x301) .emergency), [], rfl,
    fun x hx => by rw [List.eq_of_mem_replicate hx]; exact h, nofun⟩

theorem witness_EmergencyPreempts :
    (∀ f ∈ [idle, hanging (.console 1), granted (.console 1), { idle with state := .alert }],
      (((withFloor f).floor 1).state = .idle ∨ ((withFloor f).floor 1).state = .hang ∨
        ((withFloor f).floor 1).state = .alert ∨
        ((withFloor f).floor 1).state = .granted ∧ ∃ g ∈ ((withFloor f).floor 1).grant, g.cls ≠ .emergency) ∧
      (∀ g ∈ ((withFloor f).floor 1).grant, g.holder ≠ .unit 0x300 ∧ g.holder ≠ .unit 0x101 ∧ g.holder ≠ .console 2) ∧
      Arrives 1 1 0x300 (withFloor f) ∧ (withFloor f).currentOf 0x300 = 1 ∧ (withFloor f).bindingOf (.unit 0x300) = none ∧
      Listening 2 (withFloor f) ∧ (withFloor f).part = .service ∧ NamesChannel 1 1 (withFloor f)) ∧
    ∀ st ∈ [.active, .stopHeld, .recovery, .suspended],
      Arrives 1 1 0x101 (withMove { rc with state := st }) ∧
      SendsFor 0x101 0 { rc with state := st } (withMove { rc with state := st }) ∧
      (withMove { rc with state := st }).currentOf 0x101 = 1 ∧ ((withMove { rc with state := st }).floor 1).state = .idle := by
  simp only [Arrives, Listening, NamesChannel, SendsFor]; decide +kernel

/-- The holder's own EMERGENCY, below and at that class, and one behind another's; of a unit outside every move, of the
handset of a FORMING and of a running RC move, and of a console. -/
theorem witness_EmergencyPreempts_holder :
    (∀ x ∈ [Party.unit 0x300, .unit 0x101, .console 2], ∀ cls ∈ [TalkClass.routine, .emergency],
      ∀ s ∈ [withFloor { granted x with grant := some { grantOf x with cls := cls } }],
        (s.floor 1).state = .granted ∧ (s.floor 1).grant = some { grantOf x with cls := cls } ∧
        (s.floor 1).queue.length < 8 ∧ (∀ e ∈ (s.floor 1).queue, e.party ≠ .console 3)) ∧
    (svc.patterns.get 1).map (·.steps.length) = some 2 ∧ Arrives 1 1 0x302 svc ∧ svc.currentOf 0x302 ≠ 1 ∧
    CrewStops 0x300 svc (fun u => .next (settle u)) ∧
    CrewStops 0x101 (withMove { rc with state := .forming }) (fun u => .next (settle u)) ∧
    CrewStops 0x101 (withMove rc) (fun u => .next (settle (raiseFault 0 .crewStop u))) := by
  refine ⟨by decide +kernel, by decide +kernel, by simp only [Arrives]; decide +kernel, by decide +kernel,
    .inr ⟨fun i m h => ?_, rfl⟩, .inr ⟨fun i m h => ?_, rfl⟩, .inl ⟨0, rc, ?_, .inl rfl, rfl⟩⟩
  · exact absurd h.1 (by rw [show svc.bindingOf (.unit 0x300) = none by decide +kernel]; nofun)
  · obtain rfl : i = 0 := by
      have := h.1
      rw [show (withMove { rc with state := .forming }).bindingOf (.unit 0x101) = some 0 by decide +kernel] at this
      exact (Option.some.inj this).symm
    exact .inl (Option.some.inj (h.2.1.symm.trans (show _ = some { rc with state := .forming } by decide +kernel)) ▸ rfl)
  · simp only [SendsFor]; decide +kernel

theorem witness_EmergencyPreempts_asks : ∃ s0 asked taken, AsksEmergency 1 (.unit 0x300) (withFloor (granted (.unit 0x300)))
    s0 asked taken :=
  ⟨_, _, _, .inl ⟨1, 0x300, rfl, by simp only [Arrives]; decide +kernel, by decide +kernel, rfl, rfl, .inr ⟨fun i m h =>
    absurd h.1 (by rw [show (withFloor (granted (.unit 0x300))).bindingOf (.unit 0x300) = none by decide +kernel]; nofun), rfl⟩⟩⟩

theorem witness_TalkEndReleasesTheFloor :
    (∀ x ∈ [.unit 0x300, .console 2], Arrives 1 1 0x300 (withFloor (granted x)) ∧
      ((withFloor (granted x)).floor 1).state = .granted ∧ ((withFloor (granted x)).floor 1).grant = some (grantOf x) ∧
      (grantOf x).holder = x ∧ Listening 2 (withFloor (granted x)) ∧ (withFloor (granted x)).part = .service ∧
      NamesChannel 1 1 (withFloor (granted x))) ∧
    (∃ e ∈ ((withFloor { granted (.unit 0x300) with queue := [entryOf (.console 2) .work] }).floor 1).queue,
      e.party = .console 2) ∧
    (∀ g ∈ ((withFloor (granted (.unit 0x300))).floor 1).grant, g.holder ≠ .console 2) ∧
    ∀ e ∈ ((withFloor (granted (.unit 0x300))).floor 1).queue, e.party ≠ .console 2 := by
  simp only [Arrives, Listening, NamesChannel]; decide +kernel

/-- Eight lockouts without the holder of the grant, the first the earliest. -/
theorem witness_FloorExpiries_lockouts :
    ∀ f, f = { granted (.unit 0x300) with
        lockouts := ⟨.unit 0x301, 100800⟩ :: List.replicate 7 ⟨.unit 0x302, 100900⟩ } →
      ((withFloor f).floor 1).state = .granted ∧ (∀ l ∈ f.lockouts, l.party ≠ .unit 0x300) ∧ 8 ≤ f.lockouts.length ∧
      (∀ y ∈ f.lockouts.tail, elapsed (100000 + 10000) y.expiry ≤ elapsed (100000 + 10000) (100800 : Time)) ∧
      ((nx (exec (.overtalkExpiry 1) (withFloor f))).floor 1).lockouts =
        List.replicate 7 ⟨.unit 0x302, 100900⟩ ++ [⟨.unit 0x300, 110000⟩] := by simp only [forall_eq]; decide +kernel

theorem witness_FloorExpiries :
    ((withFloor (granted (.unit 0x300))).resetLine = false ∧ ((withFloor (granted (.unit 0x300))).floor 1).state = .granted ∧
      (grantOf (.unit 0x300)).takeUp = some 99500 ∧ reached svc.time 99500 = true ∧
      (grantOf (.unit 0x300)).silent = some 99950 ∧ reached svc.time 99950 = true ∧
      (grantOf (.unit 0x300)).overtalk = some 99900 ∧ reached svc.time 99900 = true ∧
      (grantOf (.unit 0x300)).warning = some 99900 ∧ (grantOf (.unit 0x300)).warned = false) ∧
    (svc.patterns.get 2 = some Pattern.overtalk ∧ Pattern.overtalk.steps = [⟨3000, 10, 6, 3686⟩]) ∧
    (((withFloor (hanging (.console 1))).floor 1).state = .hang ∧ ((withFloor (hanging (.console 1))).floor 1).grant = none ∧
      ((withFloor (hanging (.console 1))).floor 1).hang = some ⟨.party (.console 1), 99999⟩ ∧ reached svc.time 99999 = true) ∧
    (∀ b, ((withFloor { idle with foreignSince := some 98000, heard := some ⟨0, 98000⟩, episodeOpen := b }).floor 1).foreignSince
      = some 98000) ∧ reached svc.time (98000 + 2000) = true ∧
    ((withFloor { idle with quiet := some 100000 }).floor 1).quiet = some 100000 ∧
    (entryOf (.unit 0x300) .work).expiry = 99999 ∧
    ((withFloor { granted (.console 1) with queue := [entryOf (.unit 0x300) .work] }).floor 1).queue.find?
      (fun e => e.party == .unit 0x300) = some (entryOf (.unit 0x300) .work) := by decide +kernel

/-- A port with no channel; a carried channel, with a grant of a unit and of a console. -/
theorem witness_CarrierReportMovesTheGrant :
    svc.resetLine = false ∧ (svc.port 2).state ≠ .active ∧ (svc.port 1).state = .active ∧ (svc.port 1).channel = some 1 ∧
      ((withFloor (granted (.unit 0x300))).floor 1).grant = some (grantOf (.unit 0x300)) ∧ (0x300#16).toNat < 0xFFF0 ∧
      ((withFloor (granted (.console 2))).floor 1).grant = some (grantOf (.console 2)) := by decide +kernel

/-- A silent floor and one with a foreign carrier, and the same after a report. -/
theorem witness_CarrierReportMovesTheGrant_foreign :
    ¬ Foreign (svc.floor 1) ∧ Foreign ((nx (exec (.carrierReport 1 true 0x300) svc)).floor 1) ∧
    ¬ Foreign ((nx (exec (.carrierReport 1 false 0) (withFloor { idle with heard := some ⟨0x300, 99000⟩ }))).floor 1) := by
  refine ⟨fun h => ?_, ⟨.inl (by decide +kernel), ⟨0x300, 100000⟩, by decide +kernel, .inr (by decide +kernel)⟩, fun h => ?_⟩
  all_goals
    obtain ⟨-, x, hx, -⟩ := h
    exact absurd (hx.symm.trans (by decide +kernel : _ = none)) (by simp)

/-! ## Witnesses: the Downlink Scheduler and the Tone Unit -/

/-- An OFF channel; a STOP_ORDER and a RESUME_OFFER waiting; room; a full queue with and without a lower frame. -/
theorem witness_PlacingAFrame :
    ((svc.floor 2).state = .off ∧ (svc.floor 1).state ≠ .off ∧ (svc.floor 1).state ≠ .closed) ∧
    (∀ b ∈ [.stopOrder 0, .resumeOffer 0], (⟨0x200, b⟩ : Frame) ∈ (setFrames 1 [⟨0x200, b⟩] svc).frames 1) ∧
    (svc.frames 1).length < 16 ∧
    (∀ q ∈ [List.replicate 16 (⟨0x300, .leaveOrder 0⟩ : Frame)], 16 ≤ ((setFrames 1 q svc).frames 1).length ∧
      (setFrames 1 q svc).frames 1 = List.replicate 15 ⟨0x300, .leaveOrder 0⟩ ++ ⟨0x300, .leaveOrder 0⟩ :: [] ∧
      Frame.priority ⟨0x200, .stopOrder 0⟩ < Frame.priority ⟨0x300, .leaveOrder 0⟩ ∧
      (∀ x ∈ List.replicate 15 (⟨0x300, .leaveOrder 0⟩ : Frame), x.priority ≤ Frame.priority ⟨0x300, .leaveOrder 0⟩) ∧
      ∀ f ∈ q, f.priority ≤ Frame.priority ⟨0x301, .echoOff 2 1⟩) := by
  decide +kernel

/-- A port with no channel, an empty queue, a queue whose head waits behind a lower frame. -/
theorem witness_SlotReadyHandsTheHead :
    (svc.resetLine = false ∧ (svc.port 2).state ≠ .active ∧ (svc.port 1).state = .active ∧ (svc.port 1).channel = some 1 ∧
      svc.frames 1 = []) ∧
    (setFrames 1 [⟨0x300, .leaveOrder 0⟩, ⟨0x200, .stopOrder 0⟩] svc).frames 1 =
        [⟨0x300, .leaveOrder 0⟩] ++ ⟨0x200, .stopOrder 0⟩ :: [] ∧
      ∀ x ∈ [(⟨0x300, .leaveOrder 0⟩ : Frame)], Frame.priority ⟨0x200, .stopOrder 0⟩ < x.priority := by decide +kernel

/-- A fourth CONFIRM of a slot whose unit has no record, and of one whose unit is bound. -/
theorem witness_SlotReadyHandsTheHead_admits :
    (setFrames 0 [⟨0x500, .confirm .l3 0b111111#6 4⟩] (enrolling (aSlot 0x500 .confirm))).frames 0 =
        ⟨(aSlot 0x500 .confirm).unit, .confirm .l3 0b111111#6 4⟩ :: [] ∧
      (enrolling (aSlot 0x500 .confirm)).slot 0 = some (aSlot 0x500 .confirm) ∧ (aSlot 0x500 .confirm).phase = .confirm ∧
      (∀ j, ∀ sl' ∈ (enrolling (aSlot 0x500 .confirm)).slot j, sl'.unit = 0x500 → j = 0) ∧
      (aSlot 0x500 .confirm).level = some .l3 ∧ (aSlot 0x500 .confirm).chans = some 0b111111#6 ∧
      svc.units.length < 96 ∧ (svc.port 0).state = .active ∧ (svc.port 0).channel = some 0 ∧ svc.unit 0x500 = none := by decide +kernel

theorem witness_SlotReadyHandsTheHead_bound :
    (setFrames 0 [⟨0x100, .confirm .l3 0b111111#6 4⟩] (enrolling (aSlot 0x100 .confirm))).frames 0 =
        ⟨(aSlot 0x100 .confirm).unit, .confirm .l3 0b111111#6 4⟩ :: [] ∧
      (enrolling (aSlot 0x100 .confirm)).slot 0 = some (aSlot 0x100 .confirm) ∧ (aSlot 0x100 .confirm).phase = .confirm ∧
      (∀ j, ∀ sl' ∈ (enrolling (aSlot 0x100 .confirm)).slot j, sl'.unit = 0x100 → j = 0) ∧
      (aSlot 0x100 .confirm).level = some .l3 ∧ (aSlot 0x100 .confirm).chans = some 0b111111#6 ∧
      svc.unit 0x100 = some (aUnit 0x100 .handset 1 (some 0)) ∧ (aUnit 0x100 .handset 1 (some 0)).binding.isSome = true := by decide +kernel

/-- An unbound record to be replaced; 96 records, one of them unbound, and all of them bound. -/
theorem witness_SlotReadyHandsTheHead_full :
    (svc.unit 0x300 = some (aUnit 0x300 .handset 1 none) ∧ (aUnit 0x300 .handset 1 none).binding = none) ∧
    (∀ us ∈ [List.replicate 95 (aUnit 0x200 .loco 1 (some 0)) ++ [aUnit 0x300 .handset 0 none]],
      96 ≤ us.length ∧ aUnit 0x300 .handset 0 none ∈ us ∧ { svc with units := us }.unit 0x500 = none ∧
      ∀ y ∈ us, y.binding = none → y = aUnit 0x300 .handset 0 none) ∧
    ∀ us ∈ [List.replicate 96 (aUnit 0x200 .loco 1 (some 0))],
      96 ≤ us.length ∧ { svc with units := us }.unit 0x500 = none ∧ (∀ y ∈ us, y.binding.isSome = true) ∧
      takesFrames (svc.floor 0) = true := by decide +kernel

theorem witness_LoadPatternDefinesThePattern :
    Listening 0 svc ∧ (0x0F#8).toNat = (15 : PatternIx).val ∧ 1 ≤ [(⟨299, 0, 16⟩ : StepField)].length ∧
      [(⟨299, 0, 16⟩ : StepField)].length ≤ 8 ∧
      ∀ ch, (∀ g ∈ svc.generator ch, g.pattern ≠ 15) ∧ ∀ a ∈ (svc.floor ch).alerts, a.pattern ≠ 15 := by
  simp only [Listening]; decide +kernel

/-- A grant to mix over; a list with room; the pattern waiting already; a first step, a last step, a last repeat. -/
theorem witness_TonesPlayByTheirSteps :
    (∀ f ∈ [granted (.console 1), { idle with state := .hang, alerts := [⟨3, .nextFree, none, .console 1, 0, false⟩] }],
      Listening 0 (withFloor f) ∧ (withFloor f).part = .service ∧ NamesChannel 1 1 (withFloor f) ∧
      (0x03#8).toNat = (3 : PatternIx).val ∧ (withFloor f).patterns.get 3 = some Pattern.call ∧
      (withFloor f).generator 1 = none ∧ ((withFloor f).floor 1).state ≠ .idle) ∧
    (granted (.console 1)).effective = .granted ∧ (granted (.console 1)).alerts.length < 4 ∧
    (∀ g ∈ [⟨.mix, 3, 99000, 1, 0, 100000, ⟨3072, 12⟩⟩, ⟨.mix, 3, 99000, 1, 1, 100000, ⟨3072, 0⟩⟩, ⟨.mix, 3, 99000, 2, 1, 100000, ⟨3072, 0⟩⟩, ⟨.seize, 3, 99000, 2, 1, 100000, ⟨3072, 0⟩⟩],
      (setGenerator 1 (some g) svc).generator 1 = some g ∧ reached svc.time g.stepEnd = true) ∧
    (svc.port 1).pins.tone = some 1 ∧ Pattern.call.repeatCount = 2 ∧ Pattern.call.steps[0 + 1]?.isSome = true ∧ Pattern.call.steps[1 + 1]? = none := by
  simp only [Listening, NamesChannel]; decide +kernel

/-- The end of the one alert of an ALERT floor, with a waiting entry. -/
theorem witness_TonesPlayByTheirSteps_seize :
    IsBest 1 (entryOf (.console 2) .work) (withFloor { idle with
      state := .alert, alerts := [⟨3, .nextFree, none, .console 1, 0, true⟩], queue := [entryOf (.console 2) .work] }) :=
  best _ _ rfl

/-! ## Witnesses: the Port Manager and the Path Tester -/

/-- A port in each state the statement names, and a CLOSED CH1. -/
theorem witness_HealthReportsAreTaken :
    (∀ st ∈ [.isolated, .absent, .failed, .standby, .test],
      ((withPort { spare with state := st }).port 2).state = st ∧ (withPort { spare with state := st }).resetLine = false) ∧
    3 ≤ (0x03#8).toNat ∧ (∀ ch, ((withPort { spare with state := .absent }).floor ch).state ≠ .closed) ∧
    (((withFloor { idle with state := .closed }).port 3).state = .absent ∧
      ((withFloor { idle with state := .closed }).floor 1).state = .closed ∧
      ∀ c : Chan, c.val < (1 : Chan).val → ((withFloor { idle with state := .closed }).floor c).state ≠ .closed) ∧
    (svc.port 1).state = .active ∧ (svc.port 1).channel = some 1 ∧
    ((withPort { spare with state := .tuning, channel := some 1 }).port 2).channel = some 1 := by
  decide +kernel

/-- The carrying port fails, with a STANDBY port and with none. -/
theorem witness_PortFailureTransfersOrCloses :
    (svc.resetLine = false ∧ (svc.port 2).state = .standby ∧ (svc.port 1).state = .active ∧ (svc.port 1).channel = some 1 ∧
      (∀ q, (svc.port q).state = .tuning → (svc.port q).channel = some 1 → (svc.port q).purpose ≠ some .swap) ∧
      (∀ r : Port, r.val < (2 : Port).val → (svc.port r).state ≠ .standby) ∧ (svc.floor 1).carried) ∧
    ({ svc with time := 100300 }.port 1).lastHealth = some 99800 ∧ reached 100300 (99800 + 500) = true ∧
    (∀ q, ((withPort PortRec.reset).port q).state ≠ .standby ∧ ((withPort PortRec.reset).port q).state ≠ .test) ∧
    ∀ r, ((withPort PortRec.reset).port r).state = .active → ((withPort PortRec.reset).port r).channel = some 1 → r = 1 := by
  simp only [Floor.carried]; decide +kernel

/-- BP2 tuning for CH1 with a purpose, its deadline and its silence reached. -/
def tuningFor (u : TunePurpose) : State :=
  { withPort { spare with
      state := .tuning, channel := some 1, purpose := some u, tuneDeadline := some 100000, lastHealth := some 99500 } with
    ports := (withPort { spare with
      state := .tuning, channel := some 1, purpose := some u, tuneDeadline := some 100000, lastHealth := some 99500 }).ports.put 1
        { spare with state := .failed } }

/-- BP2 in ABSENT, FAILED and ISOLATED, with its silence reached. -/
theorem witness_PortFailureTransfersOrCloses_states : ∀ st ∈ [.absent, .failed, .isolated],
    ∀ s ∈ [withPort { spare with state := st, lastHealth := some 99500 }],
      s.resetLine = false ∧ (s.port 2).state = st ∧ (s.port 2).lastHealth = some 99500 ∧
      reached s.time (99500 + 500) = true := by
  decide +kernel

/-- BP2 in TEST, as the candidate and as the port that fails. -/
theorem witness_PortFailureTransfersOrCloses_tests :
    IsSpare 2 svc ∧ IsSpare 2 (testing .unit) ∧ ((testing .unit).port 2).state = .test ∧ Testing 2 (testing .unit) := by
  simp only [IsSpare]
  exact ⟨by decide +kernel, by decide +kernel, by decide +kernel, test .unit, by decide +kernel, .inl rfl⟩

/-- BP2 tuning for CH1, with no other spare and with BP3. -/
theorem witness_PortFailureTransfersOrCloses_tuning : ∀ u ∈ [TunePurpose.start, .transfer, .swap],
    ((tuningFor u).port 2).state = .tuning ∧ ((tuningFor u).port 2).channel = some 1 ∧
    ((tuningFor u).port 2).purpose = some u ∧ ((tuningFor u).port 2).tuneDeadline = some 100000 ∧
    ((tuningFor u).port 2).lastHealth = some 99500 ∧ reached (tuningFor u).time (99500 + 500) = true ∧
    NoSpare (tuningFor u) ∧ IsSpare 3 { tuningFor u with ports := (tuningFor u).ports.put 3 spare } ∧
    ∀ r, ((tuningFor u).port r).state = .active → ((tuningFor u).port r).channel ≠ some 1 := by
  simp only [IsSpare, NoSpare]; decide +kernel

/-- The carrying port of CH1 beside the one port that tunes for its swap. -/
theorem witness_PortFailureTransfersOrCloses_swap :
    ∀ s ∈ [{ tuningFor .swap with ports := (tuningFor .swap).ports.put 1 (carrying 1) }],
      (s.port 1).state = .active ∧ (s.port 1).channel = some 1 ∧ (s.port 2).state = .tuning ∧
      (s.port 2).channel = some 1 ∧ (s.port 2).purpose = some .swap ∧
      (∀ r, (s.port r).state = .tuning → (s.port r).channel = some 1 → (s.port r).purpose = some .swap → r = 2) ∧
      (s.floor 1).carried := by
  simp only [Floor.carried]; decide +kernel

theorem witness_TuningEnds :
    (svc.resetLine = false ∧ (svc.port 2).state ≠ .tuning) ∧
    (∀ r ∈ [{ spare with state := .failed, okStart := some 90000 }], (withPort r).port 2 = r ∧
      reached (withPort r).time (90000 + 10000) = true ∧ ∀ ch, ((withPort r).floor ch).state ≠ .closed) ∧
    (∀ held ∈ [.idle, .hang],
      ∀ s ∈ [{ withFloor { idle with state := .transfer, held := some held } with
          ports := (svc.ports.put 1 spare).put 2 { spare with
            state := .tuning, channel := some 1, purpose := some .transfer, tuneDeadline := some 100000 } }],
        (s.port 2).state = .tuning ∧ (s.port 2).channel = some 1 ∧ (s.port 2).purpose = some .transfer ∧
        (s.floor 1).state = .transfer ∧ (s.floor 1).held = some held ∧ (s.floor 1).alerts = [] ∧
        ∀ q, q ≠ 2 → (s.port q).state = .active → (s.port q).channel ≠ some 1) ∧
    ∀ r ∈ [{ spare with state := .tuning, channel := some 1, purpose := some .swap, tuneDeadline := some 100000 }],
      (withPort r).port 2 = r ∧ reached (withPort r).time 100000 = true := by
  decide +kernel

/-- BP2 is restored, or has its channel taken over, with CH3 CLOSED. -/
theorem witness_TuningEnds_closed : ∀ r ∈ [{ spare with state := .failed, okStart := some 90000 },
      { spare with state := .tuning, channel := some 1, purpose := some .swap }],
    ∀ s ∈ [{ withPort r with floors := svc.floors.put 3 { idle with state := .closed } }],
      s.resetLine = false ∧ s.part = .service ∧ s.port 2 = r ∧ (s.port 1).state = .active ∧ (s.port 1).channel = some 1 ∧
      (∀ q, (s.port q).state = .active → (s.port q).channel = some 1 → q = 1) ∧ (s.floor 1).state = .idle ∧
      (s.floor 3).state = .closed ∧ (∀ c : Chan, c.val < (3 : Chan).val → (s.floor c).state ≠ .closed) ∧
      reached s.time (90000 + 10000) = true := by
  decide +kernel

theorem witness_TuningEnds_best :
    IsBest 1 (entryOf (.console 2) .work) (withFloor { idle with
      state := .transfer, held := some .idle, queue := [entryOf (.console 2) .work] }) :=
  best _ _ rfl

theorem witness_PortCommands :
    (Listening 0 svc ∧ svc.part = .service ∧ NamesChannel 1 1 svc ∧ (svc.floor 1).state ≠ .transfer ∧
      (svc.floor 1).state ≠ .closed ∧
      (∀ q, (svc.port q).state = .tuning → (svc.port q).channel = some 1 → (svc.port q).purpose ≠ some .swap) ∧
      (svc.port 2).state = .standby ∧ (0x02#8).toNat = (2 : Port).val ∧
      ∀ q : Port, q.val < (2 : Port).val → (svc.port q).state ≠ .standby) ∧
    (∀ r ∈ [{ spare with state := .tuning, channel := some 1, purpose := some .swap, tuneDeadline := some 100000 }],
      (withPort r).port 2 = r ∧ ((withPort r).port 1).state = .active ∧ ((withPort r).port 1).channel = some 1 ∧
      (∀ q, ((withPort r).port q).state = .active → ((withPort r).port q).channel = some 1 → q = 1) ∧
      ∀ c, ((withPort r).floor c).state ≠ .closed) ∧
    ∀ st ∈ [.isolated, .standby, .failed, .absent, .test],
      Listening 0 (withPort { spare with state := st }) ∧ ((withPort { spare with state := st }).port 2).state = st := by
  simp only [Listening, NamesChannel]; decide +kernel

/-- BP1 is isolated while it carries CH1, with BP2 as the candidate and with none; BP2 while it tunes for CH1. -/
theorem witness_PortCommands_isolate :
    (Listening 0 svc ∧ (svc.port 1).state = .active ∧ (svc.port 1).channel = some 1 ∧ IsSpare 2 svc ∧ (svc.floor 1).carried) ∧
    (NoSpare (withPort PortRec.reset) ∧
      ∀ r, r ≠ 1 → ((withPort PortRec.reset).port r).state = .active → ((withPort PortRec.reset).port r).channel ≠ some 1) ∧
    (∀ q, (svc.port q).state = .tuning → (svc.port q).channel = some 1 → (svc.port q).purpose ≠ some .swap) := by
  simp only [Listening, IsSpare, NoSpare, Floor.carried]; decide +kernel

/-- The three modes; the echo unit is unbound on CH1. -/
theorem witness_StartTestStartsARecord :
    Listening 0 svc ∧ (0x02#8).toNat = (2 : Port).val ∧ (svc.port 2).state = .standby ∧
      1 = (if svc.sequences.get 2 < 255 then svc.sequences.get 2 + 1 else 1) ∧ 3600 = min 3600 (max 1 (3601#16).toNat) ∧
      svc.part = .service ∧ svc.unit 0x300 = some (aUnit 0x300 .handset 1 none) ∧
      (aUnit 0x300 .handset 1 none).binding = none ∧ (svc.floor (aUnit 0x300 .handset 1 none).current).state ≠ .closed := by
  simp only [Listening]; decide +kernel

theorem witness_TestsEndAndTakeErrors :
    ∀ m ∈ [.loc, .unit], Listening 0 (testing m) ∧ (0x02#8).toNat = (2 : Port).val ∧
      (testing m).testOf 2 = some (test m) ∧ (test m).state = .search ∧ (∀ ch, ((testing m).floor ch).state ≠ .closed) ∧
      (test m).insertPending = false ∧ { test m with insertPending := true }.insertPending = true ∧
      reached (testing m).time (test m).endTime = true ∧ (testing m).resetLine = false := by
  simp only [Listening]; decide +kernel

/-- A LOCAL and a UNIT test in TEST, 1 and 32 bytes of data, and windows at their 127th and 128th bit with few and many
errors. -/
theorem witness_TestBitsAreGeneratedAndChecked :
    (∀ m ∈ [.loc, .unit], (testing m).testOf 2 = some (test m) ∧ (test m).state = .search ∧ (test m).mode = m ∧
      ((testing m).port 2).state = .test ∧ (testing m).resetLine = false) ∧ (svc.port 2).state ≠ .test ∧
    1 ≤ [0x00#8].length ∧ (List.replicate 32 0x00#8).length ≤ 32 ∧
    ∀ t ∈ [{ test .unit with windowBits := 127, windowErrors := 3 }], t.windowBits + 1 = 128 ∧
      3 = t.windowErrors + (if true = t.checker.getLsbD 14 then 0 else 1) ∧
      4 = t.windowErrors + (if false = t.checker.getLsbD 14 then 0 else 1) ∧
      { t with windowBits := 126 }.windowBits + 1 < 128 ∧
      16 = { t with state := .synced, windowErrors := 15 }.windowErrors +
        (if false = t.checker.getLsbD 14 then 0 else 1) := by
  decide +kernel

/-- A register that shifts, and a record that takes its bits from another register; a checker that holds the state that fifteen
shifts make. -/
theorem witness_TestBitsAreGeneratedAndChecked_stream :
    (∃ (sender : Nat → BitVec 15) (t : Nat → TestRec) (now : Nat → Time), (∀ k, sender (k + 1) = shifted (sender k)) ∧
      (∀ k, t (k + 1) = (t k).takes (now k) ((sender k).getLsbD 14)) ∧ (t 0).state = .search ∧ (t 0).windowBits + 15 < 128 ∧
      (t 0).checker ≠ sender 0) ∧
    ∃ t h, t = { test .unit with checker := shifted^[15] h } ∧ t.state = .search ∧ t.checker = shifted^[15] h :=
  ⟨⟨fun k => k.rec 1#15 (fun _ r => shifted r),
    fun k => k.rec (test .unit) (fun k t => t.takes 100000 ((k.rec 1#15 (fun _ r => shifted r) : BitVec 15).getLsbD 14)),
    fun _ => 100000, fun _ => rfl, fun _ => rfl, rfl, by decide, by decide⟩, _, 1#15, rfl, rfl, rfl⟩

/-! ## Witnesses: enrolment and what is discarded -/

/-- A new unit and free slots; a quiet unit; a unit in LISTEN at its second and third burst; one in ACK_WAIT. -/
theorem witness_CapabilityBurstsNegotiate :
    (svc.resetLine = false ∧ svc.part = .service ∧ (svc.port 0).state = .active ∧ (svc.port 0).channel = some 0 ∧
      isUnitId 0x500 = true ∧ (∀ q ∈ svc.quiet, q.unit ≠ 0x500) ∧ svc.bindingOf (.unit 0x500) = none ∧
      (∀ j, ∀ sl ∈ svc.slot j, sl.unit ≠ 0x500) ∧ svc.slot 0 = none ∧
      ∀ j : SlotIx, j.val < (0 : SlotIx).val → (svc.slot j).isSome = true) ∧
    (∃ q ∈ { svc with quiet := [⟨0x500, 100001⟩] }.quiet, q.unit = 0x500) ∧
    (∀ sl ∈ [aSlot 0x500 .listen, { aSlot 0x500 .listen with consistent := 2 }, aSlot 0x500 .ackWait, { aSlot 0x500 .ackWait with acked := 2 }],
      (enrolling sl).slot 0 = some sl ∧ sl.unit = 0x500 ∧ sl.level = some .l3 ∧ sl.chans = some 0b111111#6 ∧
      (∀ j, ∀ sl' ∈ (enrolling sl).slot j, sl'.unit = 0x500 → j = 0) ∧
      Capability.agrees ⟨0x500, .handset, 0b111#3, 0b111111#6, true⟩ sl.word = true ∧
      Capability.agrees ⟨0x500, .handset, 0b110#3, 0b111111#6, true⟩ sl.word = false ∧
      resolvedLevel (enrolling sl).globals.levels sl.word = some .l3) := by
  decide +kernel

/-- A bound unit with a slot and without one; a LOCO_RC that offers no L3 and a unit that offers no level; every slot held
by another. -/
theorem witness_CapabilityBurstsNegotiate_rejects :
    (svc.bindingOf (.unit 0x100)).isSome = true ∧ (∀ j, ∀ sl ∈ svc.slot j, sl.unit ≠ 0x100) ∧
    (enrolling (aSlot 0x100 .listen)).slot 0 = some (aSlot 0x100 .listen) ∧
    resolvedLevel 0b111#3 ⟨0x500, .locoRc, 0b011#3, 0b111111#6, false⟩ = none ∧
    resolvedLevel 0b100#3 ⟨0x500, .handset, 0b011#3, 0b111111#6, false⟩ = none ∧
    (∀ i, ∃ sl ∈ { svc with slots := Tab.fill 4 (some (aSlot 0x501 .listen)) }.slot i, sl.unit ≠ 0x500) := by
  decide +kernel

/-- R41, R111: lists of 7 and of 8 without the newcomer, where the second of two equal expiries is not the earliest, and one
that holds it. -/
theorem witness_EnrolmentTimers_quiet :
    ∀ qs, qs = Quiet.mk 0x500 100900 :: ⟨0x501, 100800⟩ :: ⟨0x502, 100800⟩ :: List.replicate 5 ⟨0x503, 100900⟩ →
      (∀ q ∈ qs, q.unit ≠ 0x504) ∧ 8 ≤ qs.length ∧ qs.tail.length < 8 ∧ (∃ q ∈ qs, q.unit = 0x500) ∧
      (∀ y ∈ [Quiet.mk 0x500 100900], elapsed (100000 + 1500) y.expiry < elapsed (100000 + 1500) (Quiet.mk 0x501 100800).expiry) ∧
      (∀ y ∈ qs.drop 2, elapsed (100000 + 1500) y.expiry ≤ elapsed (100000 + 1500) (Quiet.mk 0x501 100800).expiry) ∧
      (enterQuiet 100000 0x504 qs).map (·.unit) =
        [0x500, 0x502, 0x503, 0x503, 0x503, 0x503, 0x503, 0x504] := by simp only [forall_eq]; decide +kernel

theorem witness_EnrolmentTimers :
    (∀ ph ∈ [.listen, .ackWait, .confirm],
      (enrolling (aSlot 0x500 ph)).resetLine = false ∧ (enrolling (aSlot 0x500 ph)).slot 0 = some (aSlot 0x500 ph) ∧
      (aSlot 0x500 ph).level = some .l3 ∧ (aSlot 0x500 ph).chans = some 0b111111#6 ∧ (aSlot 0x500 ph).confirms < 4 ∧
      (aSlot 0x500 ph).stuck = false ∧
      reached svc.time ((aSlot 0x500 ph).phaseStart + BitVec.ofNat 32 (200 * ((aSlot 0x500 ph).offers + 1))) = true ∧
      reached svc.time ((aSlot 0x500 ph).phaseStart + BitVec.ofNat 32 (200 * (aSlot 0x500 ph).confirms)) = true ∧
      reached svc.time ((aSlot 0x500 ph).phaseStart + 1500) = true ∧
      reached svc.time ((aSlot 0x500 ph).lastBurst + 1000) = true ∧
      reached svc.time ((aSlot 0x500 ph).slotStart + 6000) = true) ∧
    ∀ s ∈ [{ svc with time := 1300000 }], s.unit 0x300 = some (aUnit 0x300 .handset 1 none) ∧
      60000 * s.globals.ageOut ≤ min (elapsed s.time 90000) (elapsed s.time 50000) := by
  decide +kernel

theorem witness_UndefinedThingsChangeNothing : svc.resetLine = false ∧ Listening 0 svc := by
  simp only [Listening]; decide +kernel

/-! ## Witnesses: the invariants -/

/-- SERVICE with a grant and a waiting entry on CH1, an RC move, a test on BP3 and a tick to be taken. -/
def busy : State :=
  { withMove rc with
    floors := svc.floors.put 1 { granted (.unit 0x300) with queue := [entryOf (.console 2) .work] }
    ports := svc.ports.put 3 { spare with state := .test }
    tests := svc.tests.put 3 (some (test .unit))
    pending := [.timeBaseTick] }

theorem witness_invariants_step : ∃ t, step busy = .next t := ⟨_, rfl⟩

theorem witness_EveryStepKeepsTheRooms : WithinRoom busy ∧ FramesHaveRoom busy ∧ NoIdleTransmitter busy := by
  simp only [WithinRoom, FramesHaveRoom, NoIdleTransmitter]; decide +kernel

theorem witness_EveryStepKeepsTheGrantLaw : GrantLaw busy ∧ GateLaw busy := by
  simp only [GrantLaw, GateLaw]; decide +kernel

theorem witness_EveryStepKeepsOneClaim : OneClaim busy :=
  (by decide +kernel : ∀ ch, ((busy.floor ch).queue.map (·.party)).Nodup ∧
    ∀ g ∈ (busy.floor ch).grant, g.holder ∉ (busy.floor ch).queue.map (·.party))

theorem witness_EveryStepKeepsTheLimits : ConfigLaw busy ∧ FaultCountLaw busy :=
  ⟨by simp only [ConfigLaw]; decide +kernel, by decide +kernel,
    (by decide +kernel : ∀ i, ∀ m ∈ busy.move i, 1 ≤ m.faultLimit ∧ m.faultLimit ≤ 7 ∧ m.faultCount ≤ m.faultLimit ∧
      (m.faultCount = m.faultLimit →
        m.state = .releasing ∨ (m.state = .stopHeld ∨ m.state = .suspended) ∧ m.suspensionPending = true) ∧
      (m.formingDeadline.isSome = true → m.state = .forming))⟩

theorem witness_EveryStepKeepsTheRegister : RegisterLaw busy := by
  simp only [RegisterLaw]; decide +kernel

theorem busy_moves (i : MoveIx) (m : Move) (h : busy.move i = some m) : i = 0 ∧ m = rc := by
  have k : ∀ i, i = 0 ∨ busy.move i = none := by decide +kernel
  rcases k i with rfl | k
  · exact ⟨rfl, (Option.some.inj ((show busy.move 0 = some rc from rfl).symm.trans h)).symm⟩
  · rw [k] at h; cases h

/-- The members of the one move are bound to it, and no other unit is. -/
theorem witness_EveryStepKeepsTheRegister_bindings : BindingLaw busy := by
  refine ⟨by decide +kernel, ?_, ?_⟩
  · intro i m h
    obtain ⟨rfl, rfl⟩ := busy_moves i m h
    have k : rc.units = [0x200, 0x100, 0x101] := rfl
    rw [k]
    refine ⟨by decide, fun u hu => ?_⟩
    simp only [List.mem_cons, List.not_mem_nil, or_false] at hu
    rcases hu with rfl | rfl | rfl <;> decide +kernel
  · have k : ∀ r ∈ busy.units, r.binding = none ∨ r.binding = some 0 ∧
        (r.unit = 0x200 ∨ r.unit = 0x100 ∨ r.unit = 0x101) := by decide +kernel
    intro r hr i h
    rcases k r hr with n | ⟨b, u⟩
    · rw [n] at h; cases h
    · rw [b] at h; cases h
      refine ⟨rc, rfl, ?_⟩
      rw [show rc.units = [0x200, 0x100, 0x101] from rfl]
      simpa using u

theorem witness_EveryStepKeepsTheCarriers : GrantLaw busy ∧ CarrierLaw busy := by
  simp only [GrantLaw, CarrierLaw, Floor.carried]
  refine ⟨?_, ?_, ?_, ?_, ?_, ?_, ?_, ?_, ?_⟩ <;> decide +kernel

theorem witness_EveryStepKeepsTheTests : TestLaw busy :=
  (by decide +kernel : ∀ p, (busy.port p).state = .test ↔ ∃ t ∈ busy.testOf p, t.state = .search ∨ t.state = .synced)

end Sys2Proof.Tests
end

/-! PROOF. Placing a frame in a downlink queue (R124 to R126), case by case. -/

namespace Sys2Proof.Machine

/-! ## The queue of a placement (R124, R126) -/

/-- R124 case 1: the channels that take frames. -/
theorem takesFrames_iff (f : Floor) : takesFrames f = true ↔ f.state ≠ .off ∧ f.state ≠ .closed := by
  simp [takesFrames]

/-- R124 case 2: the two kinds that collapse, each onto its own kind only. -/
theorem Frame.collapsesOnto_iff (new old : Frame) :
    new.collapsesOnto old = true ↔ old.dest = new.dest ∧
      ((∃ i j, new.body = .stopOrder i ∧ old.body = .stopOrder j) ∨
        ∃ i j, new.body = .resumeOffer i ∧ old.body = .resumeOffer j) := by
  rw [Frame.collapsesOnto, Bool.and_eq_true, beq_iff_eq, eq_comm (a := new.dest)]
  refine and_congr_right fun _ => ?_
  split
  next i j new_eq old_eq => simp [new_eq, old_eq]
  next i j new_eq old_eq => simp [new_eq, old_eq]
  next notStop notResume =>
    refine iff_of_false Bool.false_ne_true ?_
    rintro (⟨i, j, new_eq, old_eq⟩ | ⟨i, j, new_eq, old_eq⟩)
    · exact notStop i j new_eq old_eq
    · exact notResume i j new_eq old_eq

theorem foldl_max_priority_le_iff (q : List Frame) (a n : Nat) :
    q.foldl (fun h f => max h f.priority) a ≤ n ↔ a ≤ n ∧ ∀ f ∈ q, f.priority ≤ n := by
  induction q generalizing a with
  | nil => simp
  | cons f q ih => simp [ih, and_assoc]

theorem highestClass_le_iff (q : List Frame) (n : Nat) : highestClass q ≤ n ↔ ∀ f ∈ q, f.priority ≤ n := by
  simp [highestClass, foldl_max_priority_le_iff]

/-- The highest class number of a queue is the one of a frame that no other is above. -/
theorem highestClass_eq {q : List Frame} {f : Frame} (hf : f ∈ q) (top : ∀ x ∈ q, x.priority ≤ f.priority) :
    highestClass q = f.priority :=
  le_antisymm ((highestClass_le_iff q _).2 top) ((highestClass_le_iff q _).1 le_rfl f hf)

/-- R126: the latest frame of a class is the one with no frame of that class behind it. -/
theorem eraseLatest_append_cons (before : List Frame) (f : Frame) {behind : List Frame}
    (later : ∀ x ∈ behind, x.priority ≠ f.priority) :
    eraseLatest f.priority (before ++ f :: behind) = before ++ behind := by
  have skip : ∀ x ∈ behind.reverse, ¬ (x.priority == f.priority) = true := by simpa using later
  simp [eraseLatest, List.eraseP_append_right _ skip]

/-! ## The state after a placement (R124 to R126) -/

section
variable {ch : Chan} {new : Frame} {s : State}

/-- R124 case 1. -/
theorem placeFrame_of_not_takesFrames (h : ¬ takesFrames (s.floor ch) = true) : placeFrame ch new s = s := if_neg h

/-- R124, R126: in a channel that takes frames, the queue is replaced, and the overflow latched where there is one. -/
theorem placeFrame_of_takesFrames (h : takesFrames (s.floor ch) = true) :
    placeFrame ch new s = (if overflows new (s.frames ch) then latchAll ch .downlinkOverflow else id)
      (setFrames ch (placeIn new (s.frames ch)) s) := if_pos h

/-- R124 case 2. -/
theorem placeFrame_of_collapses (h : takesFrames (s.floor ch) = true) {old : Frame} (mem : old ∈ s.frames ch)
    (collapses : new.collapsesOnto old = true) {g : Frame → Frame}
    (hg : ∀ f, g f = if new.collapsesOnto f then new else f) :
    placeFrame ch new s = setFrames ch ((s.frames ch).map g) s := by
  have any : (s.frames ch).any new.collapsesOnto = true := List.any_eq_true.2 ⟨old, mem, collapses⟩
  simp [placeFrame_of_takesFrames h, overflows, placeIn, any, funext hg]

/-- R124 case 3. -/
theorem placeFrame_of_room (h : takesFrames (s.floor ch) = true)
    (apart : (s.frames ch).any new.collapsesOnto = false) (room : (s.frames ch).length < 16) :
    placeFrame ch new s = setFrames ch (s.frames ch ++ [new]) s := by
  simp [placeFrame_of_takesFrames h, overflows, placeIn, apart, room, room.not_ge]

/-- R126: a full queue, whether it displaces a frame or drops the newcomer. -/
theorem placeFrame_of_full (h : takesFrames (s.floor ch) = true)
    (apart : (s.frames ch).any new.collapsesOnto = false) (full : 16 ≤ (s.frames ch).length) :
    placeFrame ch new s = latchAll ch .downlinkOverflow (setFrames ch
      (if new.priority < highestClass (s.frames ch)
        then eraseLatest (highestClass (s.frames ch)) (s.frames ch) ++ [new] else s.frames ch) s) := by
  simp [placeFrame_of_takesFrames h, overflows, placeIn, apart, full, full.not_gt]

/-- R126: the displaced frame is the latest of the highest class. -/
theorem placeFrame_of_displaces (h : takesFrames (s.floor ch) = true)
    (apart : (s.frames ch).any new.collapsesOnto = false) (full : 16 ≤ (s.frames ch).length)
    {before : List Frame} {f : Frame} {behind : List Frame} (queue : s.frames ch = before ++ f :: behind)
    (above : new.priority < f.priority) (top : ∀ x ∈ before, x.priority ≤ f.priority)
    (later : ∀ x ∈ behind, x.priority < f.priority) :
    placeFrame ch new s = latchAll ch .downlinkOverflow (setFrames ch (before ++ behind ++ [new]) s) := by
  have highest : highestClass (s.frames ch) = f.priority := by
    refine highestClass_eq (by simp [queue]) fun x hx => ?_
    rw [queue, List.mem_append, List.mem_cons] at hx
    rcases hx with hx | rfl | hx
    · exact top x hx
    · exact le_rfl
    · exact (later x hx).le
  rw [placeFrame_of_full h apart full, highest, if_pos above, queue,
    eraseLatest_append_cons before f fun x hx => (later x hx).ne]

/-- A queue put back in its place leaves the state as it is. -/
theorem setFrames_frames_eq_self (ch : Chan) (s : State) : setFrames ch (s.frames ch) s = s := by
  simp [setFrames, State.frames]

/-- R126: the newcomer is dropped where no frame is of a class above its own. -/
theorem placeFrame_of_drops (h : takesFrames (s.floor ch) = true)
    (apart : (s.frames ch).any new.collapsesOnto = false) (full : 16 ≤ (s.frames ch).length)
    (low : ∀ f ∈ s.frames ch, f.priority ≤ new.priority) :
    placeFrame ch new s = latchAll ch .downlinkOverflow s := by
  have notAbove : ¬ new.priority < highestClass (s.frames ch) := not_lt.2 ((highestClass_le_iff _ _).2 low)
  rw [placeFrame_of_full h apart full, if_neg notAbove, setFrames_frames_eq_self]

end

/-! ## The obligation -/

/-- Settles O39: one lemma a case of R124 and R126, and the links of a latch (R184). -/
theorem placingAFrame : Obligations.PlacingAFrame := by
  unfold Obligations.PlacingAFrame
  intro ch new s
  refine ⟨fun h => ?discarded, fun off closed => ?_⟩
  case discarded =>
    refine placeFrame_of_not_takesFrames fun takes => ?_
    obtain ⟨off, closed⟩ := (takesFrames_iff _).1 takes
    exact h.elim off closed
  have takes : takesFrames (s.floor ch) = true := (takesFrames_iff _).2 ⟨off, closed⟩
  refine ⟨fun i old j new_eq mem dest old_eq => ?stop, fun i old j new_eq mem dest old_eq => ?resume,
    fun distinct => ?added, latchAll_link ch _ s⟩
  case stop =>
    have collapses := (new.collapsesOnto_iff old).2 ⟨dest, .inl ⟨i, j, new_eq, old_eq⟩⟩
    refine placeFrame_of_collapses takes mem collapses fun f => ?_
    cases f_eq : f.body with
    | stopOrder => simp [Frame.collapsesOnto_iff, new_eq, f_eq]
    | _ => simp [Frame.collapsesOnto_iff, new_eq, f_eq]
  case resume =>
    have collapses := (new.collapsesOnto_iff old).2 ⟨dest, .inr ⟨i, j, new_eq, old_eq⟩⟩
    refine placeFrame_of_collapses takes mem collapses fun f => ?_
    cases f_eq : f.body with
    | resumeOffer => simp [Frame.collapsesOnto_iff, new_eq, f_eq]
    | _ => simp [Frame.collapsesOnto_iff, new_eq, f_eq]
  case added =>
    have apart : (s.frames ch).any new.collapsesOnto = false := by
      refine List.any_eq_false.2 fun old mem collapses => ?_
      obtain ⟨dest, ⟨i, j, both⟩ | ⟨i, j, both⟩⟩ := (new.collapsesOnto_iff old).1 collapses
      · exact (distinct old mem dest).1 i j both
      · exact (distinct old mem dest).2 i j both
    exact ⟨placeFrame_of_room takes apart,
      fun _ _ _ full => placeFrame_of_displaces takes apart full,
      placeFrame_of_drops takes apart⟩

end Sys2Proof.Machine

/-! PROOF. READ_CONDITIONS and SUBSCRIBE: their answers, and the field of the issuing link that each changes (R183, R185). -/

namespace Sys2Proof.Machine

/-! ## A link that is written after its framer has returned to HUNT -/

/-- Of two writes of one link the later stands. -/
theorem setLink_setLink (c : Console) (l k : Link) (s : State) : setLink c l (setLink c k s) = setLink c l s := by
  simp [setLink]

/-- R178: a link that a command writes is written over the one whose framer went to HUNT. -/
theorem setLink_hunt (link : Console) (l : Link) (s : State) : setLink link l (hunt link s) = setLink link l s :=
  setLink_setLink link l _ s

/-! ## The two commands -/

/-- R185. -/
theorem cmdReadConditions_apply (link : Console) (s : State) :
    cmdReadConditions link s =
      (.accepted false (.conditions (s.link link).latches (s.link link).notices.length (s.link link).nextNumber),
        setLink link { s.link link with latches := Latches.clear } s) := rfl

/-- R183: the six categories are the bits below bit 6. -/
theorem cmdSubscribe_of_lt {mask : Byte} (categories : mask.toNat < 64) (link : Console) (s : State) :
    cmdSubscribe link mask s =
      (.accepted false (.categories (mask.setWidth 6)), setLink link { s.link link with subs := mask.setWidth 6 } s) := by
  rw [cmdSubscribe, check_apply, if_pos (decide_eq_true categories), accept_apply, modLink]

/-- R183: a mask with bit 6 or bit 7 set names no category there. -/
theorem cmdSubscribe_of_le {mask : Byte} (other : 64 ≤ mask.toNat) (link : Console) (s : State) :
    cmdSubscribe link mask s = (.refused .badCategory 0, s) := by
  rw [cmdSubscribe, check_apply, if_neg (by simpa using other)]

section
variable {link : Console} {s : State} (listening : Listening link s)
include listening

/-- R178: the row of READ_CONDITIONS on a listening link. -/
theorem exec_readConditions_of_listening :
    exec (.readConditions link) s =
      answeredWith link 0x36#8 (cmdReadConditions link (hunt link s)).1 (cmdReadConditions link (hunt link s)).2 :=
  command_row listening

/-- R178: the row of SUBSCRIBE on a listening link. -/
theorem exec_subscribe_of_listening (mask : Byte) :
    exec (.subscribe link mask) s =
      answeredWith link 0x38#8 (cmdSubscribe link mask (hunt link s)).1 (cmdSubscribe link mask (hunt link s)).2 :=
  command_row listening

end

/-! ## The obligation -/

/-- Settles O13: the answer and the write of each command on the link whose framer is in HUNT, SUBSCRIBE by whether its mask
names categories alone. -/
theorem conditionsAndSubscriptions : Obligations.ConditionsAndSubscriptions := by
  unfold Obligations.ConditionsAndSubscriptions
  refine ⟨fun link s listening => ?conditions, fun link mask s listening =>
    ⟨fun categories => ?subscribed, fun other => ?refused⟩⟩
  case conditions =>
    rw [exec_readConditions_of_listening listening, cmdReadConditions_apply, hunt_link_self, setLink_hunt]
  case subscribed =>
    rw [exec_subscribe_of_listening listening, cmdSubscribe_of_lt categories, hunt_link_self, setLink_hunt]
  case refused =>
    rw [exec_subscribe_of_listening listening, cmdSubscribe_of_le other]

end Sys2Proof.Machine

/-! PROOF. The agreement of channels and ports is not kept by itself: CarrierLaw does not speak of path tests, so a port that
carries a channel may have a running test, whose end makes the port STANDBY (R159) and leaves its channel without a port. -/

namespace Sys2Proof.Machine

set_option Elab.async false

/-! ## A carrying port with a running test -/

/-- SERVICE with CH0 alone in use, IDLE and carried by BP0, on which a LOCAL test has run out. -/
def testedCarrier : State :=
  { State.reset with
    part := .service
    channels := State.reset.channels.put 1 { ChannelConfig.reset 1 with inUse := false }
    floors := State.reset.floors.put 0 { Floor.reset with state := .idle }
    ports := State.reset.ports.put 0 { PortRec.reset with state := .active, channel := some 0 }
    tests := State.reset.tests.put 0 (some (newTest State.reset 0 .loc 0 none))
    pending := [.testEndTime 0] }

/-- R159: the state after the end of that test. -/
def testedCarrierAfter : State :=
  settle (endTest 0 (newTest State.reset 0 .loc 0 none) { testedCarrier with pending := [] })

theorem step_testedCarrier : step testedCarrier = .next testedCarrierAfter := rfl

theorem testedCarrier_grantLaw : GrantLaw testedCarrier := by
  simp only [GrantLaw]
  decide +kernel

theorem testedCarrier_carrierLaw : CarrierLaw testedCarrier := by
  simp only [CarrierLaw, Floor.carried]
  refine ⟨?_, ?_, ?_, ?_, ?_, ?_, ?_, ?_⟩ <;> decide +kernel

/-- CH0 is IDLE still, and no port is ACTIVE. -/
theorem testedCarrierAfter_uncarried :
    (testedCarrierAfter.floor 0).state = .idle ∧ ∀ p, (testedCarrierAfter.port p).state ≠ .active := by
  decide +kernel

/-! ## The obligation -/

/-- Refutes O58: the end of a test on the port that carries CH0 leaves CH0 IDLE with no ACTIVE port. -/
theorem not_everyStepKeepsTheCarriers : ¬ Obligations.EveryStepKeepsTheCarriers := by
  unfold Obligations.EveryStepKeepsTheCarriers
  intro keeps
  obtain ⟨-, -, -, carriedIff, -⟩ :=
    keeps testedCarrier testedCarrierAfter testedCarrier_grantLaw testedCarrier_carrierLaw step_testedCarrier
  obtain ⟨idle, noneActive⟩ := testedCarrierAfter_uncarried
  obtain ⟨p, active, -⟩ := (carriedIff 0).1 (.inl idle)
  exact noneActive p active

end Sys2Proof.Machine

/-! PROOF. What every row and every command shares: a property of the state left passes through checks, timers and dispatch;
which fields a row can change; and the induction over rows that every invariant's proof uses. -/

namespace Sys2Proof.Machine

set_option Elab.async false

/-! ## A property of the state left, through the shared parts of a row -/

section
variable {Q : State → Prop} {s : State}

theorem check_keeps {ok : Bool} {r : Reason} {c : Cmd} (h : Q s) (k : ok = true → Q (c s).2) : Q (check ok r c s).2 := by
  rw [check_apply]
  split
  · exact k ‹_›
  · exact h

theorem look_keeps {f : State → Cmd} (h : Q (f s s).2) : Q (look f s).2 := h

theorem need_keeps {α : Type} {x : Option α} {r : Reason} {c : α → Cmd} (h : Q s) (k : ∀ a, x = some a → Q (c a s).2) :
    Q (need x r c s).2 := by
  cases x with
  | none => exact h
  | some a => exact k a rfl

theorem noneOf_keeps {x : Option UnitId} {r : Reason} {c : Cmd} (h : Q s) (k : x = none → Q (c s).2) :
    Q (noneOf x r c s).2 := by
  cases x with
  | none => exact k rfl
  | some u => exact h

/-- R3: the checks that every command on a move makes. -/
theorem moveCommand_keeps {link : Console} {b : Byte} {admits : MoveState → Bool} {c : MoveIx → Move → Cmd} (h : Q s)
    (k : ∀ i m, s.part = .service → s.move i = some m → admits m.state = true → Q (c i m s).2) :
    Q (moveCommand link b admits c s).2 := by
  refine check_keeps h fun service => need_keeps h fun im him => check_keeps h fun _ => check_keeps h fun admitted => ?_
  obtain ⟨i, -, him⟩ := Option.bind_eq_some_iff.1 him
  obtain ⟨m, hm, rfl⟩ := Option.map_eq_some_iff.1 him
  exact k i m (by simpa using service) hm admitted

theorem expiry_keeps {timer : Option Time} {f : State → State} (h : Q s) (k : reachedOpt s.time timer = true → Q (f s)) :
    Q (expiry timer f s) := by
  unfold expiry
  split
  · exact k ‹_›
  · exact h

theorem whenSome_keeps {α : Type} {x : Option α} {f : α → State → State} (h : Q s) (k : ∀ a, x = some a → Q (f a s)) :
    Q (whenSome x f s) := by
  cases x with
  | none => exact h
  | some a => exact k a rfl

theorem ite_keeps {c : Prop} [Decidable c] {t u : State} (h : c → Q t) (k : ¬ c → Q u) : Q (if c then t else u) := by
  split
  · exact h ‹_›
  · exact k ‹_›

theorem iteFun_keeps {c : Prop} [Decidable c] {f g : State → State} (h : c → Q (f s)) (k : ¬ c → Q (g s)) :
    Q ((if c then f else g) s) := by
  split
  · exact h ‹_›
  · exact k ‹_›

/-- R177, R178: a command's row has no effect, or the command is answered. -/
theorem takeCommand_keeps {link : Console} {code : Byte} {c : Cmd} (h : Q s)
    (k : (s.link link).responses.length < 8 → Q (answerFrame link code c s)) : Q (takeCommand link code c s) :=
  ite_keeps k fun _ => h

/-- An operation repeated over a list keeps what one of its runs keeps. -/
theorem forEach_keeps {α : Type} {f : α → State → State} (xs : List α) (k : ∀ x ∈ xs, ∀ t, Q t → Q (f x t)) :
    ∀ t, Q t → Q (forEach xs f t) := by
  induction xs with
  | nil => exact fun _ h => h
  | cons x xs ih => exact fun t h => ih (fun y hy => k y (.tail _ hy)) _ (k x (.head _) t h)

/-- R132, R133: an air frame is discarded, or passed on with the channel that its port carries. -/
theorem arrives_keeps {p : Port} {src : UnitId} {f : Chan → State → State} (h : Q s)
    (k : ∀ ch, s.part = .service → (s.port p).state = .active → (s.port p).channel = some ch → (s.unit src).isSome = true →
      Q (f ch (refresh src s))) : Q (arrives p src f s) := by
  unfold arrives
  refine ite_keeps (fun _ => h) fun service => ?_
  split
  · exact h
  · next ch carried =>
    refine ite_keeps (fun known => ?_) fun _ => h
    unfold State.carriedBy at carried
    split at carried
    · next active => exact k ch (by cases e : s.part <;> simp_all) active carried known.2
    · cases carried

/-- R73: a supervision frame has no effect, or it is taken for the sender's RC move. -/
theorem forMove_keeps {u : UnitId} {f : MoveIx → Move → State → State} (h : Q s)
    (k : ∀ i m, s.bindingOf (.unit u) = some i → s.move i = some m → m.isRC = true → Q (f i m s)) : Q (forMove u f s) := by
  refine whenSome_keeps h fun im him => ite_keeps (fun rc => ?_) fun _ => h
  unfold State.moveOf at him
  split at him
  · cases him
  · next i hi =>
    obtain ⟨m, hm, rfl⟩ := Option.map_eq_some_iff.1 him
    exact k i m hi hm rc

/-- R187: a held event leaves the state, and a taken one is followed by the idle transmitters. -/
theorem event_keeps {f : State → State} {t : State} (h : Q s) (k : Q (settle (f s))) (e : event f s = .next t) : Q t := by
  unfold event at e
  split at e
  · cases e; exact h
  · cases e; exact k

end

theorem accept_snd (b : Bool) (x : Result) (f : State → State) (s : State) : (accept b x f s).2 = f s := rfl

/-! ## The fields that an operation of the Port Manager changes (R141 to R149) -/

/-- The fields that a port event can change. -/
abbrev portFields : List Field := .tests :: talkFields

theorem closeChannel_only (ch : Chan) (s : State) : Only portFields s (closeChannel ch s) :=
  (closeChannel_frame _ _).only.mono (by decide)

theorem enterTransfer_only (ch : Chan) (s : State) : Only [.floors] s (enterTransfer ch s) := modFloor_only _ _ _

theorem openTransfer_only (ch : Chan) (s : State) : Only [.floors] s (openTransfer ch s) := modFloor_only _ _ _

theorem spareSearch_only {enter : Port → State → State} {closing : State → State} {ch : Chan} {s : State}
    (he : ∀ q t, Only portFields t (enter q t)) (hc : Only portFields s (closing s)) :
    Only portFields s (spareSearch enter closing ch s) := by
  unfold spareSearch
  split
  · exact hc
  · exact ((abortTest_only _ _ _).andThen (hs := portFields) (he _ _)).andThen (tuneTo_only _ _ _ _)

theorem searchAgain_only (ch : Chan) (s : State) : Only portFields s (searchAgain ch s) :=
  spareSearch_only (fun _ _ => .refl _ _) (closeChannel_only _ _)

theorem loseCarrier_only (p : Port) (ch : Chan) (s : State) : Only portFields s (loseCarrier p ch s) := by
  unfold loseCarrier
  split
  · exact (((enterTransfer_only _ _).andThen (hs := portFields) (reportTransfer_only _ _ _ _)).andThen (hs := portFields)
      (modPort_only _ _ _)).andThen (broadcast_only _ _)
  · exact spareSearch_only (fun _ _ => (enterTransfer_only _ _).andThen (reportTransfer_only _ _ _ _)) (closeChannel_only _ _)

theorem portLost_only {p : Port} {r : PortRec} {c : SwapCause} {shut : State → State} {s : State}
    (h : Only [.ports, .sent] s (shut s)) : Only portFields s (portLost p r c shut s) := by
  unfold portLost
  split
  · exact Only.whenSome _ fun _ => h.andThen (loseCarrier_only _ _ _)
  · exact Only.whenSome _ fun _ => Only.ite _ ((broadcast_only _ _).mono (by decide)) (searchAgain_only _ _)
  · exact (abortTest_only _ _ _).mono (by decide)
  all_goals exact .refl _ _

theorem failPort_only (p : Port) (c : FailCause) (s : State) : Only portFields s (failPort p c s) :=
  (portTo_only _ _ _ _ _).andThen (portLost_only (shutPort_only _ _))

theorem isolate_only (p : Port) (s : State) : Only portFields s (isolate p s) :=
  (portTo_only _ _ _ _ _).andThen (portLost_only (.refl _ _))

theorem stillHealthy_only (p : Port) (old : Option Health) (h : Health) (s : State) :
    Only [.links] s (stillHealthy p old h s) := by
  have told : Only [.links] s (if statusChanged old h then broadcast (.portHealth p h) s else s) :=
    Only.ite _ (broadcast_only _ _) (.refl _ _)
  unfold stillHealthy
  generalize (if statusChanged old h then broadcast (.portHealth p h) s else s) = t at told ⊢
  cases h with
  | degraded =>
    cases (s.port p).channel with
    | none => cases (s.port p).state <;> exact told
    | some ch => cases (s.port p).state <;> first | exact told | exact told.trans (latchAll_only _ _ _)
  | ok | fault => cases (s.port p).state <;> cases (s.port p).channel <;> exact told

theorem healthy_only (p : Port) (old : Option Health) (h : Health) (s : State) : Only portFields s (healthy p old h s) := by
  unfold healthy
  split
  · exact (portTo_only _ _ _ _ _).andThen (takeUpClosed_only _ _)
  · exact (modPort_only _ _ _).mono (by decide)
  iterate 4 exact (stillHealthy_only _ _ _ _).mono (by decide)
  · exact .refl _ _

theorem faulty_only (p : Port) (s : State) : Only portFields s (faulty p s) :=
  Only.ite _ ((modPort_only _ _ _).mono (by decide)) (failPort_only _ _ _)

theorem takeHealth_only (p : Port) (h : Health) (s : State) : Only portFields s (takeHealth p h s) := by
  unfold takeHealth
  cases h with
  | ok | degraded => exact (modPort_only _ _ _).andThen (healthy_only _ _ _ _)
  | fault => exact (modPort_only _ _ _).andThen (faulty_only _ _)

theorem silence_only (p : Port) (s : State) : Only portFields s (silence p s) := by
  unfold silence
  split
  iterate 4 exact failPort_only _ _ _
  · exact (modPort_only _ _ _).mono (by decide)
  all_goals exact .refl _ _

theorem restored_only (p : Port) (s : State) : Only portFields s (restored p s) :=
  Only.ite _ ((portTo_only _ _ _ _ _).andThen (takeUpClosed_only _ _)) (.refl _ _)

theorem becomeCarrier_only (p : Port) (ch : Chan) (s : State) : Only portFields s (becomeCarrier p ch s) :=
  (portTo_only _ _ _ _ _).andThen (servePort_only _ _ _)

theorem completeSwap_only (p former : Port) (ch : Chan) (s : State) : Only portFields s (completeSwap p former ch s) := by
  refine Only.andThen (fs := portFields) ?_ (takeUpClosed_only _ _)
  refine Only.andThen (fs := portFields) ?_ (broadcast_only _ _)
  refine Only.andThen (fs := portFields) ?_ (latchAll_only _ _ _)
  refine Only.andThen (fs := portFields) ?_ (modFloor_only _ _ _)
  exact ((becomeCarrier_only _ _ _).andThen (hs := portFields) (portTo_only _ _ _ _ _)).andThen (shutPort_only _ _)

theorem tuned_only (p : Port) (ch : Chan) (u : TunePurpose) (s : State) : Only portFields s (tuned p ch u s) := by
  unfold tuned
  split
  · exact Only.whenSome _ fun _ => completeSwap_only _ _ _ _
  iterate 2
    exact ((becomeCarrier_only _ _ _).andThen (hs := portFields) (leaveTransfer_frame _ _).only).andThen (broadcast_only _ _)

/-! ## ENTER_SERVICE and RESTART (R146, R188, R189) -/

theorem carryNow_only (x : Chan × Port) (s : State) : Only portFields s (carryNow x s) :=
  (((portTo_only _ _ _ _ _).andThen (hs := portFields) (send_only _ _ _)).andThen (hs := portFields)
    (servePort_only _ _ _)).andThen (modFloor_only _ _ _)

theorem tuneAbsent_only (x : Chan × Port) (s : State) : Only portFields s (tuneAbsent x s) :=
  (((modPort_only _ _ _).andThen (hs := portFields) (tuneTo_only _ _ _ _)).andThen (hs := portFields)
    (openTransfer_only _ _)).andThen (reportTransfer_only _ _ _ _)

theorem seekSpare_only (x : Chan × Port) (s : State) : Only portFields s (seekSpare x s) :=
  spareSearch_only (fun _ _ => (openTransfer_only _ _).andThen (reportTransfer_only _ _ _ _))
    (((openTransfer_only _ _).andThen (hs := portFields) (reportTransfer_only _ _ _ _)).andThen (closeChannel_only _ _))

theorem placeChannels_only (s : State) : Only portFields s (placeChannels s) := by
  refine Only.andThen (fs := portFields) ?_ (Only.forEach _ (fun _ _ _ => seekSpare_only _ _) _)
  refine Only.andThen (fs := portFields) ?_ (Only.forEach _ (fun _ _ _ => tuneAbsent_only _ _) _)
  refine Only.andThen (fs := portFields) ?_ (Only.forEach _ (fun _ _ _ => carryNow_only _ _) _)
  exact (Only.forEach _ (fun _ _ _ => abortTest_only _ _ _) _).mono (by decide)

theorem enterService_only (s : State) : Only (.part :: portFields) s (enterService s) := by
  have service : Only [.part] s { s with part := .service } := by
    intro f hf; cases f <;> first | exact rfl | simp at hf
  exact service.andThen (placeChannels_only _)

theorem restartPort_only (p : Port) (s : State) : Only [.ports, .links, .sent] s (restartPort p s) := by
  unfold restartPort
  split
  · exact (portTo_only _ _ _ _ _).andThen (shutPort_only _ _)
  iterate 2 exact (portTo_only _ _ _ _ _).mono (by decide)
  all_goals exact .refl _ _

/-- The fields that RESTART changes (R189). -/
abbrev restartFields : List Field := .part :: .units :: .slots :: .quiet :: portFields

theorem clearAll_only (s : State) : Only restartFields s (clearAll s) := by
  intro f hf; cases f <;> first | exact rfl | exact absurd hf (by decide)

theorem restart_only (s : State) : Only restartFields s (restart s) := by
  have emptied (t : State) : Only restartFields t { t with tests := Tab.fill 7 none } := by
    intro f hf; cases f <;> first | exact rfl | exact absurd hf (by decide)
  exact ((clearAll_only s).andThen (hs := restartFields)
    (Only.forEach _ (fun _ _ _ => restartPort_only _ _) _)).trans (emptied _)

end Sys2Proof.Machine

/-! PROOF. Which fields of the state each row can change, and how a property that reads some fields alone passes through every
other row. -/

namespace Sys2Proof.Machine

set_option Elab.async false

/-! ## The fields of a command -/

/-- The fields that a command's effect can change. -/
def commandFields : Command → List Field
  | .setChannel .. => [.channels]
  | .setGlobal .. => .globals :: .units :: talkFields
  | .loadPattern .. => [.patterns]
  | .enterService => .part :: portFields
  | .restart => restartFields
  | .createMove .. | .addMember .. => [.moves, .units, .downlink, .links]
  | .removeMember .. | .releaseMove .. => moveFields
  | .setController .. | .reinstate .. => [.moves, .downlink, .links]
  | .moveChannel .. => superviseFields
  | .takeMove .. => [.moves, .links]
  | .talkRequest .. | .talkEnd .. | .play .. => talkFields
  | .swapPort .. => [.ports, .links, .sent]
  | .isolatePort .. => portFields
  | .restorePort .. => [.ports, .links]
  | .startTest .. => [.tests, .sequences, .ports, .links, .sent, .downlink]
  | .stopTest .. => [.tests, .ports, .links, .sent, .downlink, .floors]
  | .insertError .. => [.tests]
  | .readConditions | .subscribe .. => [.links]
  | .readMove .. | .readUnit .. | .listUnits .. | .readFloor .. | .readPort .. | .readTest .. | .readTime => []

theorem setGlobals_only (f : GlobalFields) (s : State) :
    Only (.globals :: .units :: talkFields) s (setGlobals f s) := by
  have applied : Only [.globals] s { s with globals := s.globals.withFields f } := by
    intro f hf; cases f <;> first | exact rfl | simp at hf
  exact Only.iteFun _ ((applied.andThen (hs := .globals :: .units :: talkFields) (ageOutAll_only _)).andThen
    (serveFreed_only _ _)) (applied.mono (by decide))

theorem consoleRequest_frame (link : Console) (ch : Chan) (cls : TalkClass) (s : State) :
    TalkFrame ch s (consoleRequest link ch cls s) := by
  cases cls with
  | emergency => exact emergencyOutcome_frame _ _ _
  | routine | work | urgent => exact TalkFrame.ite _ (answer_frame _ _ _ _) (talkOutcome_frame _ _ _ _)

theorem cmdPlay_only (link : Console) (c p mode : Byte) (s : State) : Only talkFields s (cmdPlay link c p mode s).2 := by
  have same := Only.refl talkFields s
  refine check_keeps same fun _ => need_keeps same fun ch _ => need_keeps same fun pat _ => check_keeps same fun _ => ?_
  split
  · exact check_keeps same fun _ => (requestAlert_frame _ _ _).only
  · split
    · exact check_keeps same fun _ => check_keeps same fun _ => (startPlay_frame _ _ _ _).only
    · exact same

theorem cmdStartTest_only (b m : Byte) (dur : BitVec 16) (remote : Option (UnitId × BitVec 16)) (s : State) :
    Only [.tests, .sequences, .ports, .links, .sent, .downlink] s (cmdStartTest b m dur remote s).2 := by
  have same := Only.refl [.tests, .sequences, .ports, .links, .sent, .downlink] s
  refine check_keeps same fun _ => need_keeps same fun p _ => check_keeps same fun _ => need_keeps same fun mode _ => ?_
  unfold cmdStartMode
  rw [look_apply]
  split
  · exact same
  · exact check_keeps same fun _ => need_keeps same fun _ _ => check_keeps same fun _ => check_keeps same fun _ =>
      startTest_only _ _ _
  · exact startTest_only _ _ _

theorem cmdListUnits_only (start : UnitId) (filter : Byte) (move : Option Byte) (s : State) :
    Only [] s (cmdListUnits start filter move s).2 := by
  have same := Only.refl [] s
  have all : ∀ c : Cmd, c = cmdListUnits start filter move → Only [] s (c s).2 := by
    unfold cmdListUnits
    split <;> rintro c rfl
    · exact same
    · exact same
    · exact need_keeps same fun _ _ => same
    · exact same
  exact all _ rfl

/-- R179: what a command can change, besides the answer and the framer of its link. -/
theorem runCommand_only (link : Console) (c : Command) (s : State) : Only (commandFields c) s (runCommand link c s).2 := by
  have same := Only.refl (commandFields c) s
  cases c with
  | setChannel ch f =>
    refine check_keeps same fun _ => need_keeps same fun _ _ => check_keeps same fun _ => check_keeps same fun _ => ?_
    intro f hf; cases f <;> first | exact rfl | simp [commandFields] at hf
  | setGlobal f =>
    exact check_keeps same fun _ => check_keeps same fun _ => check_keeps same fun _ => setGlobals_only _ _
  | loadPattern pat rep steps =>
    refine need_keeps same fun _ _ => check_keeps same fun _ => check_keeps same fun _ => ?_
    intro f hf; cases f <;> first | exact rfl | simp [commandFields] at hf
  | enterService =>
    refine check_keeps same fun _ => ?_
    cases planFault s with
    | some x => exact same
    | none => exact enterService_only _
  | restart => exact check_keeps same fun _ => restart_only _
  | createMove f =>
    refine check_keeps same fun _ => need_keeps same fun _ _ => need_keeps same fun _ _ => check_keeps same fun _ =>
      check_keeps same fun _ => check_keeps same fun _ => noneOf_keeps same fun _ => noneOf_keeps same fun _ =>
      noneOf_keeps same fun _ => noneOf_keeps same fun _ => ?_
    unfold checkController
    split
    · exact need_keeps same fun _ _ => check_keeps same fun _ => noneOf_keeps same fun _ => createMove_only _ _ _ _ _
    · exact check_keeps same fun _ => createMove_only _ _ _ _ _
  | addMember m u =>
    exact look_keeps (moveCommand_keeps same fun _ _ _ _ _ => check_keeps same fun _ => need_keeps same fun _ _ =>
      check_keeps same fun _ => check_keeps same fun _ => check_keeps same fun _ => check_keeps same fun _ =>
      addMember_only _ _ _ _)
  | removeMember m u =>
    exact moveCommand_keeps same fun _ _ _ _ _ => check_keeps same fun _ => check_keeps same fun _ =>
      check_keeps same fun _ => check_keeps same fun _ => (removeHandset_only _ _ _ _).andThen (hs := moveFields) (serveFreed_only _ _)
  | setController m u =>
    refine moveCommand_keeps same fun _ _ _ _ _ => need_keeps same fun _ _ => need_keeps same fun _ _ =>
      check_keeps same fun _ => ?_
    exact iteFun_keeps (fun _ => same) fun _ => setController_only _ _ _ _ _
  | moveChannel m ch =>
    exact look_keeps (moveCommand_keeps same fun _ _ _ _ _ => check_keeps same fun _ => need_keeps same fun _ _ =>
      check_keeps same fun _ => noneOf_keeps same fun _ =>
      (moveToChannel_only _ _ _ _).andThen (hs := superviseFields) (serveFreed_only _ _))
  | releaseMove m =>
    refine moveCommand_keeps same fun _ _ _ _ _ => iteFun_keeps (fun _ => ?_) fun _ => release_only _ _ _ _
    exact (enterReleasing_only _ _ _).mono (gs := moveFields) (by decide)
  | takeMove m =>
    refine check_keeps same fun _ => need_keeps same fun _ _ => iteFun_keeps (fun _ => same) fun _ => ?_
    exact (setMove_only _ _ _).andThen (hs := [.moves, .links]) (notify_only _ _ _)
  | reinstate m =>
    exact moveCommand_keeps same fun _ _ _ _ _ => (setMove_only _ _ _).andThen (hs := [.moves, .downlink, .links])
      (startOffers_only _ _)
  | talkRequest ch cls =>
    exact check_keeps same fun _ => need_keeps same fun _ _ => need_keeps same fun _ _ => check_keeps same fun _ =>
      (consoleRequest_frame _ _ _ _).only
  | talkEnd ch =>
    exact check_keeps same fun _ => need_keeps same fun _ _ => check_keeps same fun _ => (talkEndBy_frame _ _ _).only
  | play ch pat mode => exact cmdPlay_only _ _ _ _ _
  | swapPort ch =>
    exact check_keeps same fun _ => need_keeps same fun _ _ => check_keeps same fun _ => check_keeps same fun _ =>
      need_keeps same fun _ _ => tuneTo_only _ _ _ _
  | isolatePort p => exact need_keeps same fun _ _ => iteFun_keeps (fun _ => same) fun _ => isolate_only _ _
  | restorePort p => exact need_keeps same fun _ _ => check_keeps same fun _ => portTo_only _ _ _ _ _
  | startTest p mode dur remote => exact cmdStartTest_only _ _ _ _ _
  | stopTest p => exact need_keeps same fun _ _ => need_keeps same fun _ _ => endTest_only _ _ _
  | insertError p =>
    exact need_keeps same fun _ _ => need_keeps same fun _ _ => check_keeps same fun _ => setTest_only _ _ _
  | readMove m => exact need_keeps same fun _ _ => same
  | readUnit u => exact check_keeps same fun _ => same
  | listUnits start filter move =>
    exact cmdListUnits_only _ _ _ _
  | readFloor ch => exact need_keeps same fun _ _ => same
  | readPort p => exact need_keeps same fun _ _ => same
  | readTest p => exact need_keeps same fun _ _ => need_keeps same fun _ _ => same
  | readConditions => exact setLink_only _ _ _
  | readTime => exact same
  | subscribe mask => exact check_keeps same fun _ => setLink_only _ _ _

/-! ## The rows of the commands (R178) -/

/-- The command that a row carries out, and its link. -/
def commandOf? : Instr → Option (Console × Command)
  | .setChannel l ch f => some (l, .setChannel ch f)
  | .setGlobal l f => some (l, .setGlobal f)
  | .loadPattern l pat rep steps => some (l, .loadPattern pat rep steps)
  | .enterService l => some (l, .enterService)
  | .restart l => some (l, .restart)
  | .createMove l f => some (l, .createMove f)
  | .addMember l m u => some (l, .addMember m u)
  | .removeMember l m u => some (l, .removeMember m u)
  | .setController l m u => some (l, .setController m u)
  | .moveChannel l m ch => some (l, .moveChannel m ch)
  | .releaseMove l m => some (l, .releaseMove m)
  | .takeMove l m => some (l, .takeMove m)
  | .reinstate l m => some (l, .reinstate m)
  | .talkRequest l ch cls => some (l, .talkRequest ch cls)
  | .talkEnd l ch => some (l, .talkEnd ch)
  | .play l ch pat mode => some (l, .play ch pat mode)
  | .swapPort l ch => some (l, .swapPort ch)
  | .isolatePort l p => some (l, .isolatePort p)
  | .restorePort l p => some (l, .restorePort p)
  | .startTest l p mode dur remote => some (l, .startTest p mode dur remote)
  | .stopTest l p => some (l, .stopTest p)
  | .insertError l p => some (l, .insertError p)
  | .readMove l m => some (l, .readMove m)
  | .readUnit l u => some (l, .readUnit u)
  | .listUnits l start filter move => some (l, .listUnits start filter move)
  | .readFloor l ch => some (l, .readFloor ch)
  | .readPort l p => some (l, .readPort p)
  | .readTest l p => some (l, .readTest p)
  | .readConditions l => some (l, .readConditions)
  | .readTime l => some (l, .readTime)
  | .subscribe l mask => some (l, .subscribe mask)
  | _ => none

theorem eq_commandRow {i : Instr} {link : Console} {c : Command} (h : commandOf? i = some (link, c)) :
    i = commandRow link c := by
  cases i <;> cases h <;> rfl

/-- R178: a command's row takes the command on its link. -/
theorem exec_commandRow (link : Console) (c : Command) (s : State) :
    exec (commandRow link c) s = event (takeCommand link (commandCode c) (runCommand link c)) s := by
  cases c <;> rfl

/-! ## The fields of a row -/

/-- The fields that a row which carries out no command can change; a CONSOLE_BYTE, which may carry out any command, is left
to its command. -/
def rowFields : Instr → List Field
  | .powerOn | .resetAssert => .time :: .channels :: .globals :: .patterns :: .sequences :: .moves :: .resetLine :: restartFields
  | .resetRelease => [.resetLine]
  | .timeBaseTick => [.time, .units, .links]
  | .healthReport .. | .healthSilence .. | .restorationMark .. | .tuned .. | .tuneDeadline .. => portFields
  | .carrierReport .. => [.floors, .links]
  | .slotReady .. => enrolFields
  | .talkReq .. | .talkEndFrame .. => .units :: talkFields
  | .emergency .. | .presence .. | .stopAck .. | .joined .. => moveFields
  | .resume .. => [.units, .moves, .links]
  | .handoverOffer .. | .handoverTake .. => [.units, .moves, .downlink, .links]
  | .capability .. => [.units, .slots, .quiet, .downlink, .links]
  | .echoTestData .. => [.tests, .links]
  | .testBit .. => [.tests, .sent, .links]
  | .formingDeadline .. | .releaseDeadline .. => moveFields
  | .joinRepetition .. | .releaseStopRepetition .. | .stopOrderRepetition .. | .minimumHoldMark ..
  | .offerCycleRepetition .. => [.moves, .downlink, .links]
  | .addDeadline .. | .reChannelDeadline .. | .cleanSpanEnd .. | .stopConfirmMark .. | .offerExpiry .. => [.moves, .links]
  | .windowDeadline .. => superviseFields
  | .takeUpDeadline .. | .silentCarrierDeadline .. | .overtalkExpiry .. | .warningMark .. | .hangExpiry ..
  | .timeoutExpiry .. | .toneStepEnd .. => talkFields
  | .lockoutExpiry .. | .foreignDetection .. | .quietDeadline .. => [.floors, .links]
  | .testEndTime .. => portFields
  | .offerRepetition .. | .confirmSpacing .. => [.slots, .downlink, .links]
  | .lapseTimer .. | .failureTimer .. => [.slots, .quiet, .downlink, .links]
  | .stuckMark .. => [.slots, .links]
  | .quietListExpiry .. => [.quiet, .links]
  | .agingExpiry .. => .units :: talkFields
  | _ => [.links]

/-- What an event changes is what its effect changes, and the links. -/
theorem event_only {fs : List Field} {f : State → State} {s t : State} (e : event f s = .next t) (h : Only fs s (f s))
    (links : .links ∈ fs := by decide) : Only fs s t :=
  event_keeps (Q := Only fs s) (.refl _ _) (h.trans ((settle_only _).mono (by simpa using links))) e

theorem talkReqBy_only (ch : Chan) (u : UnitId) (cls : Byte) (s : State) : Only talkFields s (talkReqBy ch u cls s) := by
  unfold talkReqBy
  split
  iterate 2 exact .refl _ _
  · exact Only.ite _ (answer_frame _ _ _ _).only (Only.ite _ (answer_frame _ _ _ _).only (talkOutcome_frame _ _ _ _).only)

theorem emergencyBy_only (ch : Chan) (u : UnitId) (s : State) : Only superviseFields s (emergencyBy ch u s) := by
  unfold emergencyBy
  have floor : Only superviseFields s (if s.currentOf u ≠ ch then answer ch (.unit u) (.denied .emergency .wrongChannel) s
      else emergencyOutcome ch (.unit u) s) :=
    (Only.ite _ (answer_frame _ _ _ _).only (emergencyOutcome_frame _ _ _).only).mono (by decide)
  exact floor.trans (Only.whenSome _ fun _ => crewStop_only _ _)

theorem presenceBy_only (u : UnitId) (s : State) : Only superviseFields s (presenceBy u s) := by
  refine forMove_keeps (.refl _ _) fun i m _ _ _ => Only.ite _ ?_ (.refl _ _)
  have set (x : Option Move) : Only superviseFields s (setMove i x s) := (setMove_only _ _ _).mono (by decide)
  split
  · exact Only.ite _ (raiseFault_only _ _ _) (set _)
  · exact set _
  all_goals exact .refl _ _

theorem confirmStop_only (i : MoveIx) (m : Move) (s : State) : Only [.moves, .downlink, .links] s (confirmStop i m s) := by
  refine Only.ite _ (.refl _ _) ?_
  exact (setMove_only _ _ _).andThen (gs := [.moves, .downlink, .links]) (Only.iteFun _ (endHold_only _ _) (.refl _ _))

theorem stopAckBy_only (u : UnitId) (s : State) : Only moveFields s (stopAckBy u s) := by
  refine forMove_keeps (.refl _ _) fun i m _ _ _ => Only.ite _ ?_ (.refl _ _)
  split
  · exact (confirmStop_only _ _ _).mono (by decide)
  · exact release_only _ _ _ _
  all_goals exact .refl _ _

theorem resumeBy_only (u : UnitId) (s : State) : Only [.moves, .links] s (resumeBy u s) :=
  forMove_keeps (.refl _ _) fun _ _ _ _ _ => Only.ite _ ((setMove_only _ _ _).andThen (notify_only _ _ _)) (.refl _ _)

theorem offerBy_only (u x : UnitId) (s : State) : Only [.moves, .downlink, .links] s (offerBy u x s) :=
  forMove_keeps (.refl _ _) fun _ _ _ _ _ => Only.ite _ ((setMove_only _ _ _).andThen (orderTo_only _ _ _)) (.refl _ _)

theorem takeBy_only (u : UnitId) (s : State) : Only [.moves, .downlink, .links] s (takeBy u s) :=
  forMove_keeps (.refl _ _) fun _ _ _ _ _ => Only.ite _ (((setMove_only _ _ _).andThen (hs := [.moves, .downlink, .links])
    (assignControl_only _ _ _ _ _)).andThen (notify_only _ _ _)) (.refl _ _)

/-- R133: what an air frame changes is what its taking changes, and its sender's record. -/
theorem arrives_only {fs : List Field} {p : Port} {src : UnitId} {f : Chan → State → State} {s : State}
    (h : ∀ ch t, Only fs t (f ch t)) (units : .units ∈ fs := by decide) : Only fs s (arrives p src f s) :=
  arrives_keeps (.refl _ _) fun ch _ _ _ _ => ((refresh_only _ _).mono (by simpa using units)).trans (h ch _)

theorem requestMix_only (ch : Chan) (pat : PatternIx) (s : State) : Only talkFields s (requestMix ch pat s) :=
  (requestMix_frame _ _ _).only

theorem detect_only (ch : Chan) (s : State) : Only [.floors, .links] s (detect ch s) :=
  ((modFloor_only _ _ _).andThen (hs := [.floors, .links]) (latchAll_only _ _ _)).trans
    (Only.iteFun _ (.refl _ _) ((broadcast_only _ _).mono (by decide)))

theorem cutOvertalk_only (ch : Chan) (g : Grant) (s : State) : Only talkFields s (cutOvertalk ch g s) :=
  (modFloor_only _ _ _).andThen (endGrantIdle_frame _ _ _).only

theorem warn_only (ch : Chan) (g : Grant) (s : State) : Only talkFields s (warn ch g s) :=
  (modFloor_only _ _ _).andThen (requestMix_only _ _ _)

theorem execCarrierReport_only {p : Port} {present : Bool} {u : UnitId} {s t : State}
    (e : execCarrierReport p present u s = .next t) : Only [.floors, .links] s t :=
  event_only (fs := [.floors, .links]) e
    (Only.whenSome _ fun ch => (modFloorTested_only ch (Floor.hears s.time present u) s).mono (by decide))

end Sys2Proof.Machine

/-! PROOF. The rows that carry out no command change their fields alone, and a property that reads neither the links nor the
queue of events is kept by every step when the rows that touch it, and the commands, keep it. -/

namespace Sys2Proof.Machine

set_option Elab.async false

/-- The fields that POWER_ON, RESET_ASSERT and a CONSOLE_BYTE may change are not those of one operation; every other row that
carries out no command changes the fields of `rowFields` at most. -/
theorem exec_only {i : Instr} {s t : State} (noCommand : commandOf? i = none) (noPower : i ≠ .powerOn)
    (noAssert : i ≠ .resetAssert) (noByte : ∀ l b stop, i ≠ .consoleByte l b stop) (e : exec i s = .next t) :
    Only (rowFields i) s t := by
  cases i with
  | powerOn => exact absurd rfl noPower
  | resetAssert => exact absurd rfl noAssert
  | consoleByte => exact absurd rfl (noByte _ _ _)
  | resetRelease =>
    cases e
    intro f hf; cases f <;> first | exact rfl | simp [rowFields] at hf
  | timeBaseTick =>
    refine event_only (fs := [.time, .units, .links])
      (f := fun s => { s with time := s.time + 1#32, units := s.units.map (UnitRec.held (s.time + 1#32)) }) e ?_
    intro f hf; cases f <;> first | exact rfl | simp at hf
  | gapDeadline l => exact event_only (fs := [.links]) e (expiry_keeps (.refl _ _) fun _ => (hunt_only _ _).trans (respond_only _ _ _))
  | unknownCommand l c =>
    exact event_only (fs := [.links]) e (Only.ite _ ((hunt_only _ _).trans (respond_only _ _ _)) (.refl _ _))
  | transmitDone l => exact event_only (fs := [.links]) e (setLink_only _ _ _)
  | healthReport p st =>
    exact event_only (fs := portFields)
      (f := fun s => if (s.port p).state = .isolated then s else whenSome (healthOf st) (takeHealth p) s) e
      (Only.ite _ (.refl _ _) (Only.whenSome _ fun _ => takeHealth_only _ _ _))
  | carrierReport p b u =>
    exact execCarrierReport_only e
  | slotReady p => exact event_only (fs := enrolFields) e (Only.whenSome _ fun _ => handHead_only _ _ _)
  | tuned p =>
    refine event_only (fs := portFields) e (Only.ite _ ?_ (.refl _ _))
    exact Only.whenSome _ fun _ => Only.whenSome _ fun _ => tuned_only _ _ _ _
  | undefinedPortMessage p b => exact event_only (fs := [.links]) e (.refl _ _)
  | unknownAirFrame p b => exact event_only (fs := [.links]) e (.refl _ _)
  | talkReq p u c =>
    exact event_only (fs := .units :: talkFields) e (arrives_only fun _ _ => (talkReqBy_only _ _ _ _).mono (by decide))
  | talkEndFrame p u =>
    exact event_only (fs := .units :: talkFields) e (arrives_only fun _ _ => (talkEndBy_frame _ _ _).only.mono (by decide))
  | emergency p u =>
    exact event_only (fs := moveFields) e (arrives_only fun _ _ => (emergencyBy_only _ _ _).mono (by decide))
  | presence p u m =>
    exact event_only (fs := moveFields) e (arrives_only fun _ _ => (presenceBy_only _ _).mono (by decide))
  | stopAck p u m => exact event_only (fs := moveFields) e (arrives_only fun _ _ => stopAckBy_only _ _)
  | resume p u m =>
    exact event_only (fs := [.units, .moves, .links]) e (arrives_only fun _ _ => (resumeBy_only _ _).mono (by decide))
  | handoverOffer p u m x =>
    exact event_only (fs := [.units, .moves, .downlink, .links])
      e (arrives_only fun _ _ => (offerBy_only _ _ _).mono (by decide))
  | handoverTake p u m =>
    exact event_only (fs := [.units, .moves, .downlink, .links]) e
      (arrives_only fun _ _ => (takeBy_only _ _).mono (by decide))
  | joined p u m c => exact event_only (fs := moveFields) e (arrives_only fun _ _ => joinedBy_only _ _ _ _)
  | capability p u k l c f =>
    refine event_only (fs := [.units, .slots, .quiet, .downlink, .links])
      (f := fun s => if s.part = .config then s else whenSome (s.carriedBy p) (fun ch s =>
        if ch = 0 then whenSome (wordOf u k l c f) takeBurst (refresh u s) else refresh u s) s)
      e (Only.ite _ (.refl _ _) ?_)
    refine Only.whenSome _ fun ch => Only.ite _ ?_ ((refresh_only _ _).mono (by decide))
    exact (refresh_only _ _).andThen (gs := [.slots, .quiet, .downlink, .links])
      (Only.whenSome _ fun _ => takeBurst_only _ _)
  | echoTestData p b =>
    exact event_only (fs := [.tests, .links]) e ((Only.ite _ (takeEcho_only _ _ _) (.refl _ _)).mono (by decide))
  | testBit p =>
    refine event_only (fs := [.tests, .sent, .links]) e (Only.whenSome _ fun t => ?_)
    have set (x : Option TestRec) : Only [.tests, .sent, .links] s (setTest p x s) := (setTest_only _ _ _).mono (by decide)
    cases t.mode with
    | loc => exact set _
    | unit | remote => exact (set _).andThen (send_only _ _ _)
  | formingDeadline m =>
    refine event_only (fs := moveFields) e (Only.whenSome _ fun _ => expiry_keeps (.refl _ _) fun _ => ?_)
    exact Only.ite _ (.refl _ _) ((formingEnds_only _ _ _).andThen (serveFreed_only _ _))
  | joinRepetition m u => exact event_only (fs := [.moves, .downlink, .links]) e (repeatJoin_only _ _ _)
  | addDeadline m u =>
    refine event_only (fs := [.moves, .links]) e (Only.whenSome _ fun _ => Only.whenSome _ fun _ =>
      expiry_keeps (.refl _ _) fun _ => Only.ite _ (.refl _ _) ?_)
    exact (setMove_only _ _ _).andThen (notify_only _ _ _)
  | reChannelDeadline m =>
    refine event_only (fs := [.moves, .links]) e (Only.whenSome _ fun _ => Only.whenSome _ fun _ =>
      expiry_keeps (.refl _ _) fun _ => ?_)
    exact (setMove_only _ _ _).andThen (gs := [.links]) (Only.iteFun _ (.refl _ _) (notify_only _ _ _))
  | releaseStopRepetition m =>
    refine event_only (fs := [.moves, .downlink, .links]) e (Only.whenSome _ fun _ => Only.whenSome _ fun _ =>
      Only.ite _ ?_ (.refl _ _))
    exact (setMove_only _ _ _).andThen (orderTo_only _ _ _)
  | releaseDeadline m =>
    exact event_only (fs := moveFields) e (Only.whenSome _ fun _ => expiry_keeps (.refl _ _) fun _ => release_only _ _ _ _)
  | windowDeadline m =>
    exact event_only (fs := superviseFields) e (Only.whenSome _ fun _ =>
      Only.ite _ (expiry_keeps (.refl _ _) fun _ => raiseFault_only _ _ _) (.refl _ _))
  | cleanSpanEnd m =>
    exact event_only (fs := [.moves, .links]) e (Only.whenSome _ fun _ =>
      (Only.ite _ (setMove_only _ _ _) (.refl _ _)).mono (by decide))
  | stopOrderRepetition m =>
    refine event_only (fs := [.moves, .downlink, .links]) e (Only.whenSome _ fun _ => Only.ite _
      (expiry_keeps (.refl _ _) fun _ => ?_) (.refl _ _))
    exact (setMove_only _ _ _).andThen (orderTo_only _ _ _)
  | stopConfirmMark m =>
    refine event_only (fs := [.moves, .links]) e (Only.whenSome _ fun _ => Only.ite _
      (expiry_keeps (.refl _ _) fun _ => ?_) (.refl _ _))
    exact (setMove_only _ _ _).andThen (notify_only _ _ _)
  | minimumHoldMark m =>
    exact event_only (fs := [.moves, .downlink, .links]) e (Only.whenSome _ fun _ =>
      Only.ite _ (endHold_only _ _) (.refl _ _))
  | offerCycleRepetition m =>
    refine event_only (fs := [.moves, .downlink, .links]) e (Only.whenSome _ fun _ => Only.ite _
      (expiry_keeps (.refl _ _) fun _ => ?_) (.refl _ _))
    exact (setMove_only _ _ _).andThen (gs := [.downlink, .links]) (Only.whenSome _ fun _ => orderTo_only _ _ _)
  | offerExpiry m =>
    refine event_only (fs := [.moves, .links]) e (Only.whenSome _ fun _ => Only.whenSome _ fun _ =>
      expiry_keeps (.refl _ _) fun _ => ?_)
    exact (setMove_only _ _ _).andThen (notify_only _ _ _)
  | takeUpDeadline c | silentCarrierDeadline c =>
    exact event_only (fs := talkFields) e (Only.whenSome _ fun _ =>
      expiry_keeps (.refl _ _) fun _ => (endGrantIdle_frame _ _ _).only)
  | overtalkExpiry c =>
    exact event_only (fs := talkFields) e (Only.whenSome _ fun _ => expiry_keeps (.refl _ _) fun _ => cutOvertalk_only _ _ _)
  | warningMark c =>
    exact event_only (fs := talkFields) e (Only.whenSome _ fun _ =>
      Only.iteFun _ (.refl _ _) (expiry_keeps (.refl _ _) fun _ => warn_only _ _ _))
  | lockoutExpiry c p => exact event_only (fs := [.floors, .links]) e ((modFloor_only _ _ _).mono (by decide))
  | hangExpiry c =>
    exact event_only (fs := talkFields) e (expiry_keeps (.refl _ _) fun _ =>
      ((endHang_frame _ _).trans (serviceDecision_frame _ _)).only)
  | foreignDetection c => exact event_only (fs := [.floors, .links]) e (expiry_keeps (.refl _ _) fun _ => detect_only _ _)
  | quietDeadline c =>
    exact event_only (fs := [.floors, .links]) e
      (expiry_keeps (.refl _ _) fun _ => (modFloor_only _ _ _).mono (by decide))
  | timeoutExpiry c p =>
    exact event_only (fs := talkFields) e (expiry_keeps (.refl _ _) fun _ => (denyEntry_frame _ _ _ _).only)
  | healthSilence p => exact event_only (fs := portFields) e (expiry_keeps (.refl _ _) fun _ => silence_only _ _)
  | restorationMark p => exact event_only (fs := portFields) e (expiry_keeps (.refl _ _) fun _ => restored_only _ _)
  | tuneDeadline p =>
    exact event_only (fs := portFields) e
      (Only.ite _ (expiry_keeps (.refl _ _) fun _ => failPort_only _ _ _) (.refl _ _))
  | testEndTime p =>
    exact event_only (fs := portFields) e (Only.whenSome _ fun _ =>
      expiry_keeps (.refl _ _) fun _ => (endTest_only _ _ _).mono (by decide))
  | offerRepetition k =>
    refine event_only (fs := [.slots, .downlink, .links]) e (Only.whenSome _ fun _ => Only.ite _ ?_ (.refl _ _))
    exact (setSlot_only _ _ _).andThen (sendOffer_only _ _)
  | confirmSpacing k =>
    refine event_only (fs := [.slots, .downlink, .links]) e (Only.whenSome _ fun _ => Only.ite _ ?_ (.refl _ _))
    exact (setSlot_only _ _ _).andThen (sendConfirm_only _ _ _)
  | lapseTimer k =>
    exact event_only (fs := [.slots, .quiet, .downlink, .links]) e (Only.whenSome _ fun _ => Only.ite _
      (expiry_keeps (.refl _ _) fun _ => freeSlot_only _ _ _ _ _) (.refl _ _))
  | stuckMark k =>
    refine event_only (fs := [.slots, .links]) e (Only.whenSome _ fun sl => Only.ite _
      (expiry_keeps (.refl _ _) fun _ => ?_) (.refl _ _))
    refine Only.andThen (fs := [.slots, .links]) ?_ (broadcast_only _ _)
    intro f hf; cases f <;> first | exact rfl | simp at hf
  | failureTimer k =>
    exact event_only (fs := [.slots, .quiet, .downlink, .links]) e (Only.whenSome _ fun _ =>
      expiry_keeps (.refl _ _) fun _ => freeSlot_only _ _ _ _ _)
  | quietListExpiry u =>
    refine event_only (fs := [.quiet, .links])
      (f := fun s => { s with quiet := s.quiet.filter (fun q => !(q.unit == u && reached s.time q.expiry)) }) e ?_
    intro f hf; cases f <;> first | exact rfl | simp at hf
  | agingExpiry u =>
    refine event_only (fs := .units :: talkFields) e (Only.whenSome _ fun _ => Only.ite _ ?_ (.refl _ _))
    exact (ageOutUnit_only _ _).andThen (serveFreed_only _ _)
  | toneStepEnd c =>
    exact event_only (fs := talkFields) e (Only.whenSome _ fun _ =>
      expiry_keeps (.refl _ _) fun _ => (stepEnds_frame _ _ _).only)
  | _ => cases noCommand

/-! ## Properties that read some fields alone -/

/-- A property of the state that two states share when they agree on some fields. -/
def ReadsOnly (fs : List Field) (P : State → Prop) : Prop := ∀ s t, (∀ f ∈ fs, s.agree t f) → P s → P t

/-- A change of other fields keeps the property. -/
theorem ReadsOnly.keeps {fs gs : List Field} {P : State → Prop} {s t : State} (reads : ReadsOnly fs P) (h : P s)
    (only : Only gs s t) (apart : ∀ f ∈ fs, f ∉ gs := by decide) : P t :=
  reads s t (fun f hf => only f (apart f hf)) h

/-- A row that may change some of the fields and is neither a command's, nor a CONSOLE_BYTE, nor a return to the initial
state. -/
def rowTouches (fs : List Field) (i : Instr) : Bool :=
  match i with
  | .powerOn | .resetAssert | .consoleByte .. => false
  | _ => (commandOf? i).isNone && fs.any (fun f => (rowFields i).contains f)

/-! ## The induction over rows -/

section
variable {P : State → Prop}

/-- R178: what a checked frame carries out keeps what every command keeps. -/
theorem runFrame_keeps (commands : ∀ link c s, P s → P (runCommand link c s).2) (link : Console) (code : Byte)
    (body : List Byte) (s : State) (h : P s) : P (runFrame link code body s).2 := by
  unfold runFrame
  cases parseCommand code body with
  | unknown => exact h
  | unfit => exact h
  | fits c => exact commands link c s h

/-- R175, R176: a received byte keeps what the commands keep and the links are not read for. -/
theorem receive_keeps {fs : List Field} (reads : ReadsOnly fs P) (apart : ∀ f ∈ fs, f ∉ [Field.links])
    (commands : ∀ link c s, P s → P (runCommand link c s).2) (link : Console) (b : Byte) (stop : Bool) (s : State)
    (h : P s) : P (receive (runFrame link) link b stop s) := by
  have ofLinks {t u : State} (ht : P t) (only : Only [.links] t u) : P u := reads.keeps ht only apart
  have discarded (cause : RejectCause) : P (discardFrame link cause s) :=
    ofLinks h ((hunt_only _ _).trans (respond_only _ _ _))
  unfold receive
  split
  · exact ite_keeps (fun _ => ofLinks h (setLink_only _ _ _)) fun _ => h
  · refine ite_keeps (fun _ => ?_) fun _ => discarded _
    refine ite_keeps (fun _ => ite_keeps (fun _ => ite_keeps (fun _ => ?_) fun _ => discarded _) fun _ => ?_)
      fun _ => discarded _
    · exact ofLinks (runFrame_keeps commands _ _ _ _ (ofLinks h (hunt_only _ _))) (respond_only _ _ _)
    · exact ofLinks h (setLink_only _ _ _)

theorem exec_keeps {fs : List Field} (reads : ReadsOnly fs P) (apart : ∀ f ∈ fs, f ∉ [Field.links, .pending, .resetLine])
    (reset : P State.reset) (commands : ∀ link c s, P s → P (runCommand link c s).2)
    (rows : ∀ i, rowTouches fs i = true → ∀ s t, P s → exec i s = .next t → P t)
    (i : Instr) {s t : State} (h : P s) (e : exec i s = .next t) : P t := by
  have linksApart : ∀ f ∈ fs, f ∉ [Field.links] := fun f hf m => apart f hf (by simp_all)
  have ofLinks {t u : State} (ht : P t) (only : Only [.links] t u) : P u := reads.keeps ht only linksApart
  have ofReset (u : State) (only : Only [.links, .pending, .resetLine] State.reset u) : P u := reads.keeps reset only apart
  cases hc : commandOf? i with
  | some x =>
    obtain ⟨link, c⟩ := x
    rw [eq_commandRow hc, exec_commandRow] at e
    refine event_keeps h (ofLinks ?_ (settle_only _)) e
    refine takeCommand_keeps h fun _ => ?_
    exact ofLinks (commands _ _ _ (ofLinks h (hunt_only _ _))) (respond_only _ _ _)
  | none =>
    by_cases power : i = .powerOn
    · subst power; cases e
      exact ofReset _ (by intro f hf; cases f <;> first | exact rfl | simp at hf)
    by_cases assert : i = .resetAssert
    · subst assert; cases e
      exact ofReset _ (by intro f hf; cases f <;> first | exact rfl | simp at hf)
    by_cases byte : ∃ l b stop, i = .consoleByte l b stop
    · obtain ⟨l, b, stop, rfl⟩ := byte
      exact event_keeps h (ofLinks (receive_keeps reads linksApart commands _ _ _ _ h) (settle_only _)) e
    have noByte : ∀ l b stop, i ≠ .consoleByte l b stop := fun l b stop hi => byte ⟨l, b, stop, hi⟩
    by_cases touches : rowTouches fs i = true
    · exact rows i touches s t h e
    · refine reads.keeps h (exec_only hc power assert noByte e) fun f hf m => touches ?_
      unfold rowTouches
      split
      · exact absurd rfl power
      · exact absurd rfl assert
      · exact absurd rfl (noByte _ _ _)
      · simpa [hc] using ⟨f, hf, m⟩

/-- Every step keeps a property that reads neither the links nor the queue of events, that holds after reset, and that the
commands and the rows that touch it keep. -/
theorem step_keeps {fs : List Field} (reads : ReadsOnly fs P) (apart : ∀ f ∈ fs, f ∉ [Field.links, .pending, .resetLine])
    (reset : P State.reset) (commands : ∀ link c s, P s → P (runCommand link c s).2)
    (rows : ∀ i, rowTouches fs i = true → ∀ s t, P s → exec i s = .next t → P t)
    {s t : State} (h : P s) (e : step s = .next t) : P t := by
  unfold step at e
  split at e
  · cases e; exact h
  · refine exec_keeps reads apart reset commands rows _ ?_ e
    have rest (q : List Instr) : Only [.links, .pending, .resetLine] s { s with pending := q } := by
      intro f hf; cases f <;> first | exact rfl | simp at hf
    exact reads.keeps h (rest _) apart

end

end Sys2Proof.Machine

/-! PROOF. The queue, power and the RESET line, and what is discarded: every row has a next state and leaves the queue alone. -/

namespace Sys2Proof.Machine

set_option Elab.async false

/-! ## Every row has a next state (log entry 1) -/

/-- R187: an event has a next state, taken or held. -/
theorem event_isNext (f : State → State) (s : State) : ∃ t, event f s = .next t := by
  unfold event
  split <;> exact ⟨_, rfl⟩

theorem exec_isNext (i : Instr) (s : State) : ∃ t, exec i s = .next t := by
  cases i with
  | powerOn | resetAssert | resetRelease => exact ⟨_, rfl⟩
  | _ => dsimp only [exec]; exact event_isNext _ _

/-- R187: while the RESET line is asserted, a row is held unless it sets the line or the power. -/
theorem exec_held {i : Instr} {s : State} (line : s.resetLine = true) (power : i ≠ .powerOn) (assert : i ≠ .resetAssert)
    (release : i ≠ .resetRelease) : exec i s = .next s := by
  cases i with
  | powerOn => exact absurd rfl power
  | resetAssert => exact absurd rfl assert
  | resetRelease => exact absurd rfl release
  | _ => dsimp only [exec]; exact event_held line

/-! ## The queue of waiting events (log entries 1 and 6) -/

theorem pending_notMem_commandFields (c : Command) : Field.pending ∉ commandFields c := by
  cases c <;> simp [commandFields]

theorem pending_notMem_rowFields (i : Instr) : Field.pending ∉ rowFields i := by
  cases i <;> simp [rowFields]

theorem readsOnly_pending (q : List Instr) : ReadsOnly [.pending] (fun s => s.pending = q) :=
  fun _ _ same h => (same .pending (.head _)).trans h

theorem exec_pending {i : Instr} {s t : State} (e : exec i s = .next t) : t.pending = s.pending := by
  have commands (l : Console) (c : Command) (u : State) (h : u.pending = s.pending) :
      (runCommand l c u).2.pending = s.pending :=
    ((runCommand_only l c u).pending (pending_notMem_commandFields c)).trans h
  cases hc : commandOf? i with
  | some x =>
    obtain ⟨link, c⟩ := x
    rw [eq_commandRow hc, exec_commandRow] at e
    refine event_keeps (Q := fun u => u.pending = s.pending) rfl ?_ e
    rw [settle_pending]
    refine takeCommand_keeps (Q := fun u => u.pending = s.pending) rfl fun _ => ?_
    rw [answerFrame, respond_pending]
    exact commands _ _ _ (hunt_pending _ _)
  | none =>
    by_cases power : i = .powerOn
    · subst power; cases e; rfl
    by_cases assert : i = .resetAssert
    · subst assert; cases e; rfl
    by_cases byte : ∃ l b stop, i = .consoleByte l b stop
    · obtain ⟨l, b, stop, rfl⟩ := byte
      refine event_keeps (Q := fun u => u.pending = s.pending) rfl ?_ e
      rw [settle_pending]
      exact receive_keeps (readsOnly_pending _) (by decide) commands l b stop s rfl
    · exact (exec_only hc power assert (fun l b stop hi => byte ⟨l, b, stop, hi⟩) e).pending (pending_notMem_rowFields i)

/-! ## The obligations -/

/-- Settles O2: the next state of each row, its queue, and the rows that are held. -/
theorem everyEventIsTakenOrHeld : Obligations.EveryEventIsTakenOrHeld := by
  unfold Obligations.EveryEventIsTakenOrHeld
  refine ⟨fun i s => ?_, fun i s line power assert release => exec_held line power assert release⟩
  obtain ⟨t, e⟩ := exec_isNext i s
  exact ⟨t, e, exec_pending e⟩

/-- Settles O1: both cases of the step. -/
theorem stepTakesTheFrontOfTheQueue : Obligations.StepTakesTheFrontOfTheQueue := by
  unfold Obligations.StepTakesTheFrontOfTheQueue
  exact fun c rest s => ⟨rfl, rfl⟩

/-- Settles O3: the initial state, record by record. -/
theorem resetLeavesTheInitialState : Obligations.ResetLeavesTheInitialState := by
  unfold Obligations.ResetLeavesTheInitialState
  refine ⟨⟨rfl, rfl, rfl⟩, by decide, rfl, fun i => ?_, rfl, fun i => ?_, rfl, fun ch => ⟨?_, ?_, ?_⟩,
    fun p => ⟨?_, ?_, ?_⟩, ⟨rfl, rfl, rfl, rfl, by decide⟩, fun c => ?_⟩
  case _ => exact Tab.get_fill _ i
  case _ => exact Tab.get_fill _ i
  case _ => exact Tab.get_fill _ ch
  case _ => exact Tab.get_fill _ ch
  case _ => exact Tab.get_fill _ ch
  case _ => exact Tab.get_fill _ p
  case _ => exact Tab.get_fill _ p
  case _ => exact Tab.get_fill _ p
  case _ =>
    have link : State.reset.link c = Link.reset := Tab.get_fill _ c
    rw [link]
    exact ⟨rfl, rfl, rfl, rfl, rfl, rfl, rfl⟩

/-- Settles O4: the three rows, and the release after an assertion. -/
theorem powerOnAndTheResetLine : Obligations.PowerOnAndTheResetLine := by
  unfold Obligations.PowerOnAndTheResetLine
  refine fun s => ⟨rfl, rfl, rfl, fun t asserted => ?_⟩
  cases asserted
  rfl

/-- Settles O52: a discarded frame or message leaves the event to the transmitters, and an unknown code is refused. -/
theorem undefinedThingsChangeNothing : Obligations.UndefinedThingsChangeNothing := by
  unfold Obligations.UndefinedThingsChangeNothing
  exact fun p bytes link code s => ⟨fun line => ⟨event_next line, event_next line⟩, fun listening => command_row listening⟩

end Sys2Proof.Machine

/-! PROOF. The state after power-on meets every invariant: a fixed state, whose tables are filled with one record each. -/

namespace Sys2Proof.Machine

set_option Elab.async false

theorem reset_move (i : MoveIx) : State.reset.move i = none := Tab.get_fill _ i
theorem reset_floor (ch : Chan) : State.reset.floor ch = Floor.reset := Tab.get_fill _ ch
theorem reset_port (p : Port) : State.reset.port p = PortRec.reset := Tab.get_fill _ p
theorem reset_testOf (p : Port) : State.reset.testOf p = none := Tab.get_fill _ p

theorem reset_oneClaim : OneClaim State.reset := by
  intro ch
  rw [reset_floor]
  exact ⟨List.nodup_nil, fun g hg => nomatch hg⟩

theorem reset_faultCountLaw : FaultCountLaw State.reset :=
  ⟨by decide, fun i _ hm => absurd ((reset_move i).symm.trans hm) nofun⟩

theorem reset_registerLaw : RegisterLaw State.reset := ⟨List.nodup_nil, fun _ hr => nomatch hr⟩

theorem reset_bindingLaw : BindingLaw State.reset :=
  ⟨fun _ => reset_move, fun i _ hm => absurd ((reset_move i).symm.trans hm) nofun, fun _ hr => nomatch hr⟩

theorem reset_testLaw : TestLaw State.reset := by
  intro p
  rw [reset_port, reset_testOf]
  simp [PortRec.reset]

theorem reset_carrierLaw : CarrierLaw State.reset := by
  simp only [CarrierLaw, Floor.carried]
  refine ⟨?_, ?_, ?_, ?_, ?_, ?_, ?_, ?_⟩ <;> decide +kernel

/-- Settles O60: each law on the initial state. -/
theorem resetMeetsTheInvariants : Obligations.ResetMeetsTheInvariants := by
  unfold Obligations.ResetMeetsTheInvariants
  refine ⟨?rooms, ?framers, ?idle, ?grants, ?gates, reset_oneClaim, ?config, reset_faultCountLaw, reset_registerLaw,
    reset_bindingLaw, reset_testLaw, reset_carrierLaw⟩
  case rooms => simp only [WithinRoom]; decide +kernel
  case framers => simp only [FramesHaveRoom]; decide +kernel
  case idle => simp only [NoIdleTransmitter]; decide +kernel
  case grants => simp only [GrantLaw]; decide +kernel
  case gates => simp only [GateLaw]; decide +kernel
  case config => simp only [ConfigLaw]; decide +kernel

end Sys2Proof.Machine

/-! PROOF. What a law of the floors needs: the operations of the Floor Controller keep it, and the events of the Move Table and
of the Register, which serve the floors that they free at their end, restore it. The operations of the Port Manager are apart. -/

namespace Sys2Proof.Machine

set_option Elab.async false

/-- A law `P` of the floors and ports that the operations of the Floor Controller keep, and the weaker law `W before` that holds
inside an event which cancels claims and ends hangs, until the event serves the floors that it has freed (R58). -/
structure TalkLaw (P : State → Prop) (W : State → State → Prop) : Prop where
  reads : ReadsOnly [.floors, .ports] P
  readsWithin : ∀ b, ReadsOnly [.floors, .ports] (W b)
  starts : ∀ {s}, P s → W s s
  cancels : ∀ {b s} ch r p, W b s → W b (cancelClaim ch r p s)
  endsHang : ∀ {b s} ch, W b s → W b (endHang ch s)
  discards : ∀ {b s} ch i, W b s → W b (discardAlerts ch i s)
  serves : ∀ {b s}, W b s → P (serveFreed b s)
  requests : ∀ {s} ch p cls, P s → P (talkOutcome ch p cls s)
  emergencies : ∀ {s} ch p, P s → P (emergencyOutcome ch p s)
  talkEnds : ∀ {s} ch p, P s → P (talkEndBy ch p s)
  alerts : ∀ {s} ch a, P s → P (requestAlert ch a s)
  grantEnds : ∀ {s} ch r, P s → P (endGrantIdle ch r s)
  cuts : ∀ {s} ch g, P s → P (cutOvertalk ch g s)
  warns : ∀ {s} ch g, (s.floor ch).grant = some g → P s → P (warn ch g s)
  unlocks : ∀ {s} ch q, P s → P (modFloor ch (fun f => { f with lockouts := f.lockouts.filter q }) s)
  hangEnds : ∀ {s} ch, P s → P (serviceDecision ch (endHang ch s))
  detects : ∀ {s} ch, P s → P (detect ch s)
  quiets : ∀ {s} ch, P s → P (modFloor ch (fun f => { f with episodeOpen := false, quiet := none }) s)
  denies : ∀ {s} ch p r, P s → P (denyEntry ch p r s)
  toneSteps : ∀ {s} ch g, P s → P (stepEnds ch g s)
  hears : ∀ {s} ch b u, P s → P (modFloorTested ch (Floor.hears s.time b u) s)

/-- A law of the floors alone, which the operations of the Port Manager keep too. -/
structure FloorLaw (P : State → Prop) (W : State → State → Prop) : Prop extends TalkLaw P W where
  readsFloors : ReadsOnly [.floors] P
  reset : P State.reset
  loses : ∀ {s t} ch, P s → P (modFloor ch (Floor.losesCarrier t) s)
  transfers : ∀ {s} ch, P s → P (enterTransfer ch s)
  opens : ∀ {s} ch, P s → P (openTransfer ch s)
  leaves : ∀ {s} ch, P s → P (leaveTransfer ch s)
  closes : ∀ {s} ch, P s → P (closeFloor ch s)
  carries : ∀ {s} ch, P s → P (modFloor ch (fun f => if f.state = .off then { f with state := .idle } else f) s)

namespace TalkLaw

variable {P : State → Prop} {W : State → State → Prop} (law : TalkLaw P W) {s : State}
include law

/-! ## Events that free floors (R21, R58, R114) -/

theorem endsHangsFor {b : State} (r : Reservation) (chs : List Chan) (h : W b s) : W b (endHangsFor r chs s) :=
  forEach_keeps _ (fun ch _ _ ht => ite_keeps (fun _ => law.endsHang ch ht) fun _ => ht) _ h

theorem cancelsClaims {b : State} (ch : Chan) (r : AirReason) (u : UnitId) (h : W b s) : W b (cancelClaims ch r u s) :=
  law.cancels _ _ _ (law.cancels _ _ _ h)

theorem freesMove {b : State} (leaves : Member → Bool) (i : MoveIx) (m : Move) (h : W b s) :
    W b (freeMove leaves i m s) := by
  refine (law.readsWithin b).keeps ?_ (setMove_only _ _ _)
  refine (law.readsWithin b).keeps ?_ (Only.forEach (fs := [.units]) _ (fun _ _ _ => unbindUnit_only _ _) _)
  refine (law.readsWithin b).keeps ?_ (Only.forEach (fs := [.downlink, .links]) _ (fun _ _ _ => orderTo_only _ _ _) _)
  exact law.endsHangsFor _ _ (forEach_keeps _ (fun u _ _ ht => law.cancelsClaims _ _ _ ht) _ (law.discards _ _ h))

theorem removesHandset {b : State} (leave : Bool) (i : MoveIx) (u : UnitId) (h : W b s) :
    W b (removeHandset leave i u s) := by
  unfold removeHandset
  split
  · exact h
  · refine (law.readsWithin b).keeps ?_ (unbindUnit_only _ _)
    refine (law.readsWithin b).keeps ?_ (modMove_only _ _ _)
    refine (law.readsWithin b).keeps ?_
      (Only.iteFun (fs := [.downlink, .links]) _ (orderTo_only _ _ _) (.refl _ _))
    refine (law.readsWithin b).keeps (law.cancelsClaims _ _ _ h)
      (Only.iteFun (fs := [.moves, .links]) _ (cancelHandover_only _ _ _) (.refl _ _))

theorem removesRecord {b : State} (keep : Bool) (u : UnitId) (h : W b s) : W b (removeRecord keep u s) := by
  have cancelled := law.endsHangsFor (.party (.unit u)) allChans
    (forEach_keeps allChans (fun ch _ _ ht => law.cancels ch .unregistered (.unit u) ht) _ h)
  cases keep with
  | true => exact cancelled
  | false => exact (law.readsWithin b).keeps cancelled (units_only _ _)

theorem agesOut {b : State} (u : UnitId) (h : W b s) : W b (ageOutUnit u s) := by
  unfold ageOutUnit
  split
  · exact h
  · exact (law.readsWithin b).keeps (law.removesRecord _ _ h) (broadcast_only _ _)

theorem agesOutAll {b : State} (h : W b s) : W b (ageOutAll s) :=
  forEach_keeps _ (fun _ _ _ ht => law.agesOut _ ht) _ h

theorem freesSlot {b : State} (i : SlotIx) (sl : Slot) (c : EnrolCause) (r : Option AirReason) (h : W b s) :
    W b (freeSlot i sl c r s) :=
  (law.readsWithin b).keeps h (freeSlot_only _ _ _ _ _)

theorem addsRecord {b : State} (i : SlotIx) (sl : Slot) (h : W b s) : W b (addRecord i sl s) :=
  (law.readsWithin b).keeps h ((units_only _ _).andThen (hs := [.units, .slots, .quiet, .downlink, .links])
    (reportAdmitted_only _ _ _ _))

theorem admits (i : SlotIx) (sl : Slot) (h : P s) : P (admitUnit i sl s) := by
  have within := law.starts h
  refine law.serves ?_
  split
  · refine ite_keeps (fun _ => law.freesSlot _ _ _ _ within) fun _ => ?_
    refine (law.readsWithin s).keeps (gs := [.units, .slots, .quiet, .downlink, .links]) (law.removesRecord true sl.unit within) ?_
    exact (modUnit_only _ _ _).andThen (reportAdmitted_only _ _ _ _)
  · refine ite_keeps (fun _ => law.addsRecord _ _ within) fun _ => ?_
    split
    · exact law.addsRecord _ _ ((law.readsWithin s).keeps (law.removesRecord _ _ within) (broadcast_only _ _))
    · exact law.freesSlot _ _ _ _ within

theorem releases (n : NoticeBody) (i : MoveIx) (m : Move) (h : P s) : P (release n i m s) :=
  law.serves ((law.readsWithin s).keeps (law.freesMove _ _ _ (law.starts h)) (notify_only _ _ _))

theorem formingDeadlines (i : MoveIx) (m : Move) (h : P s) : P (serveFreed s (formingEnds i m s)) := by
  refine law.serves (ite_keeps (fun _ => ?_) fun _ => ?_)
  · exact (law.readsWithin s).keeps (law.freesMove _ _ _ (law.starts h)) (notify_only _ _ _)
  · refine (law.readsWithin s).keeps ?_ ((modMove_only _ _ _).andThen (hs := [.moves, .links]) (notify_only _ _ _))
    exact forEach_keeps _ (fun u _ _ ht => law.removesHandset _ _ _ ht) _ (law.starts h)

theorem joins (u : UnitId) (move ch : Byte) (h : P s) : P (joinedBy u move ch s) := by
  refine whenSome_keeps h fun i _ => whenSome_keeps h fun m _ => whenSome_keeps h fun e _ => ite_keeps (fun _ => ?_) fun _ => h
  refine law.serves ((law.readsWithin s).keeps ?_ (lastJoined_only _ _))
  have set : W s (setMove i (some (m.modMember u (fun e => { e with joined := true, addDeadline := none }))) s) :=
    (law.readsWithin s).keeps (law.starts h) (setMove_only _ _ _)
  exact ite_keeps (fun _ => set) fun _ => (law.readsWithin s).keeps (law.cancels _ _ _ set) (modUnit_only _ _ _)

theorem movesToChannel (i : MoveIx) (m : Move) (ch : Chan) (h : P s) : P (serveFreed s (moveToChannel i m ch s)) := by
  refine law.serves ((law.readsWithin s).keeps ?_ (orderJoins_only _ _ _ _))
  refine (law.readsWithin s).keeps (law.discards _ _ ?_) ((cancelHandover_only _ _ _).andThen (hs := [.moves, .links])
    (modMove_only _ _ _))
  exact law.endsHangsFor _ _ (forEach_keeps _ (fun u _ _ ht => law.cancels _ _ _ ht) _ (law.starts h))

/-! ## Faults (R79, R82) -/

theorem reportsFault (i : MoveIx) (k : FaultKind) (m : Move) (h : P s) : P (reportFault i k m s) := by
  have only (t : State) : Only [.moves, .links] t (reportUndeliverable i m (notify m.console (.supervisionFault i k (m.countAfter k)
      (m.pendingAfter k) (alertFate (stopAlert s.time i) (s.floor m.channel).alerts)) (cancelHandover i .fault t))) :=
    ((cancelHandover_only _ _ _).andThen (hs := [.moves, .links]) (notify_only _ _ _)).andThen (reportUndeliverable_only _ _ _)
  exact law.reads.keeps (law.alerts m.channel (stopAlert s.time i) h) (only _)

theorem raisesFault (i : MoveIx) (k : FaultKind) (h : P s) : P (raiseFault i k s) := by
  unfold raiseFault
  split
  · exact h
  · refine law.reportsFault _ _ _ (law.reads.keeps (gs := [.moves, .downlink, .links]) h ?_)
    exact (setMove_only _ _ _).andThen (orderTo_only _ _ _)

theorem crewStops (i : MoveIx) (h : P s) : P (crewStop i s) := by
  unfold crewStop
  split
  · exact h
  · refine ite_keeps (fun _ => ?_) fun _ => h
    split
    iterate 4 exact law.raisesFault _ _ h
    iterate 2 exact h

/-! ## SET_GLOBAL (R191) -/

theorem setsGlobals (f : GlobalFields) (h : P s) : P (setGlobals f s) := by
  have applied : Only [.globals] s { s with globals := s.globals.withFields f } := by
    intro f hf; cases f <;> first | exact rfl | simp at hf
  exact iteFun_keeps (fun _ => law.serves (law.agesOutAll ((law.readsWithin s).keeps (law.starts h) applied)))
    fun _ => law.reads.keeps h applied

end TalkLaw

namespace FloorLaw

variable {P : State → Prop} {W : State → State → Prop} (law : FloorLaw P W) {s : State}
include law

/-! ## Ports (R139 to R149) -/

theorem takesUp (p : Port) (h : P s) : P (takeUpClosed p s) := by
  refine ite_keeps (fun _ => whenSome_keeps h fun ch _ => ?_) fun _ => h
  exact law.readsFloors.keeps (law.opens ch (law.readsFloors.keeps h (tuneTo_only _ _ _ _))) (reportTransfer_only _ _ _ _)

theorem closesChannel (ch : Chan) (h : P s) : P (closeChannel ch s) :=
  law.readsFloors.keeps (law.closes ch h) (((setFrames_only _ _ _).andThen (hs := [.downlink, .links]) (tellClosure_only _ _)).andThen
    (hs := [.downlink, .links]) ((latchAll_only _ _ _).trans (broadcast_only _ _)))

theorem seeks {enter : Port → State → State} {closing : State → State} (ch : Chan)
    (enters : ∀ q t, P t → P (enter q t)) (closed : P (closing s)) (h : P s) : P (spareSearch enter closing ch s) := by
  unfold spareSearch
  split
  · exact closed
  · exact law.readsFloors.keeps (enters _ _ (law.readsFloors.keeps h (abortTest_only _ _ _))) (tuneTo_only _ _ _ _)

theorem losesPort (p : Port) (r : PortRec) (c : SwapCause) {shut : State → State}
    (only : ∀ t, Only [.ports, .sent] t (shut t)) (h : P s) : P (portLost p r c shut s) := by
  unfold portLost
  split
  · refine whenSome_keeps h fun ch _ => ?_
    have shutted := law.readsFloors.keeps h (only s)
    have entered (q : Port) (t : State) (ht : P t) : P (reportTransfer ch (some p) (some q) (enterTransfer ch t)) :=
      law.readsFloors.keeps (law.transfers ch ht) (reportTransfer_only _ _ _ _)
    unfold loseCarrier
    split
    · exact law.readsFloors.keeps (entered _ _ shutted) ((modPort_only _ _ _).andThen (hs := [.ports, .links]) (broadcast_only _ _))
    · exact law.seeks ch entered (law.closesChannel ch shutted) shutted
  · refine whenSome_keeps h fun ch _ => ite_keeps (fun _ => law.readsFloors.keeps h (broadcast_only _ _)) fun _ => ?_
    exact law.seeks ch (fun _ _ ht => ht) (law.closesChannel ch h) h
  · exact law.readsFloors.keeps h (abortTest_only _ _ _)
  all_goals exact h

theorem failsPort (p : Port) (c : FailCause) (h : P s) : P (failPort p c s) :=
  law.losesPort _ _ _ (fun _ => shutPort_only _ _) (law.readsFloors.keeps h (portTo_only _ _ _ _ _))

theorem isolates (p : Port) (h : P s) : P (isolate p s) :=
  law.losesPort _ _ _ (fun _ => .refl _ _) (law.readsFloors.keeps h (portTo_only _ _ _ _ _))

theorem takesHealth (p : Port) (k : Health) (h : P s) : P (takeHealth p k s) := by
  have recorded : P (modPort p (fun r => { r with lastHealth := some s.time, status := some k }) s) :=
    law.readsFloors.keeps h (modPort_only _ _ _)
  have healthyReport (old : Option Health) (t : State) (ht : P t) : P (healthy p old k t) := by
    unfold healthy
    split
    · exact law.takesUp _ (law.readsFloors.keeps ht (portTo_only _ _ _ _ _))
    · exact law.readsFloors.keeps ht (modPort_only _ _ _)
    iterate 4 exact law.readsFloors.keeps ht (stillHealthy_only _ _ _ _)
    · exact ht
  cases k with
  | ok | degraded => exact healthyReport _ _ recorded
  | fault => exact ite_keeps (fun _ => law.readsFloors.keeps recorded (modPort_only _ _ _)) fun _ => law.failsPort _ _ recorded

theorem silences (p : Port) (h : P s) : P (silence p s) := by
  unfold silence
  split
  iterate 4 exact law.failsPort _ _ h
  · exact law.readsFloors.keeps h (modPort_only _ _ _)
  all_goals exact h

theorem restores (p : Port) (h : P s) : P (restored p s) :=
  ite_keeps (fun _ => law.takesUp _ (law.readsFloors.keeps h (portTo_only _ _ _ _ _))) fun _ => h

theorem becomesCarrier (p : Port) (ch : Chan) (h : P s) : P (becomeCarrier p ch s) :=
  law.readsFloors.keeps h ((portTo_only _ _ _ _ _).andThen (hs := [.ports, .links, .sent]) (servePort_only _ _ _))

theorem isTuned (p : Port) (ch : Chan) (u : TunePurpose) (h : P s) : P (tuned p ch u s) := by
  have carried := law.becomesCarrier p ch h
  unfold tuned
  split
  · refine whenSome_keeps h fun former _ => law.takesUp _ ?_
    refine law.readsFloors.keeps (law.loses ch ?_) ((latchAll_only _ _ _).trans (broadcast_only _ _))
    exact law.readsFloors.keeps carried ((portTo_only _ _ _ _ _).andThen (hs := [.ports, .links, .sent]) (shutPort_only _ _))
  iterate 2 exact law.readsFloors.keeps (law.leaves ch carried) (broadcast_only _ _)

theorem endsTest (p : Port) (t : TestRec) (h : P s) : P (endTest p t s) := by
  refine law.takesUp _ (law.readsFloors.keeps h (gs := [.tests, .ports, .links, .sent, .downlink]) ?_)
  refine Only.andThen (fs := [.tests, .ports, .links, .sent, .downlink]) ?_ (broadcast_only _ _)
  refine Only.andThen (fs := [.tests, .links, .sent, .downlink]) ?_ (portTo_only _ _ _ _ _)
  have finished : Only [.tests, .links, .downlink] s (echoOff p t (setTest p (some (t.finished s.time .done none)) s)) :=
    (setTest_only _ _ _).andThen (echoOff_only _ _ _)
  generalize echoOff p t _ = u at finished ⊢
  cases t.mode with
  | loc => exact finished.mono (by decide)
  | unit | remote => exact finished.andThen (send_only _ _ _)

/-! ## The part (R146, R188, R191) -/

theorem placesChannels (h : P s) : P (placeChannels s) := by
  unfold placeChannels
  refine forEach_keeps _ (fun x _ t ht => ?_) _ (forEach_keeps _ (fun x _ t ht => ?_) _ (forEach_keeps _ (fun x _ t ht => ?_) _
    (forEach_keeps _ (fun x _ t ht => law.readsFloors.keeps ht (abortTest_only _ _ _)) _ h)))
  · have entered (o : Option Port) (u : State) (hu : P u) : P (reportTransfer x.1 none o (openTransfer x.1 u)) :=
      law.readsFloors.keeps (law.opens _ hu) (reportTransfer_only _ _ _ _)
    exact law.seeks _ (fun q => entered (some q)) (law.closesChannel _ (entered none _ ht)) ht
  · refine law.readsFloors.keeps (law.opens _ (law.readsFloors.keeps (gs := [.ports, .links, .sent]) ht ?_)) (reportTransfer_only _ _ _ _)
    exact (modPort_only _ _ _).andThen (tuneTo_only _ _ _ _)
  · refine law.carries _ (law.readsFloors.keeps (gs := [.ports, .links, .sent]) ht ?_)
    exact ((portTo_only _ _ _ _ _).andThen (hs := [.ports, .links, .sent]) (send_only _ _ _)).andThen (servePort_only _ _ _)

end FloorLaw

end Sys2Proof.Machine

/-! PROOF. A law that the floor operations keep (`TalkLaw`, `FloorLaw`) through the commands, the rows and so every step. -/

namespace Sys2Proof.Machine

set_option Elab.async false

theorem restart_floors (s : State) : (restart s).floors = State.reset.floors := by
  have ports : Only [.ports, .links, .sent] (clearAll s) (forEach allPorts restartPort (clearAll s)) :=
    Only.forEach allPorts (fun p _ t => restartPort_only p t) _
  unfold restart
  generalize forEach allPorts restartPort (clearAll s) = u at ports
  exact ports.floors.trans rfl

theorem startPlay_only (ch : Chan) (m : PlayMode) (pat : PatternIx) (s : State) : Only [.generators] s (startPlay ch m pat s) := by
  unfold startPlay
  split
  · intro f hf; cases f <;> first | exact rfl | simp at hf
  · exact .refl _ _

/-- The commands that act on floors, and on no port but by the gates. -/
def servesFloors : Command → Bool
  | .setGlobal .. | .removeMember .. | .moveChannel .. | .releaseMove .. | .talkRequest .. | .talkEnd .. | .play .. => true
  | _ => false

namespace TalkLaw

variable {P : State → Prop} {W : State → State → Prop} (law : TalkLaw P W) {s : State}
include law

theorem talkCommands (link : Console) (c : Command) (talk : servesFloors c = true) (s : State) (h : P s) :
    P (runCommand link c s).2 := by
  cases c with
  | setGlobal f => exact check_keeps h fun _ => check_keeps h fun _ => check_keeps h fun _ => law.setsGlobals _ h
  | removeMember m u =>
    exact moveCommand_keeps h fun _ _ _ _ _ => check_keeps h fun _ => check_keeps h fun _ => check_keeps h fun _ =>
      check_keeps h fun _ => law.serves (law.removesHandset _ _ _ (law.starts h))
  | moveChannel m ch =>
    exact look_keeps (moveCommand_keeps h fun _ _ _ _ _ => check_keeps h fun _ => need_keeps h fun _ _ => check_keeps h fun _ =>
      noneOf_keeps h fun _ => law.movesToChannel _ _ _ h)
  | releaseMove m =>
    refine moveCommand_keeps h fun _ _ _ _ _ => iteFun_keeps (fun _ => ?_) fun _ => law.releases _ _ _ h
    exact law.reads.keeps h (enterReleasing_only _ _ _)
  | talkRequest ch cls =>
    refine check_keeps h fun _ => need_keeps h fun k _ => need_keeps h fun _ _ => check_keeps h fun _ => ?_
    cases k with
    | emergency => exact law.emergencies _ _ h
    | routine | work | urgent =>
      exact ite_keeps (fun _ => law.reads.keeps h (answer_only _ _ _ _)) fun _ => law.requests _ _ _ h
  | talkEnd ch => exact check_keeps h fun _ => need_keeps h fun _ _ => check_keeps h fun _ => law.talkEnds _ _ h
  | play ch pat mode =>
    refine check_keeps h fun _ => need_keeps h fun ch _ => need_keeps h fun pat _ => check_keeps h fun _ => ?_
    split
    · exact check_keeps h fun _ => law.alerts _ _ h
    · split
      · refine check_keeps h fun _ => check_keeps h fun _ => ?_
        exact law.reads.keeps h (startPlay_only _ _ _ _)
      · exact h
  | _ => cases talk

/-- The rows that act on floors and not on the tests, which the Port Manager's rows do. -/
theorem talkRows (i : Instr) (touches : rowTouches [.floors] i = true) (talk : rowTouches [.tests] i = false) (s t : State)
    (h : P s) (e : exec i s = .next t) : P t := by
  have refreshed (u : UnitId) : P (refresh u s) := law.reads.keeps h (refresh_only _ _)
  have settled {f : State → State} (e : event f s = .next t) (k : P (f s)) : P t :=
    event_keeps h (law.reads.keeps k (settle_only _)) e
  cases i <;> cases touches <;> cases talk
  all_goals dsimp only [exec] at e
  case carrierReport p b u => exact settled e (whenSome_keeps h fun _ _ => law.hears _ _ _ h)
  case slotReady p =>
    refine settled e (whenSome_keeps h fun ch _ => whenSome_keeps h fun f _ => ?_)
    have handed : P (send p (.air f) (setFrames ch (withoutHead (s.frames ch)) s)) :=
      law.reads.keeps h ((setFrames_only _ _ _).andThen (hs := [.downlink, .sent]) (send_only _ _ _))
    refine ite_keeps (fun _ => ?_) fun _ => handed
    exact whenSome_keeps handed fun _ _ => ite_keeps (fun _ => law.admits _ _ handed) fun _ => handed
  case talkReq p u c =>
    refine settled e (arrives_keeps h fun ch _ _ _ _ => ?_)
    unfold talkReqBy
    split
    iterate 2 exact refreshed u
    · refine ite_keeps (fun _ => law.reads.keeps (refreshed u) (answer_only _ _ _ _)) fun _ => ?_
      exact ite_keeps (fun _ => law.reads.keeps (refreshed u) (answer_only _ _ _ _)) fun _ => law.requests _ _ _ (refreshed u)
  case talkEndFrame p u => exact settled e (arrives_keeps h fun _ _ _ _ _ => law.talkEnds _ _ (refreshed u))
  case emergency p u =>
    refine settled e (arrives_keeps h fun ch _ _ _ _ => ?_)
    have answered := ite_keeps (c := (refresh u s).currentOf u ≠ ch)
      (fun _ => law.reads.keeps (refreshed u) (answer_only ch (.unit u) (.denied .emergency .wrongChannel) _))
      (fun _ => law.emergencies ch (.unit u) (refreshed u))
    exact whenSome_keeps answered fun _ _ => law.crewStops _ answered
  case presence p u m =>
    refine settled e (arrives_keeps h fun _ _ _ _ _ => forMove_keeps (refreshed u) fun i m _ _ _ => ?_)
    have set (x : Option Move) : P (setMove i x (refresh u s)) := law.reads.keeps (refreshed u) (setMove_only _ _ _)
    refine ite_keeps (fun _ => ?_) fun _ => refreshed u
    split
    · exact ite_keeps (fun _ => law.raisesFault _ _ (refreshed u)) fun _ => set _
    · exact set _
    all_goals exact refreshed u
  case stopAck p u m =>
    refine settled e (arrives_keeps h fun _ _ _ _ _ => forMove_keeps (refreshed u) fun i m _ _ _ => ?_)
    refine ite_keeps (fun _ => ?_) fun _ => refreshed u
    split
    · exact law.reads.keeps (refreshed u) (confirmStop_only _ _ _)
    · exact law.releases _ _ _ (refreshed u)
    all_goals exact refreshed u
  case joined p u m c => exact settled e (arrives_keeps h fun _ _ _ _ _ => law.joins _ _ _ (refreshed u))
  case formingDeadline m =>
    exact settled e (whenSome_keeps h fun _ _ => expiry_keeps h fun _ =>
      ite_keeps (fun _ => h) fun _ => law.formingDeadlines _ _ h)
  case releaseDeadline m =>
    exact settled e (whenSome_keeps h fun _ _ => expiry_keeps h fun _ => law.releases _ _ _ h)
  case windowDeadline m =>
    exact settled e (whenSome_keeps h fun _ _ => ite_keeps (fun _ => expiry_keeps h fun _ => law.raisesFault _ _ h) fun _ => h)
  case takeUpDeadline c => exact settled e (whenSome_keeps h fun _ _ => expiry_keeps h fun _ => law.grantEnds _ _ h)
  case silentCarrierDeadline c => exact settled e (whenSome_keeps h fun _ _ => expiry_keeps h fun _ => law.grantEnds _ _ h)
  case overtalkExpiry c => exact settled e (whenSome_keeps h fun _ _ => expiry_keeps h fun _ => law.cuts _ _ h)
  case warningMark c =>
    exact settled e (whenSome_keeps h fun _ hg => iteFun_keeps (fun _ => h) fun _ => expiry_keeps h fun _ => law.warns _ _ hg h)
  case lockoutExpiry c p => exact settled e (law.unlocks _ _ h)
  case hangExpiry c => exact settled e (expiry_keeps h fun _ => law.hangEnds _ h)
  case foreignDetection c => exact settled e (expiry_keeps h fun _ => law.detects _ h)
  case quietDeadline c => exact settled e (expiry_keeps h fun _ => law.quiets _ h)
  case timeoutExpiry c p => exact settled e (expiry_keeps h fun _ => law.denies _ _ _ h)
  case agingExpiry u =>
    exact settled e (whenSome_keeps h fun _ _ => ite_keeps (fun _ => law.serves (law.agesOut _ (law.starts h))) fun _ => h)
  case toneStepEnd c => exact settled e (whenSome_keeps h fun _ _ => expiry_keeps h fun _ => law.toneSteps _ _ h)

end TalkLaw

namespace FloorLaw

variable {P : State → Prop} {W : State → State → Prop} (law : FloorLaw P W) {s : State}
include law

theorem commands (link : Console) (c : Command) (s : State) (h : P s) : P (runCommand link c s).2 := by
  have apart (far : ∀ f ∈ [Field.floors], f ∉ commandFields c) : P (runCommand link c s).2 :=
    law.readsFloors.keeps h (runCommand_only link c s) far
  cases c with
  | setGlobal | removeMember | moveChannel | releaseMove | talkRequest | talkEnd | play => exact law.talkCommands _ _ rfl _ h
  | enterService =>
    refine check_keeps h fun _ => ?_
    have service : Only [.part] s { s with part := .service } := by
      intro f hf; cases f <;> first | exact rfl | simp at hf
    cases planFault s with
    | some x => exact h
    | none => exact law.placesChannels (law.readsFloors.keeps h service)
  | restart =>
    refine check_keeps h fun _ => ?_
    refine law.readsFloors State.reset _ (fun f hf => ?_) law.reset
    obtain rfl := List.mem_singleton.1 hf
    exact restart_floors s
  | isolatePort p => exact need_keeps h fun _ _ => iteFun_keeps (fun _ => h) fun _ => law.isolates _ h
  | stopTest p => exact need_keeps h fun _ _ => need_keeps h fun _ _ => law.endsTest _ _ h
  | _ => exact apart (by simp [commandFields])

theorem rows (i : Instr) (touches : rowTouches [.floors] i = true) (s t : State) (h : P s) (e : exec i s = .next t) :
    P t := by
  have portRows (tests : rowTouches [.tests] i = true) : P t := by
    have settled {f : State → State} (e : event f s = .next t) (k : P (f s)) : P t :=
      event_keeps h (law.reads.keeps k (settle_only _)) e
    cases i <;> cases touches <;> cases tests
    all_goals dsimp only [exec] at e
    case healthReport p st => exact settled e (ite_keeps (fun _ => h) fun _ => whenSome_keeps h fun _ _ => law.takesHealth _ _ h)
    case healthSilence p => exact settled e (expiry_keeps h fun _ => law.silences _ h)
    case restorationMark p => exact settled e (expiry_keeps h fun _ => law.restores _ h)
    case tuned p =>
      exact settled e (ite_keeps (fun _ => whenSome_keeps h fun _ _ => whenSome_keeps h fun _ _ => law.isTuned _ _ _ h)
        fun _ => h)
    case tuneDeadline p =>
      exact settled e (ite_keeps (fun _ => expiry_keeps h fun _ => law.failsPort _ _ h) fun _ => h)
    case testEndTime p => exact settled e (whenSome_keeps h fun _ _ => expiry_keeps h fun _ => law.endsTest _ _ h)
  cases tests : rowTouches [.tests] i with
  | false => exact law.talkRows i touches tests s t h e
  | true => exact portRows tests

/-- Every step keeps a law of the floors. -/
theorem step {t : State} (h : P s) (e : Machine.step s = .next t) : P t :=
  step_keeps law.readsFloors (by decide) law.reset law.commands law.rows h e

end FloorLaw

end Sys2Proof.Machine

/-! PROOF. Laws of one floor record: what a law that reads a floor's claims alone (`Floor.claims`) must allow, so that every
operation of the Floor Controller keeps it on every floor (`ClaimLaw.floorLaw`). -/

namespace Sys2Proof.Machine

set_option Elab.async false

/-! ## The claims on a floor -/

/-- What the laws of a floor read: whether the floor is GRANTED, directly or as its held state, who holds the grant, for whom the
gate is open, which parties wait, and how long the two other lists are. -/
structure Claims where
  granted : Prop
  holder : Option Party
  gate : Option Party
  waiting : List Party
  lockouts : Nat
  alerts : Nat

/-- The claims on a floor (R26, R34, R41, R53, R54, R167). -/
def Floor.claims (f : Floor) : Claims where
  granted := f.effective = .granted
  holder := f.grant.map (·.holder)
  gate := f.gate
  waiting := f.queue.map (·.party)
  lockouts := f.lockouts.length
  alerts := f.alerts.length

/-- What the claims on a floor are, read off its fields. -/
theorem Floor.claims_eq {f : Floor} {c : Claims} (state : f.effective = .granted ↔ c.granted)
    (holder : f.grant.map (·.holder) = c.holder) (gate : f.gate = c.gate) (waiting : f.queue.map (·.party) = c.waiting)
    (lockouts : f.lockouts.length = c.lockouts) (alerts : f.alerts.length = c.alerts) : f.claims = c := by
  cases c
  simp only [Floor.claims, holder, gate, waiting, lockouts, alerts, propext state]

@[simp] theorem Floor.retest_claims (was : Bool) (now : Time) (f : Floor) : (f.retest was now).claims = f.claims := by
  simp [Floor.claims]

@[simp] theorem Floor.claims_holder_isSome (f : Floor) : f.claims.holder.isSome = f.grant.isSome := by simp [Floor.claims]

theorem Floor.claims_holder_eq_none {f : Floor} : f.claims.holder = none ↔ f.grant = none := by simp [Floor.claims]

theorem Floor.heldBy_iff {f : Floor} {p : Party} : f.heldBy p = true ↔ f.claims.holder = some p := by
  simp [Floor.heldBy, Floor.claims]

theorem entryOf_eq_none {p : Party} {f : Floor} : entryOf p f.queue = none ↔ p ∉ f.claims.waiting := by
  simp [entryOf, Floor.claims]

theorem withoutParty_parties (p : Party) (q : List Entry) :
    (withoutParty p q).map (·.party) = (q.map (·.party)).filter (· != p) := by
  simp only [withoutParty, List.filter_map]; rfl

theorem withoutParty_sublist (p : Party) (q : List Entry) : ((withoutParty p q).map (·.party)).Sublist (q.map (·.party)) :=
  List.filter_sublist.map _

/-! ## What a law of the claims must allow -/

/-- A law of the claims on a floor. The law with `stale` is the weaker one that holds while an event has ended a grant and has
not yet closed the gate (R40 step 3). -/
structure ClaimLaw (L : Bool → Claims → Prop) : Prop where
  weakens : ∀ {c}, L false c → L true c
  reset : L false Floor.reset.claims
  shrinks : ∀ {b c} w n m, w.Sublist c.waiting → (n ≤ c.lockouts ∨ n ≤ 8) → (m ≤ c.alerts ∨ m ≤ 4) → L b c →
    L b { c with waiting := w, lockouts := n, alerts := m }
  waits : ∀ {b c} w p, w.Sublist c.waiting → (w.length < 8 ∨ w.length < c.waiting.length) → p ∉ c.waiting → c.holder ≠ some p →
    L b c → L b { c with waiting := w ++ [p] }
  grants : ∀ {b c} b' p, L b c → L b' { c with granted := True, holder := some p, gate := some p, waiting := c.waiting.filter (· != p) }
  ends : ∀ {b c}, L b c → L true { c with granted := False, holder := none }
  plays : ∀ {b c} b', (¬ c.granted ∨ c.holder = none) → L b c → L b' { c with granted := False, gate := none }
  settles : ∀ {b c}, L b c → L false (if c.holder = none then { c with gate := none } else c)
  empties : ∀ {b c}, L b c → L false { c with granted := False, holder := none, gate := none, waiting := [] }

/-- The law on every floor. -/
def OnFloors (L : Bool → Claims → Prop) (s : State) : Prop := ∀ ch, L false (s.floor ch).claims

/-- The law on every floor inside an event that began in `before`: where a grant stood then, its gate may still be open; and no
grant has been issued. -/
def OnFloorsWithin (L : Bool → Claims → Prop) (before s : State) : Prop :=
  ∀ ch, L (before.floor ch).grant.isSome (s.floor ch).claims ∧ ((s.floor ch).grant.isSome = true → (before.floor ch).grant.isSome = true)

theorem OnFloors.of_frame {L : Bool → Claims → Prop} {ch : Chan} {s t : State} (h : OnFloors L s) (frame : TalkFrame ch s t)
    (own : L false (s.floor ch).claims → L false (t.floor ch).claims) : OnFloors L t := fun c =>
  if e : c = ch then e ▸ own (h ch) else by rw [(frame.2.1 c e).1]; exact h c

theorem OnFloorsWithin.of_frame {L : Bool → Claims → Prop} {ch : Chan} {b s t : State} (h : OnFloorsWithin L b s)
    (frame : TalkFrame ch s t)
    (own : L (b.floor ch).grant.isSome (s.floor ch).claims → ((s.floor ch).grant.isSome = true → (b.floor ch).grant.isSome = true) →
      L (b.floor ch).grant.isSome (t.floor ch).claims ∧ ((t.floor ch).grant.isSome = true → (s.floor ch).grant.isSome = true)) :
    OnFloorsWithin L b t := fun c => by
  by_cases e : c = ch
  · subst e
    exact ⟨(own (h c).1 (h c).2).1, fun g => (h c).2 ((own (h c).1 (h c).2).2 g)⟩
  · rw [(frame.2.1 c e).1]; exact h c

theorem ReadsOnly.mono {fs gs : List Field} {P : State → Prop} (reads : ReadsOnly fs P) (sub : ∀ f ∈ fs, f ∈ gs) : ReadsOnly gs P :=
  fun s t agree h => reads s t (fun f hf => agree f (sub f hf)) h

theorem OnFloors.reads (L : Bool → Claims → Prop) : ReadsOnly [.floors] (OnFloors L) := fun s t agree h ch => by
  have floors : t.floors = s.floors := agree .floors (by simp)
  exact (congrArg (fun v => L false (Tab.get v ch).claims) floors).mpr (h ch)

theorem OnFloorsWithin.reads (L : Bool → Claims → Prop) (b : State) : ReadsOnly [.floors] (OnFloorsWithin L b) :=
  fun s t agree h ch => by
    have floors : t.floors = s.floors := agree .floors (by simp)
    have floor : t.floor ch = s.floor ch := congrArg (Tab.get · ch) floors
    rw [floor]; exact h ch

end Sys2Proof.Machine

/-! PROOF. Every operation of the Floor Controller keeps a law of the claims (`ClaimLaw`) on its floor, and so on every floor. -/

namespace Sys2Proof.Machine

set_option Elab.async false

/-! ## Queues and lists -/

theorem weakestEntry_mem {now : Time} {step : Nat} {q : List Entry} {w : Entry} (h : weakestEntry now step q = some w) : w ∈ q := by
  have fold (l : List Entry) (o : Option Entry) (e : l.foldl (fun w e => match w with
      | none => some e
      | some x => if rank now step e ≤ rank now step x then some e else some x) o = some w) : w ∈ l ∨ o = some w := by
    induction l generalizing o with
    | nil => exact .inr e
    | cons x l ih =>
      rcases ih _ e with m | m
      · exact .inl (by simp [m])
      · cases o with
        | none => cases m; exact .inl (by simp)
        | some y =>
          dsimp only at m
          split at m
          · cases m; exact .inl (by simp)
          · exact .inr m
  rcases fold q none h with m | m
  · exact m
  · cases m

theorem displacedBy_eq_some {now : Time} {step : Nat} {cls : TalkClass} {q : List Entry} {w : Entry}
    (h : displacedBy now step cls q = some w) : w ∈ q := by
  unfold displacedBy at h
  split at h
  · cases h
  · exact weakestEntry_mem (Option.filter_eq_some_iff.1 h).1

/-- R55, R62: the queue that a newcomer joins has room, or has just lost an entry. -/
theorem makeRoom_parties {ch : Chan} {cls : TalkClass} {s : State}
    (h : queueRefuses s.time (s.chan ch).ageStep cls (s.floor ch).queue = false) :
    ∃ w : List Party, (makeRoom ch cls s).floor ch = { s.floor ch with queue := ((makeRoom ch cls s).floor ch).queue } ∧
      ((makeRoom ch cls s).floor ch).queue.map (·.party) = w ∧ w.Sublist (s.floor ch).claims.waiting ∧
      (w.length < 8 ∨ w.length < (s.floor ch).claims.waiting.length) := by
  unfold makeRoom
  cases d : displacedBy s.time (s.chan ch).ageStep cls (s.floor ch).queue with
  | none =>
    refine ⟨_, rfl, rfl, .refl _, .inl ?_⟩
    simpa [queueRefuses, d] using h
  | some w =>
    refine ⟨((withoutParty w.party (s.floor ch).queue).map (·.party)), by simp, by simp, withoutParty_sublist _ _, .inr ?_⟩
    have shorter : (withoutParty w.party (s.floor ch).queue).length < (s.floor ch).queue.length :=
      List.length_filter_lt_length_iff_exists.2 ⟨w, displacedBy_eq_some d, by simp⟩
    simpa [Floor.claims] using shorter

theorem earliestIndex_lt {now : Time} {span : Nat} {ts : List Time} (h : ts ≠ []) : earliestIndex now span ts < ts.length := by
  have fold (l : List Time) (acc : Nat × Nat × Nat) (k : acc.2.1 = 0 ∨ acc.2.1 < acc.1) :
      (l.foldl (fun (acc : Nat × Nat × Nat) t =>
        if acc.2.2 < elapsed (after now span) t then (acc.1 + 1, acc.1, elapsed (after now span) t)
        else (acc.1 + 1, acc.2)) acc).2.1 = 0 ∨
      (l.foldl (fun (acc : Nat × Nat × Nat) t =>
        if acc.2.2 < elapsed (after now span) t then (acc.1 + 1, acc.1, elapsed (after now span) t)
        else (acc.1 + 1, acc.2)) acc).2.1 < acc.1 + l.length := by
    induction l generalizing acc with
    | nil => simpa using k
    | cons t l ih =>
      rw [List.foldl_cons]
      split
      · simpa [Nat.add_assoc, Nat.add_comm 1] using ih (acc.1 + 1, acc.1, elapsed (after now span) t) (.inr (Nat.lt_succ_self _))
      · simpa [Nat.add_assoc, Nat.add_comm 1] using ih (acc.1 + 1, acc.2) (by simp only; omega)
  have := List.length_pos_of_ne_nil h
  have := fold ts (0, 0, 0) (.inl rfl)
  unfold earliestIndex
  omega

theorem lockOut_length (now : Time) (p : Party) (ls : List Lockout) :
    (lockOut now p ls).length ≤ ls.length ∨ (lockOut now p ls).length ≤ 8 := by
  unfold lockOut
  split
  · simp
  · split
    · next short => right; simp at short ⊢; omega
    · next full =>
      left
      simp only [Nat.not_lt] at full
      have := earliestIndex_lt (now := now) (span := 10000) (ts := ls.map (·.expiry)) (by rintro e; simp_all)
      simp only [List.length_map] at this
      simp only [List.length_append, List.length_eraseIdx, List.length_singleton, this, if_true]
      omega

/-! ## What the carrier leaves alone (R36, R47) -/

@[simp] theorem Grant.hears_holder (now : Time) (old new : Option Heard) (g : Grant) : (g.hears now old new).holder = g.holder := by
  unfold Grant.hears
  split
  · split <;> rfl
  · split <;> rfl

theorem Floor.hears_claims (now : Time) (heardNow : Bool) (u : UnitId) (f : Floor) : (f.hears now heardNow u).claims = f.claims :=
  Floor.claims_eq Iff.rfl (by simp [Floor.hears, Floor.claims, Option.map_map, Function.comp_def]) rfl rfl rfl rfl

theorem Floor.losesCarrier_claims (now : Time) (f : Floor) : (f.losesCarrier now).claims = f.claims :=
  Floor.claims_eq Iff.rfl (by simp [Floor.losesCarrier, Floor.claims, Option.map_map, Function.comp_def]) rfl rfl rfl rfl

/-- R49: telling the consoles changes the links alone. -/
theorem tellLost_only (ch : Chan) (f : Floor) (s : State) : Only [.links] s (tellLost ch f s) := by
  unfold tellLost
  refine Only.trans (t := _) ?_ (Only.forEach _ (fun e _ s => ?_) _)
  · split
    · exact notify_only _ _ _
    · exact .refl _ _
  · split
    · exact notify_only _ _ _
    · exact .refl _ _

/-- R49: the floor record after its channel closes. -/
theorem closeFloor_floor_self (ch : Chan) (s : State) : (closeFloor ch s).floor ch = { s.floor ch with
    state := .closed, held := none, grant := none, gate := none, hang := none, queue := [], heard := none, foreignSince := none
    episodeOpen := false, quiet := none, alerts := (s.floor ch).alerts.map (fun a => { a with playing := false }) } := by
  have told : (tellLost ch (s.floor ch) s).floor ch = s.floor ch := congrArg (Tab.get · ch) (tellLost_only ch (s.floor ch) s).floors
  unfold closeFloor
  split
  · simp [stopSeize, told]
  · simp [stopSeize, told]

namespace ClaimLaw

variable {L : Bool → Claims → Prop} (law : ClaimLaw L) {b : Bool} {s : State} {ch : Chan}
include law

/-! ## One floor record -/

theorem weakened {c : Claims} (h : L false c) : L b c := by
  cases b with
  | false => exact h
  | true => exact law.weakens h

omit law in
/-- The law on a floor whose claims are those said. -/
theorem of_claims {c : Claims} {f : Floor} (h : L b c) (state : f.effective = .granted ↔ c.granted)
    (holder : f.grant.map (·.holder) = c.holder := by simp [Floor.claims]) (gate : f.gate = c.gate := by simp [Floor.claims])
    (waiting : f.queue.map (·.party) = c.waiting := by simp [Floor.claims])
    (lockouts : f.lockouts.length = c.lockouts := by simp [Floor.claims])
    (alerts : f.alerts.length = c.alerts := by simp [Floor.claims]) : L b f.claims := by
  rw [Floor.claims_eq state holder gate waiting lockouts alerts]; exact h

theorem closeGate (h : L b (s.floor ch).claims) : L false ((closeGate ch s).floor ch).claims := by
  have closed := law.settles h
  rw [closeGate_floor_self]
  cases g : (s.floor ch).grant with
  | none =>
    rw [if_pos (Floor.claims_holder_eq_none.2 g)] at closed
    exact of_claims closed Iff.rfl
  | some x => rwa [if_neg (by simp [Floor.claims_holder_eq_none, g])] at closed

theorem issueGrant (b' : Bool) (was : Bool) (p : Party) (cls : TalkClass) (h : L b (s.floor ch).claims) :
    L b' ((issueGrant was ch p cls s).floor ch).claims := by
  rw [issueGrant_floor_self, Floor.retest_claims]
  refine of_claims (law.grants b' p h) (iff_true_intro ?_) (holder := by simp [newGrant]) (waiting := withoutParty_parties _ _)
  exact Floor.takes_effective .granted _ (by decide)

theorem startSeize (b' : Bool) (h : L b (s.floor ch).claims) (some : (s.floor ch).alerts ≠ [])
    (free : (s.floor ch).effective ≠ .granted ∨ (s.floor ch).grant = none) : L b' ((startSeize ch s).floor ch).claims := by
  obtain ⟨a, rest, alerts⟩ := List.exists_cons_of_ne_nil some
  rw [startSeize_floor_self _ _ a rest alerts]
  refine of_claims (law.plays b' (by simpa [Floor.claims] using free) h) (iff_false_intro fun e => ?_)
    (alerts := by simp [Floor.claims, alerts])
  have inAlert : (Floor.retest (s.floor ch).isForeign s.time { (s.floor ch).takes .alert with
      hang := none, alerts := { a with playing := true } :: rest }).effective = .alert :=
    (Floor.retest_effective _ _ _).trans (Floor.takes_effective .alert _ (by decide))
  exact absurd (inAlert.symm.trans e) (by decide)

theorem serviceDecision (h : L b (s.floor ch).claims) : L b ((serviceDecision ch s).floor ch).claims := by
  unfold Machine.serviceDecision
  split
  · next idle =>
    split
    · split
      · exact h
      · exact law.issueGrant b _ _ _ h
    · next waiting =>
      exact law.startSeize b h (by simpa using waiting) (.inl (by simp [Floor.effective, idle]))
  · exact h

theorem endGrant (r : Option AirReason) (next : FloorState) (free : next ≠ .granted ∧ next ≠ .transfer)
    (held : (s.floor ch).grant.isSome = true) (h : L b (s.floor ch).claims) : L true ((endGrant ch r next s).floor ch).claims := by
  rw [endGrant_floor_self _ _ _ _ held, Floor.retest_claims]
  refine of_claims (law.ends h) (iff_false_intro fun e => free.1 ?_)
  exact (Floor.takes_effective next _ free.2).symm.trans e

theorem endGrantIdle (r : Option AirReason) (h : L false (s.floor ch).claims) : L false ((endGrantIdle ch r s).floor ch).claims := by
  unfold Machine.endGrantIdle
  split
  · next held => exact law.closeGate (law.serviceDecision (law.endGrant r .idle (by decide) held h))
  · exact h

omit law in
theorem endHang (h : L b (s.floor ch).claims) : L b ((endHang ch s).floor ch).claims := by
  unfold Machine.endHang
  split
  · next hang =>
    rw [modFloorTested_floor_self, Floor.retest_claims]
    have idle : ({ (s.floor ch).takes .idle with hang := none } : Floor).effective = .idle :=
      Floor.takes_effective .idle _ (by decide)
    exact of_claims h ⟨fun e => absurd (idle.symm.trans e) (by decide), fun e => absurd (hang.symm.trans e) (by decide)⟩
  · exact h

/-! ## Queues -/

theorem withdraws (p : Party) (h : L b (s.floor ch).claims) :
    L b ((modFloor ch (fun f => { f with queue := withoutParty p f.queue }) s).floor ch).claims := by
  rw [modFloor_floor_self]
  exact law.shrinks _ _ _ (withoutParty_sublist p _) (.inl le_rfl) (.inl le_rfl) h

theorem denyEntry (p : Party) (r : AirReason) (h : L b (s.floor ch).claims) : L b ((denyEntry ch p r s).floor ch).claims := by
  unfold Machine.denyEntry
  split
  · exact h
  · rw [answer_floor']; exact law.withdraws p h

omit law in
theorem renewEntry (p : Party) (cls : TalkClass) (h : L b (s.floor ch).claims) :
    L b ((renewEntry ch p cls s).floor ch).claims := by
  unfold Machine.renewEntry
  rw [modFloor_floor_self]
  refine of_claims h Iff.rfl (waiting := ?_)
  rw [List.map_map]
  exact List.map_congr_left fun e _ => by simp only [Function.comp]; split <;> rfl

theorem enterQueue (p : Party) (cls : TalkClass) (fits : queueRefuses s.time (s.chan ch).ageStep cls (s.floor ch).queue = false)
    (absent : p ∉ (s.floor ch).claims.waiting) (other : (s.floor ch).claims.holder ≠ some p) (h : L b (s.floor ch).claims) :
    L b ((enterQueue ch p cls s).floor ch).claims := by
  obtain ⟨w, room, parties, sub, short⟩ := makeRoom_parties fits
  unfold Machine.enterQueue
  rw [modFloor_floor_self, room]
  exact of_claims (law.waits w p sub short absent other h) Iff.rfl (waiting := by simp [parties, newEntry])

theorem enqueue (p : Party) (cls : TalkClass) (absent : p ∉ (s.floor ch).claims.waiting)
    (other : (s.floor ch).claims.holder ≠ some p) (h : L b (s.floor ch).claims) :
    L b ((enqueue ch p cls s).floor ch).claims := by
  unfold Machine.enqueue
  split
  · rw [answer_floor']; exact h
  · next fits => rw [answer_floor']; exact law.enterQueue p cls (by simpa using fits) absent other h

/-! ## Requests (R30, R31) and ends (R38) -/

theorem talkOutcome (p : Party) (cls : TalkClass) (h : L b (s.floor ch).claims) :
    L b ((talkOutcome ch p cls s).floor ch).claims := by
  unfold Machine.talkOutcome
  split
  · exact h
  · next other =>
    rw [Floor.heldBy_iff] at other
    split
    · rw [answer_floor']; exact renewEntry p cls h
    · next absent =>
      rw [entryOf_eq_none] at absent
      split
      · unfold requestInIdle
        split
        · rw [answer_floor']; exact h
        · next fits =>
          have decided := law.serviceDecision (law.enterQueue p cls (by simpa using fits) absent other h)
          dsimp only
          split
          · rw [answer_floor']; exact decided
          · exact decided
      · split
        · exact law.issueGrant b _ _ _ h
        · exact law.enqueue p cls absent other h
      iterate 2 exact law.enqueue p cls absent other h
      iterate 3 exact h

/-- R42: whether a grant is dropped first or not, the pre-empting party's grant leaves the same claims. -/
theorem preempt (p : Party) (h : L b (s.floor ch).claims) : L b ((preempt ch p s).floor ch).claims := by
  have granted (was : Bool) (t : State)
      (queue : (t.floor ch).queue = (s.floor ch).queue) (lockouts : (t.floor ch).lockouts = (s.floor ch).lockouts)
      (alerts : (t.floor ch).alerts.length = (s.floor ch).alerts.length) :
      L b ((Machine.issueGrant was ch p .emergency t).floor ch).claims := by
    rw [issueGrant_floor_self, Floor.retest_claims]
    refine of_claims (law.grants b p h) (iff_true_intro (Floor.takes_effective .granted _ (by decide)))
      (holder := by simp [newGrant]) (waiting := ?_) (lockouts := by simp [lockouts, Floor.claims]) (alerts := by simp [alerts, Floor.claims])
    rw [withoutParty_parties, queue]; rfl
  unfold Machine.preempt
  split
  · exact granted _ _ (by rw [dropGrant_floor_self]) (by rw [dropGrant_floor_self]) (by rw [dropGrant_floor_self])
  · exact granted _ _ (by simp [stopSeize]) (by simp [stopSeize]) (by simp [stopSeize])
  · exact granted _ _ rfl rfl rfl

theorem emergencyOutcome (p : Party) (h : L b (s.floor ch).claims) : L b ((emergencyOutcome ch p s).floor ch).claims := by
  unfold Machine.emergencyOutcome
  split
  iterate 3 exact h
  all_goals
    split
    · split
      · exact h
      · unfold raiseGrant
        rw [requestMix_floor, answer_floor', modFloor_floor_self]
        exact of_claims h Iff.rfl (holder := by simp [Floor.claims, Option.map_map, Function.comp_def])
    · next other =>
      rw [Floor.heldBy_iff] at other
      split
      · exact law.preempt p (renewEntry p _ h)
      · split
        · rw [answer_floor']; exact renewEntry p _ h
        · next absent => exact law.enqueue p _ (entryOf_eq_none.1 absent) other h

theorem endTalk (h : L false (s.floor ch).claims) : L false ((endTalk ch s).floor ch).claims := by
  unfold Machine.endTalk
  split
  · exact h
  · next g held =>
    split
    · refine law.closeGate (b := true) ?_
      rw [modFloor_floor_self]
      exact of_claims (law.endGrant none .hang (by decide) (by simp [held]) h) Iff.rfl
    · exact law.endGrantIdle none h

theorem talkEndBy (p : Party) (h : L false (s.floor ch).claims) : L false ((talkEndBy ch p s).floor ch).claims := by
  unfold Machine.talkEndBy
  split
  · exact law.endTalk h
  · exact law.withdraws p h

/-! ## Alerts (R44, R167, R169) -/

theorem preemptAlert (some : (s.floor ch).alerts ≠ []) (h : L false (s.floor ch).claims) :
    L false ((preemptAlert ch s).floor ch).claims := by
  unfold Machine.preemptAlert
  split
  · exact law.serviceDecision h
  · split
    · exact h
    · cases held : (s.floor ch).grant with
      | none =>
        have stays : Machine.endGrant ch (.some .alert) .alert s = s := by simp [Machine.endGrant, held]
        rw [stays]
        exact law.startSeize false h some (.inr held)
      | some g =>
        have isSome : (s.floor ch).grant.isSome = true := by simp [held]
        refine law.startSeize false (law.endGrant _ .alert (by decide) isSome h) ?_ (.inr ?_)
        all_goals rw [endGrant_floor_self _ _ _ _ isSome]; simp [some]
  · next hang => exact law.startSeize false h some (.inl (by simp [Floor.effective, hang]))
  iterate 4 exact h

omit law in
/-- R167 cases 2 and 3: a list that admits a newcomer has room for it, or loses an entry for it. -/
theorem displaceAlert_room {new : Alert} (admitted : alertFate new (s.floor ch).alerts = .admitted) :
    ∃ l, (displaceAlert ch s).floor ch = { s.floor ch with alerts := l } ∧
      (l.length + 1 ≤ (s.floor ch).alerts.length ∨ l.length + 1 ≤ 4) := by
  unfold displaceAlert
  split
  · next room => exact ⟨_, rfl, .inr room⟩
  · next full =>
    have some : (s.floor ch).alerts.any Alert.displaceable = true := by
      unfold alertFate at admitted
      split at admitted
      · cases admitted
      · split at admitted
        · next displaces => exact displaces.2
        · cases admitted
    obtain ⟨a, mem, displaceable⟩ := List.any_eq_true.1 some
    split
    · next none => exact absurd displaceable (List.find?_eq_none.1 none a (by simpa using mem))
    · next x found =>
      refine ⟨((s.floor ch).alerts.reverse.eraseP Alert.displaceable).reverse, ?_, .inl ?_⟩
      · cases x.requester <;> simp
      · have shorter := List.length_eraseP_of_mem (l := (s.floor ch).alerts.reverse) (by simpa using mem) displaceable
        have := List.length_pos_of_mem mem
        simp only [List.length_reverse] at shorter ⊢
        omega

theorem requestAlert (new : Alert) (h : L false (s.floor ch).claims) : L false ((requestAlert ch new s).floor ch).claims := by
  unfold Machine.requestAlert
  split
  · next admitted =>
    obtain ⟨l, displaced, short⟩ := displaceAlert_room admitted
    have appended : L false ((modFloor ch (fun f => { f with alerts := f.alerts ++ [new] }) (displaceAlert ch s)).floor ch).claims := by
      rw [modFloor_floor_self, displaced]
      exact of_claims (law.shrinks (s.floor ch).claims.waiting (s.floor ch).claims.lockouts (l.length + 1) (.refl _) (.inl le_rfl)
        short h) Iff.rfl
    split
    · exact law.preemptAlert (by rw [modFloor_floor_self]; simp) appended
    · exact law.serviceDecision appended
  · exact h

theorem discardAlerts (i : MoveIx) (h : L b (s.floor ch).claims) : L b ((discardAlerts ch i s).floor ch).claims := by
  unfold Machine.discardAlerts
  rw [modFloor_floor_self]
  exact law.shrinks _ _ _ (.refl _) (.inl le_rfl) (.inl (List.length_filter_le _ _)) h

theorem completeSeize (h : L false (s.floor ch).claims) : L false ((completeSeize ch s).floor ch).claims := by
  refine law.serviceDecision ?_
  rw [modFloorTested_floor_self, Floor.retest_claims]
  have shorter := law.shrinks (s.floor ch).claims.waiting (s.floor ch).claims.lockouts
    ((s.floor ch).alerts.eraseP (·.playing)).length (.refl _) (.inl le_rfl) (.inl (List.length_eraseP_le)) h
  split
  · next alert =>
    have idle := Floor.takes_effective .idle (s.floor ch) (by decide)
    exact of_claims shorter ⟨fun e => absurd (idle.symm.trans e) (by decide), fun e => absurd (alert.symm.trans e) (by decide)⟩
  · exact of_claims shorter Iff.rfl

theorem stepEnds (g : Play) (h : L false (s.floor ch).claims) : L false ((stepEnds ch g s).floor ch).claims := by
  unfold Machine.stepEnds
  split
  · exact h
  · split
    · exact h
    · exact law.completeSeize h

/-! ## Carrier, transfer and closure (R36, R47 to R49) -/

omit law in
theorem hears (heardNow : Bool) (u : UnitId) (h : L b (s.floor ch).claims) :
    L b ((modFloorTested ch (Floor.hears s.time heardNow u) s).floor ch).claims := by
  rw [modFloorTested_floor_self, Floor.retest_claims, Floor.hears_claims]; exact h

omit law in
theorem losesCarrier (t : Time) (h : L b (s.floor ch).claims) :
    L b ((modFloor ch (Floor.losesCarrier t) s).floor ch).claims := by
  rw [modFloor_floor_self, Floor.losesCarrier_claims]; exact h

omit law in
theorem enterTransfer (h : L b (s.floor ch).claims) : L b ((enterTransfer ch s).floor ch).claims := by
  have held (st : FloorState) (state : (s.floor ch).state = st) (carried : st ≠ .transfer) :
      ({ (s.floor ch).losesCarrier s.time with state := .transfer, held := some (s.floor ch).state } : Floor).claims =
        (s.floor ch).claims := by
    rw [← Floor.losesCarrier_claims s.time (s.floor ch)]
    refine Floor.claims_eq ?_ rfl rfl rfl rfl rfl
    simp [Floor.claims, Floor.effective, Floor.losesCarrier, state, carried]
  unfold Machine.enterTransfer
  rw [modFloor_floor_self]
  split
  iterate 4
    next state => rw [held _ state (by decide)]; exact h
  iterate 3 exact h

omit law in
theorem openTransfer (h : L b (s.floor ch).claims) : L b ((openTransfer ch s).floor ch).claims := by
  unfold Machine.openTransfer
  rw [modFloor_floor_self]
  split
  · next state => refine of_claims h ?_; rcases state with state | state <;> simp [Floor.claims, Floor.effective, state]
  · exact h

theorem leaveTransfer (h : L false (s.floor ch).claims) : L false ((leaveTransfer ch s).floor ch).claims := by
  unfold Machine.leaveTransfer
  split
  · next state =>
    have left : L false ((modFloorTested ch (fun f => { f with state := f.held.getD .idle, held := none }) s).floor ch).claims := by
      rw [modFloorTested_floor_self, Floor.retest_claims]
      refine of_claims h ?_
      cases held : (s.floor ch).held with
      | none => simp [Floor.claims, Floor.effective, state, held]
      | some st => cases st <;> simp [Floor.claims, Floor.effective, state, held]
    dsimp only
    split
    · exact law.serviceDecision left
    iterate 2
      split
      · next waits => exact law.preemptAlert (fun none => by rw [none] at waits; cases waits) left
      · exact left
    iterate 4 exact left
  · exact h

theorem closeFloor (h : L b (s.floor ch).claims) : L false ((closeFloor ch s).floor ch).claims := by
  rw [closeFloor_floor_self]
  exact of_claims (law.empties h) (by simp [Floor.effective])

omit law in
theorem carries (h : L b (s.floor ch).claims) :
    L b ((modFloor ch (fun f => if f.state = .off then { f with state := .idle } else f) s).floor ch).claims := by
  rw [modFloor_floor_self]
  split
  · next state => exact of_claims h (by simp [Floor.claims, Floor.effective, state])
  · exact h

end ClaimLaw

end Sys2Proof.Machine

/-! PROOF. A law of the claims is a law of the floors (`ClaimLaw.floorLaw`), and the laws of the grant (R26, R34) and of the
queues (R54) are such laws. -/

namespace Sys2Proof.Machine

set_option Elab.async false

/-- R58: what an event does at its end on one of the channels. -/
def serveOne (before : State) (ch : Chan) (t : State) : State :=
  (if (before.floor ch).grant.isSome then closeGate ch else id)
    (if (before.floor ch).state ≠ .idle then serviceDecision ch t else t)

theorem serveFreed_eq (before s : State) : serveFreed before s = forEach allChans (serveOne before) s := rfl

theorem serveOne_frame (before : State) (ch : Chan) (t : State) : TalkFrame ch t (serveOne before ch t) := by
  have decided : TalkFrame ch t (if (before.floor ch).state ≠ .idle then serviceDecision ch t else t) :=
    TalkFrame.ite _ (serviceDecision_frame _ _) (.refl _ _)
  unfold serveOne
  split
  · exact decided.trans (closeGate_frame _ _)
  · exact decided

namespace ClaimLaw

variable {L : Bool → Claims → Prop} (law : ClaimLaw L) {s b : State}
include law

/-! ## Inside an event (R40, R45, R58) -/

theorem cancels (ch : Chan) (r : AirReason) (p : Party) (h : OnFloorsWithin L b s) : OnFloorsWithin L b (cancelClaim ch r p s) := by
  refine h.of_frame (cancelClaim_frame _ _ _ _) fun own before => ?_
  unfold cancelClaim
  split
  · next held =>
    have isSome : (s.floor ch).grant.isSome = true := by
      rw [← Floor.claims_holder_isSome, Floor.heldBy_iff.1 held]; rfl
    rw [before isSome] at own ⊢
    exact ⟨law.endGrant _ .idle (by decide) isSome own, fun _ => isSome⟩
  · refine ⟨law.denyEntry p r own, fun g => ?_⟩
    unfold Machine.denyEntry at g
    split at g
    · exact g
    · simpa using g

omit law in
theorem endsHang (ch : Chan) (h : OnFloorsWithin L b s) : OnFloorsWithin L b (Machine.endHang ch s) := by
  refine h.of_frame (endHang_frame _ _) fun own _ => ⟨ClaimLaw.endHang own, fun g => ?_⟩
  unfold Machine.endHang at g
  split at g
  · simpa using g
  · exact g

theorem discards (ch : Chan) (i : MoveIx) (h : OnFloorsWithin L b s) : OnFloorsWithin L b (Machine.discardAlerts ch i s) :=
  h.of_frame (discardAlerts_frame _ _ _) fun own _ =>
    ⟨law.discardAlerts i own, fun g => by simpa [Machine.discardAlerts] using g⟩

theorem serveOne (ch : Chan) (h : L (b.floor ch).grant.isSome (s.floor ch).claims) :
    L false ((serveOne b ch s).floor ch).claims := by
  have decided : L (b.floor ch).grant.isSome
      ((if (b.floor ch).state ≠ .idle then Machine.serviceDecision ch s else s).floor ch).claims := by
    split
    · exact law.serviceDecision h
    · exact h
  unfold Machine.serveOne
  split
  · exact law.closeGate decided
  · next none => simpa [none] using decided

/-- R58: the channels are served one by one; on those served the gate is closed again. -/
theorem serves (h : OnFloorsWithin L b s) : OnFloors L (serveFreed b s) := by
  have served (xs : List Chan) (t : State) (k : ∀ c, L (decide (c ∈ xs) && (b.floor c).grant.isSome) (t.floor c).claims) :
      OnFloors L (forEach xs (Machine.serveOne b) t) := by
    induction xs generalizing t with
    | nil => exact fun c => k c
    | cons ch xs ih =>
      refine ih _ fun c => ?_
      by_cases e : c = ch
      · subst e
        exact law.weakened (law.serveOne c (by simpa using k c))
      · rw [((serveOne_frame b ch t).2.1 c e).1]
        simpa [e] using k c
  refine served allChans s fun c => ?_
  have all : c ∈ allChans := by revert c; decide
  simpa [all] using (h c).1

/-! ## The law of the floors -/

theorem floorLaw : FloorLaw (OnFloors L) (OnFloorsWithin L) where
  readsFloors := .reads L
  reads := (OnFloors.reads L).mono (by decide)
  readsWithin := fun b => (OnFloorsWithin.reads L b).mono (by decide)
  reset := fun ch => by rw [reset_floor]; exact law.reset
  starts := fun h ch => ⟨law.weakened (h ch), id⟩
  cancels := fun ch r p h => law.cancels ch r p h
  endsHang := fun ch h => endsHang ch h
  discards := fun ch i h => law.discards ch i h
  serves := fun h => law.serves h
  requests := fun ch p cls h => h.of_frame (talkOutcome_frame ch p cls _) (law.talkOutcome p cls)
  emergencies := fun ch p h => h.of_frame (emergencyOutcome_frame ch p _) (law.emergencyOutcome p)
  talkEnds := fun ch p h => h.of_frame (talkEndBy_frame ch p _) (law.talkEndBy p)
  alerts := fun ch a h => h.of_frame (requestAlert_frame ch a _) (law.requestAlert a)
  grantEnds := fun ch r h => h.of_frame (endGrantIdle_frame ch r _) (law.endGrantIdle r)
  cuts := fun ch g h => h.of_frame ((modFloor_frame _ _ _).trans (endGrantIdle_frame ch _ _)) fun own => by
    refine law.endGrantIdle _ ?_
    rw [modFloor_floor_self]
    exact law.shrinks _ _ _ (.refl _) (lockOut_length _ _ _) (.inl le_rfl) own
  warns := fun ch g held h => h.of_frame ((modFloor_frame _ _ _).trans (requestMix_frame ch _ _)) fun own => by
    rw [warn, requestMix_floor, modFloor_floor_self]
    exact of_claims own Iff.rfl (holder := by simp [Floor.claims, held])
  unlocks := fun ch q h => h.of_frame (modFloor_frame _ _ _) fun own => by
    rw [modFloor_floor_self]
    exact law.shrinks _ _ _ (.refl _) (.inl (List.length_filter_le _ _)) (.inl le_rfl) own
  hangEnds := fun ch h => h.of_frame ((endHang_frame _ _).trans (serviceDecision_frame _ _)) fun own =>
    law.serviceDecision (ClaimLaw.endHang own)
  detects := fun {s} ch h => by
    have same : OnFloors L (modFloor ch (fun f => { f with foreignSince := none, episodeOpen := true }) s) :=
      h.of_frame (modFloor_frame _ _ _) fun own => by rw [modFloor_floor_self]; exact own
    refine (OnFloors.reads L).keeps same (gs := [.links]) ?_
    exact (latchAll_only _ _ _).trans (Only.iteFun _ (.refl _ _) (broadcast_only _ _))
  quiets := fun ch h => h.of_frame (modFloor_frame _ _ _) fun own => by rw [modFloor_floor_self]; exact own
  denies := fun ch p r h => h.of_frame (denyEntry_frame ch p r _) (law.denyEntry p r)
  toneSteps := fun ch g h => h.of_frame (stepEnds_frame ch g _) (law.stepEnds g)
  hears := fun ch heard u h => h.of_frame (modFloor_frame _ _ _) (ClaimLaw.hears heard u)
  loses := fun ch h => h.of_frame (modFloor_frame _ _ _) (ClaimLaw.losesCarrier _)
  transfers := fun ch h => h.of_frame (enterTransfer_frame ch _) ClaimLaw.enterTransfer
  opens := fun ch h => h.of_frame (openTransfer_frame ch _) ClaimLaw.openTransfer
  leaves := fun ch h => h.of_frame (leaveTransfer_frame ch _) law.leaveTransfer
  closes := fun ch h => h.of_frame (closeFloor_frame ch _) law.closeFloor
  carries := fun ch h => h.of_frame (modFloor_frame _ _ _) ClaimLaw.carries

/-- Every step keeps a law of the claims on every floor. -/
theorem step {t : State} (h : OnFloors L s) (e : Machine.step s = .next t) : OnFloors L t := law.floorLaw.step h e

end ClaimLaw

/-! ## The grant and the gate (R26, R34) -/

/-- R26, R34: a grant stands exactly while the floor is GRANTED, and the gate is open for its holder; a stale gate may still be
open for the party whose grant has ended. -/
def GrantAndGate (stale : Bool) (c : Claims) : Prop :=
  (c.holder.isSome = true ↔ c.granted) ∧ (c.gate = c.holder ∨ stale = true ∧ c.holder = none)

theorem grantAndGate_law : ClaimLaw GrantAndGate where
  weakens := fun ⟨grant, gate⟩ => ⟨grant, .inl (by simpa using gate)⟩
  reset := ⟨by simp [Floor.claims, Floor.reset, Floor.effective], .inl rfl⟩
  shrinks := fun _ _ _ _ _ _ h => h
  waits := fun _ _ _ _ _ _ h => h
  grants := fun _ _ _ => ⟨by simp, .inl rfl⟩
  ends := fun _ => ⟨by simp, .inr ⟨rfl, rfl⟩⟩
  plays := fun {_ c} _ free h => by
    have none : c.holder = none := by
      rcases free with free | free
      · simpa using mt h.1.1 free
      · exact free
    exact ⟨by simp [none], .inl none.symm⟩
  settles := fun {_ c} h => by
    split
    · next none => exact ⟨h.1, .inl none.symm⟩
    · next some => exact ⟨h.1, .inl (h.2.resolve_right fun stale => some stale.2)⟩
  empties := fun _ => ⟨by simp, .inl rfl⟩

theorem onFloors_grantAndGate (s : State) : OnFloors GrantAndGate s ↔ GrantLaw s ∧ GateLaw s := by
  simp only [OnFloors, GrantAndGate, GrantLaw, GateLaw, Floor.claims, Option.isSome_map, ← forall_and]
  simp

/-- Settles O54: the two laws read the claims on the floors, which every operation of the Floor Controller keeps lawful. -/
theorem everyStepKeepsTheGrantLaw : Obligations.EveryStepKeepsTheGrantLaw := by
  intro s t grant gate e
  exact (onFloors_grantAndGate t).1 (grantAndGate_law.step ((onFloors_grantAndGate s).2 ⟨grant, gate⟩) e)

/-! ## The queues (R54) -/

/-- R54: a party waits once, and not where it holds the grant. -/
def ClaimsOnce (_ : Bool) (c : Claims) : Prop := c.waiting.Nodup ∧ ∀ p, c.holder = some p → p ∉ c.waiting

theorem claimsOnce_law : ClaimLaw ClaimsOnce where
  weakens := fun h => h
  reset := ⟨.nil, fun _ h => nomatch h⟩
  shrinks := fun _ _ _ sub _ _ h => ⟨h.1.sublist sub, fun p held m => h.2 p held (sub.subset m)⟩
  waits := fun w p sub _ absent other h => by
    refine ⟨List.nodup_append.2 ⟨h.1.sublist sub, by simp, ?_⟩, fun q held m => ?_⟩
    · rintro a ma b mb rfl
      exact absent (sub.subset (List.mem_singleton.1 mb ▸ ma))
    · rcases List.mem_append.1 m with m | m
      · exact h.2 q held (sub.subset m)
      · exact other (List.mem_singleton.1 m ▸ held)
  grants := fun _ p h => ⟨h.1.filter _, fun q held m => by cases held; simp at m⟩
  ends := fun h => ⟨h.1, fun _ held => nomatch held⟩
  plays := fun _ _ h => h
  settles := fun h => by split <;> exact h
  empties := fun _ => ⟨.nil, fun _ held => nomatch held⟩

theorem onFloors_claimsOnce (s : State) : OnFloors ClaimsOnce s ↔ OneClaim s := by
  refine forall_congr' fun ch => and_congr_right fun _ => ?_
  simp [Floor.claims, Option.map_eq_some_iff]

/-- Settles O55: the law reads the claims on the floors; a party enters a queue where it has no entry and no grant, and leaves the
queue when it is granted. -/
theorem everyStepKeepsOneClaim : Obligations.EveryStepKeepsOneClaim := by
  intro s t one e
  exact (onFloors_claimsOnce t).1 (claimsOnce_law.step ((onFloors_claimsOnce s).2 one) e)

end Sys2Proof.Machine

/-! PROOF. What an event that is not the Port Manager's leaves of the ports, and the law of the path tests (R153). -/

namespace Sys2Proof.Machine

set_option Elab.async false

theorem mem_allPorts (p : Port) : p ∈ allPorts := by revert p; decide

theorem mem_allChans (ch : Chan) : ch ∈ allChans := by revert ch; decide

/-! ## The talk events change the gate settings of the ports alone -/

/-- In `t` no port of `s` has changed but for its gate setting. -/
def KeepsPorts (s t : State) : Prop :=
  ∀ q, t.port q = { s.port q with pins := { (s.port q).pins with gate := (t.port q).pins.gate } }

theorem KeepsPorts.refl (s : State) : KeepsPorts s s := fun _ => rfl

theorem KeepsPorts.of_frame {ch : Chan} {s t u : State} (h : KeepsPorts s t) (frame : TalkFrame ch t u) : KeepsPorts s u :=
  fun q => by
    have own := h q
    rw [frame.2.2 q, own]

theorem KeepsPorts.state {s t : State} (h : KeepsPorts s t) (q : Port) : (t.port q).state = (s.port q).state := by rw [h q]

theorem KeepsPorts.reads (s : State) : ReadsOnly [.ports] (KeepsPorts s) := fun t u agree h q => by
  have ports : u.ports = t.ports := agree .ports (by simp)
  have port : u.port q = t.port q := congrArg (Tab.get · q) ports
  rw [port]; exact h q

/-- Every operation of the Floor Controller keeps the ports. -/
theorem keepsPorts_talkLaw (b : State) : TalkLaw (KeepsPorts b) (fun _ => KeepsPorts b) where
  reads := (KeepsPorts.reads b).mono (by decide)
  readsWithin := fun _ => (KeepsPorts.reads b).mono (by decide)
  starts := id
  cancels := fun _ _ _ h => h.of_frame (cancelClaim_frame _ _ _ _)
  endsHang := fun _ h => h.of_frame (endHang_frame _ _)
  discards := fun _ _ h => h.of_frame (discardAlerts_frame _ _ _)
  serves := fun h => forEach_keeps _ (fun _ _ _ h => h.of_frame (serveOne_frame _ _ _)) _ h
  requests := fun _ _ _ h => h.of_frame (talkOutcome_frame _ _ _ _)
  emergencies := fun _ _ h => h.of_frame (emergencyOutcome_frame _ _ _)
  talkEnds := fun _ _ h => h.of_frame (talkEndBy_frame _ _ _)
  alerts := fun _ _ h => h.of_frame (requestAlert_frame _ _ _)
  grantEnds := fun _ _ h => h.of_frame (endGrantIdle_frame _ _ _)
  cuts := fun _ _ h => h.of_frame ((modFloor_frame _ _ _).trans (endGrantIdle_frame _ _ _))
  warns := fun _ _ _ h => h.of_frame ((modFloor_frame _ _ _).trans (requestMix_frame _ _ _))
  unlocks := fun _ _ h => h.of_frame (modFloor_frame _ _ _)
  hangEnds := fun _ h => h.of_frame ((endHang_frame _ _).trans (serviceDecision_frame _ _))
  detects := fun _ h => (KeepsPorts.reads b).keeps h (detect_only _ _)
  quiets := fun _ h => h.of_frame (modFloor_frame _ _ _)
  denies := fun _ _ _ h => h.of_frame (denyEntry_frame _ _ _ _)
  toneSteps := fun _ _ h => h.of_frame (stepEnds_frame _ _ _)
  hears := fun _ _ _ h => h.of_frame (modFloor_frame _ _ _)

/-- A command that serves floors keeps the ports. -/
theorem keepsPorts_command (link : Console) {c : Command} (talk : servesFloors c = true) (s : State) :
    KeepsPorts s (runCommand link c s).2 :=
  (keepsPorts_talkLaw s).talkCommands link c talk s (.refl s)

/-- A row that acts on floors and not on the tests keeps the ports. -/
theorem keepsPorts_row {i : Instr} {s t : State} (touches : rowTouches [.floors] i = true) (talk : rowTouches [.tests] i = false)
    (e : exec i s = .next t) : KeepsPorts s t :=
  (keepsPorts_talkLaw s).talkRows i touches talk s t (.refl s) e

/-- What a row changes lies within its fields. -/
theorem rowTouches_only {fs : List Field} {i : Instr} {s t : State} (touches : rowTouches fs i = true) (e : exec i s = .next t) :
    Only (rowFields i) s t := by
  have noCommand : commandOf? i = none := by
    unfold rowTouches at touches
    split at touches
    iterate 3 cases touches
    simp only [Bool.and_eq_true, Option.isNone_iff_eq_none] at touches
    exact touches.1
  refine exec_only noCommand ?_ ?_ ?_ e
  · rintro rfl; cases touches
  · rintro rfl; cases touches
  · rintro l b stop rfl; cases touches

/-! ## Running tests (R153, R159, R160) -/

/-- No test runs on a port. -/
def Idle (p : Port) (s : State) : Prop := s.runningTest p = none

/-- R153 on one port: it is in TEST exactly while a test runs on it. -/
def TestedRight (p : Port) (s : State) : Prop := (s.port p).state = .test ↔ ¬ Idle p s

/-- The law of the tests but for some ports, whose tests an event has ended before it changes their states. -/
def TestsRightBut (ps : List Port) (s : State) : Prop := ∀ q, (q ∈ ps → Idle q s) ∧ (q ∉ ps → TestedRight q s)

theorem idle_iff {p : Port} {s : State} : Idle p s ↔ ∀ t, s.testOf p = some t → t.running = false := by
  simp [Idle, State.runningTest, Option.filter_eq_none_iff]

theorem TestRec.running_iff {t : TestRec} : t.running = true ↔ t.state = .search ∨ t.state = .synced := by
  simp [TestRec.running]

theorem testLaw_iff {s : State} : TestLaw s ↔ TestsRightBut [] s := by
  refine forall_congr' fun p => ?_
  simp only [List.not_mem_nil, false_implies, true_and, not_false_eq_true, true_implies, TestedRight, idle_iff, not_forall,
    Bool.not_eq_false, TestRec.running_iff, exists_prop]

section
variable {ps : List Port} {p : Port} {s t : State}

theorem Idle.of_tests (h : Idle p s) (tests : t.tests = s.tests) : Idle p t := by
  unfold Idle State.runningTest State.testOf at *; rw [tests]; exact h

theorem TestsRightBut.of_same (h : TestsRightBut ps s) (tests : t.tests = s.tests)
    (states : ∀ q, (t.port q).state = (s.port q).state) : TestsRightBut ps t := fun q => by
  have idle : Idle q t ↔ Idle q s := ⟨fun i => i.of_tests tests.symm, fun i => i.of_tests tests⟩
  simp only [TestedRight, idle, states q]; exact h q

theorem TestsRightBut.only {fs : List Field} (h : TestsRightBut ps s) (only : Only fs s t) (tests : .tests ∉ fs := by decide)
    (ports : .ports ∉ fs := by decide) : TestsRightBut ps t :=
  h.of_same (only.tests tests) fun q => congrArg PortRec.state (State.port_congr (only.ports ports) q)

/-- A port whose test has ended takes another state than TEST. -/
theorem TestsRightBut.leaves (h : TestsRightBut (p :: ps) s) (tests : t.tests = s.tests)
    (others : ∀ q, q ≠ p → (t.port q).state = (s.port q).state) (state : (t.port p).state ≠ .test) : TestsRightBut ps t := fun q => by
  by_cases e : q = p
  · subst e
    have idle : Idle q t := ((h q).1 (.head _)).of_tests tests
    exact ⟨fun _ => idle, fun _ => ⟨fun i => absurd i state, fun busy => absurd idle busy⟩⟩
  · have idle : Idle q t ↔ Idle q s := ⟨fun i => i.of_tests tests.symm, fun i => i.of_tests tests⟩
    have own := h q
    simp only [List.mem_cons, e, false_or] at own
    simp only [TestedRight, idle, others q e]; exact own

theorem TestsRightBut.cons (h : TestsRightBut ps s) (idle : Idle p s) : TestsRightBut (p :: ps) s := fun q =>
  ⟨fun m => (List.mem_cons.1 m).elim (fun e => e ▸ idle) (h q).1, fun m => (h q).2 fun k => m (.tail _ k)⟩

theorem TestsRightBut.idle (h : TestsRightBut ps s) (state : (s.port p).state ≠ .test) : Idle p s := by
  by_cases m : p ∈ ps
  · exact (h p).1 m
  · exact by_contra fun busy => state (((h p).2 m).2 busy)

/-- R160: the test of a port is aborted, if one runs. -/
theorem abortTest_testOf (p : Port) (r : AbortReason) (s : State) (q : Port) :
    (abortTest p r s).testOf q =
      if q = p then (s.runningTest p).elim (s.testOf p) (fun t => some (t.finished s.time .aborted (some r))) else s.testOf q := by
  unfold abortTest
  cases h : s.runningTest p with
  | none => by_cases e : q = p <;> simp [e]
  | some t =>
    have off := (echoOff_only p t (setTest p (some (t.finished s.time .aborted (some r))) s)).tests
    by_cases e : q = p <;> simp [e, State.testOf_congr off]

theorem abortTest_idle (p : Port) (r : AbortReason) (q : Port) (h : q = p ∨ Idle q s) : Idle q (abortTest p r s) := by
  rw [idle_iff]
  intro t ht
  rw [abortTest_testOf] at ht
  by_cases e : q = p
  · subst e
    rw [if_pos rfl] at ht
    cases run : s.runningTest q with
    | none => rw [run] at ht; exact idle_iff.1 run t ht
    | some x => rw [run] at ht; cases ht; rfl
  · rw [if_neg e] at ht
    exact idle_iff.1 (h.resolve_left e) t ht

theorem TestsRightBut.aborts (r : AbortReason) (h : TestsRightBut ps s) : TestsRightBut (p :: ps) (abortTest p r s) := fun q => by
  refine ⟨fun m => abortTest_idle p r q ((List.mem_cons.1 m).imp id (h q).1), fun m => ?_⟩
  simp only [List.mem_cons, not_or] at m
  have same : (abortTest p r s).testOf q = s.testOf q := by rw [abortTest_testOf, if_neg m.1]
  have port : (abortTest p r s).port q = s.port q := State.port_congr (abortTest_only _ _ _).ports q
  have right := (h q).2 m.2
  simp only [TestedRight, Idle, State.runningTest, same, port] at right ⊢
  exact right

end

end Sys2Proof.Machine

/-! PROOF. Every event of the Port Manager and of the Path Tester keeps the law of the tests (R153, R155, R159, R160). -/

namespace Sys2Proof.Machine

set_option Elab.async false

/-- A change of a port's record leaves its state. -/
def KeepsState (g : PortRec → PortRec) : Prop := ∀ r, (g r).state = r.state

namespace TestsRightBut

section
variable {ps : List Port} {p : Port} {s : State}

theorem frame {ch : Chan} {t : State} (h : TestsRightBut ps s) (frame : TalkFrame ch s t) : TestsRightBut ps t :=
  h.of_same frame.only.tests fun q => by rw [frame.2.2 q]

theorem modPort {g : PortRec → PortRec} (h : TestsRightBut ps s) (keeps : KeepsState g := by intro _; rfl) : TestsRightBut ps (modPort p g s) :=
  h.of_same rfl fun q => by rw [modPort_port]; split <;> simp_all [keeps _]

theorem portTo {st : PortState} {c : PortCause} {g : PortRec → PortRec} (h : TestsRightBut (p :: ps) s) (other : st ≠ .test)
    (keeps : KeepsState g := by intro _; rfl) : TestsRightBut ps (portTo p st c g s) :=
  h.leaves (portTo_only _ _ _ _ _).tests (fun q e => by rw [portTo_port, if_neg e])
    (by rw [portTo_port, if_pos rfl, keeps]; exact other)

theorem tuneTo {ch : Chan} {u : TunePurpose} (h : TestsRightBut (p :: ps) s) : TestsRightBut ps (tuneTo p ch u s) :=
  (h.portTo (by decide)).only (send_only _ _ _)

theorem shutPort (h : TestsRightBut ps s) : TestsRightBut ps (shutPort p s) :=
  h.of_same rfl fun q => by rw [shutPort_port]; split <;> simp_all

theorem servePort {ch : Chan} (h : TestsRightBut ps s) : TestsRightBut ps (servePort p ch s) :=
  h.of_same rfl fun q => by rw [servePort_port]; split <;> simp_all

theorem takeUpClosed (h : TestsRightBut ps s) (idle : Idle p s) : TestsRightBut ps (takeUpClosed p s) := by
  refine ite_keeps (fun _ => whenSome_keeps h fun ch _ => ?_) fun _ => h
  exact ((h.cons idle).tuneTo.frame (openTransfer_frame _ _)).only (reportTransfer_only _ _ _ _)

theorem spareSearch {enter : Port → State → State} {closing : State → State} {ch : Chan} (h : TestsRightBut ps s)
    (enters : ∀ q t, TestsRightBut (q :: ps) t → TestsRightBut (q :: ps) (enter q t)) (closed : TestsRightBut ps (closing s)) :
    TestsRightBut ps (spareSearch enter closing ch s) := by
  unfold Machine.spareSearch
  split
  · exact closed
  · exact (enters _ _ (h.aborts _)).tuneTo

theorem loseCarrier {ch : Chan} (h : TestsRightBut ps s) : TestsRightBut ps (loseCarrier p ch s) := by
  have entered {qs : List Port} (q : Port) (t : State) (ht : TestsRightBut qs t) :
      TestsRightBut qs (reportTransfer ch (some p) (some q) (enterTransfer ch t)) :=
    (ht.frame (enterTransfer_frame _ _)).only (reportTransfer_only _ _ _ _)
  unfold Machine.loseCarrier
  split
  · exact ((entered _ _ h).modPort).only (broadcast_only _ _)
  · exact h.spareSearch (fun _ _ ht => entered _ _ ht) (h.frame (closeChannel_frame _ _))

/-- R160: a port that has left TEST has its test aborted. -/
theorem abortsAfter {r : AbortReason} (others : ∀ q, q ≠ p → TestedRight q s) (state : (s.port p).state ≠ .test) :
    TestsRightBut [] (abortTest p r s) := by
  refine fun q => ⟨fun m => absurd m List.not_mem_nil, fun _ => ?_⟩
  have port : (abortTest p r s).port q = s.port q := State.port_congr (abortTest_only _ _ _).ports q
  by_cases e : q = p
  · subst e
    have idle := abortTest_idle (s := s) q r q (.inl rfl)
    exact ⟨fun i => absurd (port ▸ i) state, fun busy => absurd idle busy⟩
  · have same : (abortTest p r s).testOf q = s.testOf q := by rw [abortTest_testOf, if_neg e]
    have right := others q e
    simp only [TestedRight, Idle, State.runningTest, same, port] at right ⊢
    exact right

/-- R141, R149: a port that fails or is isolated leaves the tests right. -/
theorem losesPort {st : PortState} {pc : PortCause} {g : PortRec → PortRec} {cause : SwapCause} {shut : State → State}
    (h : TestsRightBut [] s) (other : st ≠ .test) (keeps : KeepsState g := by intro _; rfl)
    (shuts : ∀ {t}, TestsRightBut [] t → TestsRightBut [] (shut t)) :
    TestsRightBut [] (portLost p (s.port p) cause shut (Machine.portTo p st pc g s)) := by
  have moved (state : (s.port p).state ≠ .test) : TestsRightBut [] (Machine.portTo p st pc g s) :=
    (h.cons (h.idle state)).portTo other keeps
  unfold portLost
  split
  · next state =>
    have moved := moved (by simp [state])
    exact whenSome_keeps moved fun ch _ => (shuts moved).loseCarrier
  · next state =>
    have moved := moved (by simp [state])
    refine whenSome_keeps moved fun ch _ => ite_keeps (fun _ => moved.only (broadcast_only _ _)) fun _ => ?_
    exact moved.spareSearch (fun _ _ ht => ht) (moved.frame (closeChannel_frame _ _))
  · refine abortsAfter (fun q e => ?_) (by rw [portTo_port, if_pos rfl, keeps]; exact other)
    have tests : (Machine.portTo p st pc g s).tests = s.tests := (portTo_only _ _ _ _ _).tests
    have port : (Machine.portTo p st pc g s).port q = s.port q := by rw [portTo_port, if_neg e]
    have right := (h q).2 List.not_mem_nil
    simp only [TestedRight, Idle, State.runningTest, State.testOf_congr tests, port] at right ⊢
    exact right
  all_goals next state => exact moved (by simp [state])

theorem failPort {c : FailCause} (h : TestsRightBut [] s) : TestsRightBut [] (failPort p c s) :=
  h.losesPort (by decide) (shuts := fun ht => ht.shutPort)

theorem isolate (h : TestsRightBut [] s) : TestsRightBut [] (isolate p s) :=
  h.losesPort (by decide) (shuts := id)

/-- R139, R142, R159: a port becomes STANDBY, and may be taken up at once. -/
theorem standby {c : PortCause} {g : PortRec → PortRec} (h : TestsRightBut [] s) (state : (s.port p).state ≠ .test)
    (keeps : KeepsState g := by intro _; rfl) : TestsRightBut [] (Machine.takeUpClosed p (Machine.portTo p .standby c g s)) :=
  have idle := h.idle state
  ((h.cons idle).portTo (by decide) keeps).takeUpClosed (idle.of_tests (portTo_only _ _ _ _ _).tests)

theorem takeHealth {k : Health} (h : TestsRightBut [] s) : TestsRightBut [] (takeHealth p k s) := by
  have recorded : TestsRightBut [] (Machine.modPort p (fun r => { r with lastHealth := some s.time, status := some k }) s) :=
    h.modPort
  have healthyReport (old : Option Health) (t : State) (ht : TestsRightBut [] t) : TestsRightBut [] (healthy p old k t) := by
    unfold healthy
    split
    · next state => exact ht.standby (by simp [state])
    · exact ht.modPort
    iterate 4 exact ht.only (stillHealthy_only _ _ _ _)
    · exact ht
  cases k with
  | ok | degraded => exact healthyReport _ _ recorded
  | fault => exact ite_keeps (fun _ => recorded.modPort) fun _ => recorded.failPort

theorem silence (h : TestsRightBut [] s) : TestsRightBut [] (silence p s) := by
  unfold Machine.silence
  split
  iterate 4 exact h.failPort
  · exact h.modPort
  all_goals exact h

theorem restored (h : TestsRightBut [] s) : TestsRightBut [] (restored p s) :=
  ite_keeps (fun state => h.standby (by simp [state])) fun _ => h

theorem becomeCarrier {ch : Chan} (h : TestsRightBut [] s) (state : (s.port p).state = .tuning) :
    TestsRightBut [] (becomeCarrier p ch s) :=
  ((h.cons (h.idle (by simp [state]))).portTo (by decide)).servePort

theorem completeSwap {former : Port} {ch : Chan} (h : TestsRightBut [] s) (state : (s.port p).state = .tuning)
    (carries : (s.port former).state = .active) : TestsRightBut [] (completeSwap p former ch s) := by
  have carrierOnly : Only [.ports, .links, .sent] s (Machine.becomeCarrier p ch s) :=
    (portTo_only _ _ _ _ _).andThen (servePort_only _ _ _)
  have handedOnly (t : State) : Only [.ports, .links, .sent] t (Machine.shutPort former (Machine.portTo former .standby .swapped
      (fun r => { r with channel := none }) t)) := (portTo_only _ _ _ _ _).andThen (shutPort_only _ _)
  have toldOnly (t : State) : Only [.floors, .links] t (broadcast (.swapDone ch former p) (latchAll ch .transferSeen
      (modFloor ch (Floor.losesCarrier s.time) t))) :=
    (modFloor_only _ _ _).andThen ((latchAll_only _ _ _).trans (broadcast_only _ _))
  have idle : Idle former (Machine.becomeCarrier p ch s) := (h.idle (by simp [carries])).of_tests carrierOnly.tests
  have handed := (((h.becomeCarrier (ch := ch) state).cons idle).portTo (st := .standby) (c := .swapped)
    (g := fun r => { r with channel := none }) (by decide)).shutPort (p := former)
  have told := handed.only (toldOnly _)
  exact told.takeUpClosed ((idle.of_tests (handedOnly _).tests).of_tests (toldOnly _).tests)

theorem tuned {ch : Chan} {u : TunePurpose} (h : TestsRightBut [] s) (state : (s.port p).state = .tuning) :
    TestsRightBut [] (tuned p ch u s) := by
  have carried : TestsRightBut [] (Machine.becomeCarrier p ch s) := h.becomeCarrier state
  unfold Machine.tuned
  split
  · refine whenSome_keeps h fun former found => h.completeSwap state ?_
    have carrier := List.find?_some found
    simp only [Bool.and_eq_true, beq_iff_eq] at carrier
    exact carrier.1
  iterate 2 exact (carried.frame (leaveTransfer_frame _ _)).only (broadcast_only _ _)

/-! ## Tests begin, run and end (R154 to R159) -/

/-- The tests of the other ports are right where one port's record alone has changed. -/
theorem setTest_others {t : Option TestRec} (h : TestsRightBut [] s) {q : Port} (e : q ≠ p) : TestedRight q (setTest p t s) := by
  have right := (h q).2 List.not_mem_nil
  simpa [TestedRight, Idle, State.runningTest, e] using right

/-- A running test's record is replaced by a running one. -/
theorem setTest_running {t u : TestRec} (h : TestsRightBut [] s) (run : s.runningTest p = some t) (runs : u.running = true) :
    TestsRightBut [] (setTest p (some u) s) := fun q => by
  refine ⟨fun m => absurd m List.not_mem_nil, fun _ => ?_⟩
  by_cases e : q = p
  · subst e
    have busy : ¬ Idle q s := by simp [Idle, run]
    have right := (h q).2 List.not_mem_nil
    simp only [TestedRight, busy, not_false_eq_true, iff_true] at right
    simp [TestedRight, Idle, State.runningTest, runs, right]
  · exact h.setTest_others e

/-- R159: a running test ends, and the port leaves TEST. -/
theorem endTest {t : TestRec} (h : TestsRightBut [] s) : TestsRightBut [] (endTest p t s) := by
  have idle : Idle p (setTest p (some (t.finished s.time .done none)) s) :=
    idle_iff.2 (by simp [TestRec.finished, TestRec.running])
  have finished : TestsRightBut [p] (setTest p (some (t.finished s.time .done none)) s) := fun q => by
    refine ⟨fun m => List.mem_singleton.1 m ▸ idle, fun m => h.setTest_others ?_⟩
    simpa using m
  have told : Only [.downlink, .links, .sent] (setTest p (some (t.finished s.time .done none)) s)
      ((match t.mode with
        | .loc => id
        | .unit | .remote => send p .testEnd) (echoOff p t (setTest p (some (t.finished s.time .done none)) s))) := by
    have off := echoOff_only p t (setTest p (some (t.finished s.time .done none)) s)
    generalize echoOff p t _ = u at off ⊢
    cases t.mode with
    | loc => exact off.mono (by decide)
    | unit | remote => exact off.andThen (send_only _ _ _)
  have left := ((finished.only told).portTo (st := .standby) (c := .testEnd) (g := id) (by decide)).only
    (broadcast_only (.testResult p (t.finished s.time .done none)) _)
  have stays (v : State) : Only [.ports, .links] v (broadcast (.testResult p (t.finished s.time .done none))
      (Machine.portTo p .standby .testEnd id v)) := (portTo_only _ _ _ _ _).andThen (broadcast_only _ _)
  exact left.takeUpClosed ((idle.of_tests told.tests).of_tests (stays _).tests)

/-- R155: a test starts on a STANDBY port, which enters TEST. -/
theorem startTest {t : TestRec} (h : TestsRightBut [] s) (runs : t.running = true) : TestsRightBut [] (startTest p t s) := by
  have told : Only [.ports, .links, .sent, .downlink] (setTest p (some t) { s with sequences := s.sequences.put p t.seq })
      (Machine.startTest p t s) := by
    refine Only.andThen (fs := [.ports, .links, .sent]) ?_ (echoOn_only _ _ _)
    exact (portTo_only _ _ _ _ _).andThen (testOrder_only _ _ _)
  have portOnly : Only [.links, .sent, .downlink] (Machine.portTo p .test .testStart id
      (setTest p (some t) { s with sequences := s.sequences.put p t.seq })) (Machine.startTest p t s) :=
    (testOrder_only _ _ _).andThen (echoOn_only _ _ _)
  have base : TestsRightBut [] { s with sequences := s.sequences.put p t.seq } := h.of_same rfl fun _ => rfl
  intro q
  refine ⟨fun m => absurd m List.not_mem_nil, fun _ => ?_⟩
  have port := State.port_congr portOnly.ports q
  have testOf := State.testOf_congr told.tests q
  simp only [TestedRight, Idle, State.runningTest, port, testOf, portTo_port]
  by_cases e : q = p
  · simp [e, runs]
  · simpa only [TestedRight, Idle, State.runningTest, e, if_false] using base.setTest_others (t := some t) e

end

/-! ## ENTER_SERVICE and RESTART (R146, R188, R189) -/

section
variable {ps qs : List Port} {s : State}

theorem widen (h : TestsRightBut ps s) (sub : ∀ q ∈ ps, q ∈ qs) (idle : ∀ q ∈ qs, Idle q s) : TestsRightBut qs s := fun q =>
  ⟨idle q, fun m => (h q).2 fun k => m (sub q k)⟩

/-- An operation that settles the port of one item settles the ports of all items. -/
theorem settlesEach {f : Chan × Port → State → State} (each : ∀ x ps t, TestsRightBut (x.2 :: ps) t → TestsRightBut ps (f x t))
    (xs : List (Chan × Port)) (h : TestsRightBut (xs.map (·.2)) s) : TestsRightBut [] (forEach xs f s) := by
  induction xs generalizing s with
  | nil => exact h
  | cons x xs ih => exact ih (each x _ _ h)

theorem abortsEach (r : AbortReason) (xs : List (Chan × Port)) (h : TestsRightBut ps s) :
    TestsRightBut (xs.reverse.map (·.2) ++ ps) (forEach xs (fun x => abortTest x.2 r) s) := by
  induction xs generalizing ps s with
  | nil => exact h
  | cons x xs ih =>
    have later := ih (h.aborts (p := x.2) r)
    rw [List.reverse_cons, List.map_append, List.append_assoc]
    exact later

end

end TestsRightBut

theorem mem_plan {s : State} {f : PortState → Bool} {x : Chan × Port} :
    x ∈ plan s f ↔ (s.chan x.1).inUse = true ∧ (s.chan x.1).port = some x.2 ∧ f (s.port x.2).state = true := by
  obtain ⟨ch, p⟩ := x
  have all : ch ∈ allChans := by revert ch; decide
  unfold plan
  rw [List.mem_filterMap]
  constructor
  · rintro ⟨c, -, h⟩
    split at h
    · next inUse =>
      obtain ⟨q, hq, e⟩ := Option.map_eq_some_iff.1 h
      cases e
      obtain ⟨hq, state⟩ := Option.filter_eq_some_iff.1 hq
      exact ⟨inUse, hq, state⟩
    · cases h
  · rintro ⟨inUse, port, state⟩
    refine ⟨ch, all, ?_⟩
    dsimp only at inUse port state ⊢
    rw [if_pos inUse, port]
    simp [state]

namespace TestsRightBut

variable {s : State}

theorem placeChannels (h : TestsRightBut [] s) : TestsRightBut [] (placeChannels s) := by
  have aborted := h.abortsEach .failover (plan s (· == .test))
  rw [List.append_nil] at aborted
  have stayIdle (q : Port) (idle : Idle q s) : Idle q (forEach (plan s (· == .test)) (fun x => abortTest x.2 .failover) s) :=
    forEach_keeps (Q := Idle q) _ (fun x _ t i => abortTest_idle x.2 .failover q (.inr i)) s idle
  have ready (q : Port) (m : q ∈ (plan s (fun st => st == .standby || st == .test)).map (·.2)) :
      Idle q (forEach (plan s (· == .test)) (fun x => abortTest x.2 .failover) s) := by
    obtain ⟨x, hx, rfl⟩ := List.mem_map.1 m
    obtain ⟨inUse, port, state⟩ := mem_plan.1 hx
    by_cases test : (s.port x.2).state = .test
    · refine (aborted x.2).1 (List.mem_map.2 ⟨x, List.mem_reverse.2 (mem_plan.2 ⟨inUse, port, ?_⟩), rfl⟩)
      simp [test]
    · exact stayIdle _ (h.idle test)
  have carried := settlesEach (f := carryNow) (fun x ps t ht =>
    ((((ht.portTo (by decide)).only (send_only _ _ _)).servePort).frame (modFloor_frame _ _ _))) _
      (aborted.widen (fun q m => by
        obtain ⟨x, hx, rfl⟩ := List.mem_map.1 m
        obtain ⟨inUse, port, state⟩ := mem_plan.1 (List.mem_reverse.1 hx)
        exact List.mem_map.2 ⟨x, mem_plan.2 ⟨inUse, port, by simp [state]⟩, rfl⟩) ready)
  have carryOnly (x : Chan × Port) (t : State) : Only [.ports, .links, .sent, .floors] t (carryNow x t) :=
    (((portTo_only _ _ _ _ _).andThen (hs := [.ports, .links, .sent]) (send_only _ _ _)).andThen (hs := [.ports, .links, .sent])
      (servePort_only _ _ _)).andThen (modFloor_only _ _ _)
  have tuned := settlesEach (f := tuneAbsent) (fun x ps t ht =>
    (((ht.modPort (g := fun r => { r with lastHealth := some t.time })).tuneTo).frame (openTransfer_frame _ _)).only
      (reportTransfer_only _ _ _ _)) (plan s (· == .absent)) (carried.widen (fun _ m => absurd m List.not_mem_nil) fun q m => by
        obtain ⟨x, hx, rfl⟩ := List.mem_map.1 m
        have absent : Idle x.2 s := h.idle (by simpa using fun e => by simpa [e] using (mem_plan.1 hx).2.2)
        exact (stayIdle _ absent).of_tests (Only.forEach _ (fun x _ t => carryOnly x t) _).tests)
  refine forEach_keeps (Q := TestsRightBut []) _ (fun x _ t ht => ?_) _ tuned
  have entered {ps : List Port} (o : Option Port) {u : State} (hu : TestsRightBut ps u) :
      TestsRightBut ps (reportTransfer x.1 none o (openTransfer x.1 u)) :=
    (hu.frame (openTransfer_frame _ _)).only (reportTransfer_only _ _ _ _)
  exact ht.spareSearch (fun q _ hu => entered (some q) hu) ((entered none ht).frame (closeChannel_frame _ _))

theorem enterService (h : TestsRightBut [] s) : TestsRightBut [] (enterService s) :=
  placeChannels (h.of_same rfl fun _ => rfl)

end TestsRightBut

/-! ## RESTART (R189) -/

/-- R189 step 5: no port is left in TEST. -/
theorem restartPort_state (p q : Port) (s : State) (h : q = p ∨ (s.port q).state ≠ .test) : ((restartPort p s).port q).state ≠ .test := by
  unfold restartPort
  split
  · rw [shutPort_port]
    split
    · next e => subst e; rw [portTo_port, if_pos rfl]; simp
    · next e => rw [portTo_port, if_neg e]; exact h.resolve_left e
  iterate 2
    rw [portTo_port]
    split
    · simp
    · next e => exact h.resolve_left e
  all_goals
    next state =>
      rcases h with rfl | h
      · simp [state]
      · exact h

theorem restart_testLaw (s : State) : TestsRightBut [] (restart s) := by
  have noTest (q : Port) : ((forEach allPorts restartPort (clearAll s)).port q).state ≠ .test := by
    have through (xs : List Port) (t : State) (h : q ∈ xs ∨ (t.port q).state ≠ .test) :
        ((forEach xs restartPort t).port q).state ≠ .test := by
      induction xs generalizing t with
      | nil => exact h.resolve_left List.not_mem_nil
      | cons x xs ih =>
        by_cases e : q = x
        · exact ih _ (.inr (restartPort_state x q t (.inl e)))
        · rcases h with m | m
          · exact ih _ (.inl ((List.mem_cons.1 m).resolve_left e))
          · exact ih _ (.inr (restartPort_state x q t (.inr m)))
    exact through _ _ (.inl (mem_allPorts q))
  intro q
  refine ⟨fun m => absurd m List.not_mem_nil, fun _ => ?_⟩
  have idle : Idle q (restart s) := by
    have none : (restart s).testOf q = none := Tab.get_fill ..
    simp [Idle, State.runningTest, none]
  have port : ((restart s).port q).state ≠ .test := by
    unfold restart
    generalize forEach allPorts restartPort (clearAll s) = u at noTest
    exact noTest q
  exact ⟨fun i => absurd i port, fun busy => absurd idle busy⟩

/-! ## The rows -/

theorem TestRec.takes_running {t : TestRec} (now : Time) (b : Bool) (h : t.running = true) : (t.takes now b).running = true := by
  rw [TestRec.running_iff] at h ⊢
  unfold TestRec.takes TestRec.judged TestRec.counts
  rcases h with h | h
  · simp only [h]
    split
    · exact .inl rfl
    · split
      · exact .inr rfl
      · exact .inl rfl
  · simp only [h]
    split
    · exact .inr rfl
    · split
      · exact .inl rfl
      · exact .inr rfl

theorem runningTest_running {p : Port} {s : State} {t : TestRec} (h : s.runningTest p = some t) : t.running = true :=
  (Option.filter_eq_some_iff.1 h).2

theorem TestRec.generates_running {t : TestRec} (now : Time) (h : t.running = true) : (t.generates now).running = true := by
  unfold TestRec.generates
  have shifted : ({ t with
      generator := advance t.generator, insertPending := false
      inserted := saturate 65535 t.insertPending.toNat t.inserted } : TestRec).running = true := h
  cases t.mode with
  | loc => exact TestRec.takes_running _ _ shifted
  | unit | remote => exact shifted

theorem foldl_takes_running (now : Time) (bs : List Bool) {t : TestRec} (h : t.running = true) :
    (bs.foldl (TestRec.takes now) t).running = true := by
  induction bs generalizing t with
  | nil => exact h
  | cons b bs ih => exact ih (TestRec.takes_running now b h)

/-! ## Commands and rows -/

namespace TestsRightBut

theorem startCommand {b m : Byte} {dur : BitVec 16} {remote : Option (UnitId × BitVec 16)} {s : State} (h : TestsRightBut [] s) :
    TestsRightBut [] (cmdStartTest b m dur remote s).2 := by
  refine look_keeps (check_keeps h fun _ => need_keeps h fun p _ => check_keeps h fun _ => need_keeps h fun mode _ => look_keeps ?_)
  split
  · exact h
  · exact check_keeps h fun _ => need_keeps h fun _ _ => check_keeps h fun _ => check_keeps h fun _ => h.startTest rfl
  · exact h.startTest rfl

theorem commands (link : Console) (c : Command) (s : State) (h : TestsRightBut [] s) : TestsRightBut [] (runCommand link c s).2 := by
  have only := runCommand_only link c s
  have apart (ports : .ports ∉ commandFields c) (tests : .tests ∉ commandFields c) : TestsRightBut [] (runCommand link c s).2 :=
    h.only only tests ports
  cases c with
  | setGlobal | removeMember | moveChannel | releaseMove | talkRequest | talkEnd | play =>
    exact h.of_same (only.tests (by simp [commandFields])) fun q => (keepsPorts_command link rfl s).state q
  | enterService =>
    refine look_keeps (check_keeps h fun _ => ?_)
    cases planFault s with
    | some x => exact h
    | none => exact h.enterService
  | restart => exact look_keeps (check_keeps h fun _ => restart_testLaw s)
  | swapPort ch =>
    refine look_keeps (check_keeps h fun _ => need_keeps h fun _ _ => check_keeps h fun _ => check_keeps h fun _ =>
      need_keeps h fun p spare => ?_)
    have state : (s.port p).state = .standby := by simpa using List.find?_some spare
    exact (h.cons (h.idle (by simp [state]))).tuneTo
  | isolatePort p => exact look_keeps (need_keeps h fun _ _ => iteFun_keeps (fun _ => h) fun _ => h.isolate)
  | restorePort b =>
    refine look_keeps (need_keeps h fun p _ => check_keeps h fun isolated => ?_)
    exact (h.cons (h.idle (by simp only [beq_iff_eq] at isolated; simp [isolated]))).portTo (by decide)
  | startTest => exact h.startCommand
  | stopTest p => exact look_keeps (need_keeps h fun _ _ => need_keeps h fun _ _ => h.endTest)
  | insertError p =>
    refine look_keeps (need_keeps h fun _ _ => need_keeps h fun x run => check_keeps h fun _ => h.setTest_running run ?_)
    exact (runningTest_running run : x.running = true)
  | _ => exact apart (by simp [commandFields]) (by simp [commandFields])

theorem rows (i : Instr) (touches : rowTouches [.ports, .tests] i = true) (s t : State) (h : TestsRightBut [] s)
    (e : exec i s = .next t) : TestsRightBut [] t := by
  have portRows (tests : rowTouches [.tests] i = true) : TestsRightBut [] t := by
    have settled {f : State → State} (e : event f s = .next t) (k : TestsRightBut [] (f s)) : TestsRightBut [] t :=
      event_keeps h (k.only (settle_only _)) e
    cases i <;> cases touches <;> cases tests
    all_goals dsimp only [exec] at e
    case healthReport p st => exact settled e (ite_keeps (fun _ => h) fun _ => whenSome_keeps h fun _ _ => h.takeHealth)
    case tuned p =>
      exact settled e (ite_keeps (fun state => whenSome_keeps h fun _ _ => whenSome_keeps h fun _ _ => h.tuned state) fun _ => h)
    case healthSilence p => exact settled e (expiry_keeps h fun _ => h.silence)
    case restorationMark p => exact settled e (expiry_keeps h fun _ => h.restored)
    case tuneDeadline p => exact settled e (ite_keeps (fun _ => expiry_keeps h fun _ => h.failPort) fun _ => h)
    case testEndTime p => exact settled e (whenSome_keeps h fun _ _ => expiry_keeps h fun _ => h.endTest)
    case echoTestData p bytes =>
      refine settled e (ite_keeps (fun _ => whenSome_keeps h fun x run => ite_keeps (fun _ => h) fun _ => ?_) fun _ => h)
      exact h.setTest_running run (foldl_takes_running _ _ (runningTest_running run))
    case testBit p =>
      refine settled e (whenSome_keeps h fun x run => ?_)
      have generated := h.setTest_running run (x.generates_running s.time (runningTest_running run))
      cases x.mode with
      | loc => exact generated
      | unit | remote => exact generated.only (send_only _ _ _)
  cases tests : rowTouches [.tests] i with
  | true => exact portRows tests
  | false =>
    have floors : rowTouches [.floors] i = true := by cases i <;> cases touches <;> first | rfl | cases tests
    have apart : .tests ∉ rowFields i := by cases i <;> cases touches <;> cases tests <;> simp [rowFields]
    exact h.of_same ((rowTouches_only touches e).tests apart) fun q => (keepsPorts_row floors tests e).state q

end TestsRightBut

/-- Settles O59: an event that ends a test or takes a port out of TEST does both, and START_TEST begins a test and puts its port
in TEST. -/
theorem everyStepKeepsTheTests : Obligations.EveryStepKeepsTheTests := by
  intro s t h e
  rw [testLaw_iff] at h ⊢
  have reads : ReadsOnly [.ports, .tests] (TestsRightBut []) := fun s t agree h =>
    h.of_same (agree .tests (by simp)) fun q => congrArg PortRec.state (State.port_congr (agree .ports (by simp)) q)
  exact step_keeps reads (by decide) (testLaw_iff.1 reset_testLaw) TestsRightBut.commands TestsRightBut.rows h e

end Sys2Proof.Machine

/-! PROOF. The Move Table after each of the operations that the move events share: which records they leave, and with what.
A record that stays in its place keeps its members and its right to be what FaultCountLaw asks. -/

namespace Sys2Proof.Machine

set_option Elab.async false

/-! ## Records after the shared operations -/

theorem modMove_move (i : MoveIx) (g : Move → Move) (s : State) (j : MoveIx) :
    (modMove i g s).move j = if j = i then (s.move i).map g else s.move j := setMove_move _ _ _ _

/-- R95: a record without its pending handover. -/
def Move.withoutHandover (m : Move) : Move := { m with handover := none }

/-- R95: the record after a cancelled handover. -/
theorem cancelHandover_move (i : MoveIx) (c : HandoverCause) (s : State) (j : MoveIx) :
    (cancelHandover i c s).move j = if j = i then (s.move i).map Move.withoutHandover else s.move j := by
  unfold cancelHandover
  cases hm : s.move i with
  | none => by_cases e : j = i <;> simp [e, hm]
  | some m =>
    dsimp only
    split
    · next hh =>
      have same : m.withoutHandover = m := by cases m; cases hh; rfl
      by_cases e : j = i <;> simp [e, hm, same]
    · rw [State.move_congr (notify_only _ _ _).moves, setMove_move]
      rfl

/-- R14: a record without a handset, and without a handover to it. -/
def Move.withoutHandset (u : UnitId) (m : Move) : Move :=
  { m with
    handsets := m.handsets.filter (fun e => e.unit != u)
    handover := if m.handover.map (·.target) = some u then none else m.handover }

/-- R14: the record after the removal of a handset. -/
theorem removeHandset_move (leave : Bool) (i : MoveIx) (u : UnitId) (s : State) (j : MoveIx) :
    (removeHandset leave i u s).move j = if j = i then (s.move i).map (Move.withoutHandset u) else s.move j := by
  unfold removeHandset
  cases hm : s.move i with
  | none => by_cases e : j = i <;> simp [e, hm]
  | some m =>
    dsimp only
    have claims := (cancelClaims_only m.channel .released u s).moves
    have order (t : State) : ((if leave then orderTo u (.leaveOrder i) else id) t).moves = t.moves :=
      (Only.iteFun (fs := [.downlink, .links]) _ (orderTo_only _ _ _) (.refl _ _)).moves
    rw [State.move_congr (unbindUnit_only _ _).moves, modMove_move]
    simp only [State.move_congr (order _)]
    by_cases target : m.handover.map (·.target) = some u
    · rw [if_pos target]
      simp only [cancelHandover_move, State.move_congr claims, hm, if_true, Option.map_some]
      by_cases e : j = i
      · simp [e, Move.withoutHandset, Move.withoutHandover, target]
      · simp [e]
    · rw [if_neg target]
      simp only [id_eq, State.move_congr claims, hm]
      by_cases e : j = i
      · simp [e, Move.withoutHandset, target]
      · simp [e]

/-- R10: the record after the removal of several handsets. -/
theorem removeHandsets_move (leave : Bool) (i : MoveIx) (us : List UnitId) (s : State) (j : MoveIx) :
    (forEach us (removeHandset leave i) s).move j =
      if j = i then (s.move i).map (fun m => us.foldl (fun m u => m.withoutHandset u) m) else s.move j := by
  induction us generalizing s with
  | nil => by_cases e : j = i <;> simp [forEach, e]
  | cons u us ih =>
    show (forEach us (removeHandset leave i) (removeHandset leave i u s)).move j = _
    rw [ih]
    simp only [removeHandset_move, if_true, Option.map_map]
    by_cases e : j = i
    · rw [if_pos e, if_pos e]; rfl
    · rw [if_neg e, if_neg e, if_neg e]

theorem foldl_withoutHandset (us : List UnitId) (m : Move) :
    us.foldl (fun m u => m.withoutHandset u) m =
      { m with
        handsets := m.handsets.filter (fun e => decide (e.unit ∉ us))
        handover := if m.handover.any (fun h => decide (h.target ∈ us)) then none else m.handover } := by
  induction us generalizing m with
  | nil => cases m; simp
  | cons u us ih =>
    rw [List.foldl_cons, ih]
    have rest : (m.withoutHandset u).handsets.filter (fun e => decide (e.unit ∉ us)) =
        m.handsets.filter (fun e => decide (e.unit ∉ u :: us)) := by
      simp [Move.withoutHandset, List.filter_filter, bne, beq_eq_decide, Bool.and_comm]
    rw [rest]
    cases hh : m.handover with
    | none => simp [Move.withoutHandset, hh]
    | some h => by_cases e : h.target = u <;> simp [Move.withoutHandset, hh, e]

/-- R21: the record is free after its release. -/
theorem freeMove_move (leaves : Member → Bool) (i : MoveIx) (m : Move) (s : State) (j : MoveIx) :
    (freeMove leaves i m s).move j = if j = i then none else s.move j := by
  have kept : (forEach m.units unbindUnit (forEach ((m.members.filter leaves).map (·.unit)) (fun u => orderTo u (.leaveOrder i))
      (endHangsFor (.move i) allChans (forEach m.units (cancelClaims m.channel .released)
        (discardAlerts m.channel i s))))).moves = s.moves := by
    refine (Only.forEach (fs := [.units]) _ (fun _ _ _ => unbindUnit_only _ _) _).moves.trans ?_
    refine (Only.forEach (fs := [.downlink, .links]) _ (fun _ _ _ => orderTo_only _ _ _) _).moves.trans ?_
    refine (endHangsFor_only _ _ _).moves.trans ?_
    refine (Only.forEach (fs := talkFields) _ (fun _ _ _ => cancelClaims_only _ _ _ _) _).moves.trans ?_
    exact (discardAlerts_frame _ _ _).only.moves
  unfold freeMove
  rw [setMove_move, State.move_congr kept]

/-! ## Records that stay -/

/-- R80, R1: what FaultCountLaw asks of one record. -/
def Move.Right (m : Move) : Prop :=
  1 ≤ m.faultLimit ∧ m.faultLimit ≤ 7 ∧ m.faultCount ≤ m.faultLimit ∧
    (m.faultCount = m.faultLimit →
      m.state = .releasing ∨ (m.state = .stopHeld ∨ m.state = .suspended) ∧ m.suspensionPending = true) ∧
    (m.formingDeadline.isSome = true → m.state = .forming)

/-- A record after a change of its move that leaves its members, and keeps what FaultCountLaw asks of it. -/
structure Move.Steady (m m' : Move) : Prop where
  units : m'.units = m.units
  right : m.Right → m'.Right

theorem Move.Steady.refl (m : Move) : m.Steady m := ⟨rfl, id⟩

theorem Move.Steady.trans {m n k : Move} (h : m.Steady n) (g : n.Steady k) : m.Steady k :=
  ⟨g.units.trans h.units, fun r => g.right (h.right r)⟩

/-- Every record stays in its place, changed steadily. -/
def MovesSteady (s t : State) : Prop :=
  ∀ i, t.move i = s.move i ∨ ∃ m m', s.move i = some m ∧ t.move i = some m' ∧ m.Steady m'

namespace MovesSteady

variable {s t u : State} {i : MoveIx} {m m' : Move}

theorem of_moves (h : t.moves = s.moves) : MovesSteady s t := fun _ => .inl (State.move_congr h _)

theorem refl (s : State) : MovesSteady s s := of_moves rfl

theorem trans (h : MovesSteady s t) (k : MovesSteady t u) : MovesSteady s u := by
  intro i
  rcases h i, k i with ⟨e | ⟨m, n, hm, hn, st⟩, e' | ⟨n', k, hn', hk, st'⟩⟩
  · exact .inl (e'.trans e)
  · exact .inr ⟨n', k, e ▸ hn', hk, st'⟩
  · exact .inr ⟨m, n, hm, e' ▸ hn, st⟩
  · cases hn.symm.trans hn'
    exact .inr ⟨m, k, hm, hk, st.trans st'⟩

theorem only {fs : List Field} (h : MovesSteady s t) (k : Only fs t u) (apart : .moves ∉ fs := by decide) : MovesSteady s u :=
  h.trans (of_moves (k.moves apart))

theorem of_only {fs : List Field} (k : Only fs s t) (apart : .moves ∉ fs := by decide) : MovesSteady s t :=
  of_moves (k.moves apart)

/-- What a part of an event does to the records, and what the parts before it did. -/
theorem through {fs : List Field} (k : Only fs t u) (h : MovesSteady s t) (apart : .moves ∉ fs := by decide) : MovesSteady s u :=
  h.only k apart

theorem comp (k : MovesSteady t u) (h : MovesSteady s t) : MovesSteady s u := h.trans k

theorem set (hm : s.move i = some m) (k : m.Steady m') : MovesSteady s (setMove i (some m') s) := by
  intro j
  by_cases e : j = i
  · subst e; exact .inr ⟨m, m', hm, by simp, k⟩
  · exact .inl (by simp [e])

/-- A change of a record that is looked up in the state it is changed in. -/
theorem mod {g : Move → Move} (k : ∀ m, s.move i = some m → m.Steady (g m)) : MovesSteady s (modMove i g s) := by
  intro j
  rw [modMove_move]
  by_cases e : j = i
  · subst e
    cases hm : s.move j with
    | none => exact .inl (by simp)
    | some m => exact .inr ⟨m, g m, rfl, by simp, k m hm⟩
  · exact .inl (by simp [e])

theorem cancelHandover (c : HandoverCause) : MovesSteady s (cancelHandover i c s) := by
  intro j
  rw [cancelHandover_move]
  by_cases e : j = i
  · subst e
    cases hm : s.move j with
    | none => exact .inl (by simp)
    | some m => exact .inr ⟨m, m.withoutHandover, rfl, by simp, rfl, id⟩
  · exact .inl (by simp [e])

/-- R79: a fault opens a stop hold in ACTIVE; a CREW_STOP does so in the states of R82. -/
theorem faulted {k : FaultKind} (now : Time)
    (h : m.state = .active ∨ k = .crewStop ∧ (m.state = .stopHeld ∨ m.state = .recovery ∨ m.state = .suspended)) :
    m.Steady (m.faulted now k) := by
  refine ⟨rfl, fun ⟨low, high, count, limit, forming⟩ => ⟨low, high, ?_, ?_, ?_⟩⟩
  · show m.countAfter k ≤ m.faultLimit
    unfold Move.countAfter
    split
    · exact count
    · next notCrew =>
      have active : m.state = .active := h.resolve_right fun x => notCrew x.1
      have below : m.faultCount ≠ m.faultLimit := fun e => by simpa [active] using limit e
      omega
  · intro reached
    refine .inr ⟨.inl rfl, ?_⟩
    have reached : m.countAfter k = m.faultLimit := reached
    show m.pendingAfter k = true
    by_cases crew : k = .crewStop
    · have same : m.faultCount = m.faultLimit := by simpa [Move.countAfter, crew] using reached
      have pending : m.suspensionPending = true := by
        rcases h with active | ⟨-, state⟩
        · simpa [active] using limit same
        · rcases limit same with released | ⟨-, pending⟩
          · simp [released] at state
          · exact pending
      simp [Move.pendingAfter, pending]
    · simp [Move.pendingAfter, crew, reached]
  · intro deadline
    have state := forming deadline
    simp [state] at h

theorem reportFault (k : FaultKind) : MovesSteady s (reportFault i k m s) :=
  through (reportUndeliverable_only _ _ _) (through (notify_only _ _ _) (comp (cancelHandover _)
    (of_only (requestAlert_frame _ _ _).only)))

theorem raiseFault {k : FaultKind}
    (h : ∀ m, s.move i = some m →
      m.state = .active ∨ k = .crewStop ∧ (m.state = .stopHeld ∨ m.state = .recovery ∨ m.state = .suspended)) :
    MovesSteady s (raiseFault i k s) := by
  unfold Machine.raiseFault
  split
  · exact refl _
  · next m hm => exact comp (reportFault _) (through (orderTo_only _ _ _) (set hm (faulted _ (h m hm))))

theorem crewStop : MovesSteady s (crewStop i s) := by
  unfold Machine.crewStop
  split
  · exact refl _
  · next m hm =>
    refine ite_keeps (Q := MovesSteady s) (fun _ => ?_) fun _ => refl _
    have stops (h : m.state = .active ∨ m.state = .stopHeld ∨ m.state = .recovery ∨ m.state = .suspended) :
        MovesSteady s (Machine.raiseFault i .crewStop s) :=
      raiseFault fun n hn => by
        cases hm.symm.trans hn
        exact h.imp_right fun x => ⟨rfl, x⟩
    split
    · exact stops (.inl ‹_›)
    · exact stops (.inr (.inl ‹_›))
    · exact stops (.inr (.inr (.inl ‹_›)))
    · exact stops (.inr (.inr (.inr ‹_›)))
    all_goals exact refl _

theorem startOffers : MovesSteady s (startOffers i s) := by
  unfold Machine.startOffers
  split
  · exact refl _
  · next m hm =>
    have begun := set hm (m' := { m with windowStart := some s.time, closedEnd := none, deadline := none, repeats := 0 }) ⟨rfl, id⟩
    generalize setMove i _ s = t at begun ⊢
    cases m.controller with
    | none => exact begun
    | some u => exact begun.only (orderTo_only _ _ _)

/-- A record that leaves a hold, or a suspension, for a running state. -/
theorem runs {st : MoveState} (below : m.Right → m.faultCount ≠ m.faultLimit) (notForming : m.state ≠ .forming) :
    m.Steady { m with state := st } :=
  ⟨rfl, fun r => ⟨r.1, r.2.1, r.2.2.1, fun e => absurd e (below r), fun d => absurd (r.2.2.2.2 d) notForming⟩⟩

theorem endHold (h : ∀ m, s.move i = some m → m.state = .stopHeld) : MovesSteady s (endHold i s) := by
  unfold Machine.endHold
  split
  · exact refl _
  · next m hm =>
    have held := h m hm
    refine ite_keeps (Q := MovesSteady s) (fun pending => ?_) fun notPending => ?_
    · refine through (notify_only _ _ _)
        (set hm ⟨rfl, fun ⟨low, high, count, limit, forming⟩ => ⟨low, high, count, fun _ => ?_, fun d => ?_⟩⟩)
      · exact .inr ⟨.inr rfl, pending⟩
      · exact absurd (forming d) (by simp [held])
    · refine through (notify_only _ _ _) (comp startOffers (set hm (runs ?_ (by simp [held]))))
      intro ⟨_, _, _, limit, _⟩ reached
      rcases limit reached with released | ⟨-, p⟩
      · simp [held] at released
      · exact notPending p

theorem assignControl {former new : UnitId} : MovesSteady s (assignControl i m former new s) :=
  of_only (assignControl_only _ _ _ _ _)

theorem setController {former new : UnitId} (hm : s.move i = some m) : MovesSteady s (setController i m former new s) := by
  have assigned : MovesSteady s (Machine.assignControl i m former new
      (Machine.cancelHandover i .controllerSet (setMove i (some { m with controller := some new }) s))) :=
    comp assignControl (comp (cancelHandover _) (set hm ⟨rfl, id⟩))
  unfold Machine.setController
  generalize Machine.assignControl i m former new _ = t at assigned ⊢
  cases m.state with
  | active => exact comp (mod fun _ _ => ⟨rfl, id⟩) assigned
  | recovery => exact assigned.trans startOffers
  | forming | stopHeld | suspended | releasing => exact assigned

theorem orderJoins {ch : Chan} {us : List UnitId} : MovesSteady s (orderJoins i ch us s) := of_only (orderJoins_only _ _ _ _)

theorem moveToChannel {ch : Chan} : MovesSteady s (moveToChannel i m ch s) := by
  unfold Machine.moveToChannel
  have before : MovesSteady s (discardAlerts m.channel i (endHangsFor (.move i) [m.channel]
      (forEach m.units (fun u => cancelClaim m.channel .moved (.unit u)) s))) :=
    ((of_only (Only.forEach (fs := talkFields) _ (fun _ _ _ => (cancelClaim_frame _ _ _ _).only) _)).only
      (endHangsFor_only _ _ _)).only (discardAlerts_frame _ _ _).only
  refine comp orderJoins (comp (mod fun n _ => ⟨?_, id⟩) (comp (cancelHandover _) before))
  simp [Move.units, Move.members, Member.rejoins, Function.comp_def]

theorem enterReleasing (hm : s.move i = some m) (notForming : m.state ≠ .forming) :
    MovesSteady s (enterReleasing i m s) := by
  have entered : m.Steady { m with
      state := .releasing, releaseDeadline := some (after s.time 5000), windowStart := none, closedEnd := none
      deadline := none, repeats := 0 } :=
    ⟨rfl, fun ⟨low, high, count, limit, forming⟩ => ⟨low, high, count, fun _ => .inl rfl, fun d => absurd (forming d) notForming⟩⟩
  exact through (reportUndeliverable_only _ _ _) (through (orderTo_only _ _ _) (comp (mod fun _ _ => ⟨rfl, id⟩)
    (comp (cancelHandover _) (set hm entered))))

theorem modMember_units (u : UnitId) (g : Member → Member) (keeps : ∀ e, (g e).unit = e.unit) (m : Move) :
    (m.modMember u g).units = m.units := by
  have each (e : Member) : (if e.unit == u then g e else e).unit = e.unit := by split <;> simp [keeps]
  simp only [Move.modMember, Move.units, Move.members, List.map_cons, List.map_map, Function.comp_def, each]

theorem modMember (hm : s.move i = some m) (u : UnitId) (g : Member → Member) (keeps : ∀ e, (g e).unit = e.unit) :
    MovesSteady s (setMove i (some (m.modMember u g)) s) :=
  set hm ⟨modMember_units u g keeps m, id⟩

theorem becomesActive (now : Time) (h : m.state = .forming ∨ m.state = .recovery) : m.Steady (m.becomesActive now) := by
  have units : (m.becomesActive now).units = m.units := by unfold Move.becomesActive; split <;> rfl
  refine ⟨units, fun ⟨low, high, count, limit, forming⟩ => ?_⟩
  have below : m.faultCount ≠ m.faultLimit := fun e => by
    rcases h with h | h <;> simpa [h] using limit e
  unfold Move.becomesActive
  split <;> exact ⟨low, high, count, fun e => absurd e below, by simp⟩

theorem lastJoined : MovesSteady s (lastJoined i s) := by
  unfold Machine.lastJoined
  split
  · exact refl _
  · next m hm =>
    refine ite_keeps (Q := MovesSteady s) (fun _ => ite_keeps (Q := MovesSteady s) (fun forming => ?_) fun _ => ?_) fun _ => refl _
    · exact through (notify_only _ _ _) (set hm (becomesActive _ (.inl forming)))
    · exact set hm ⟨rfl, id⟩

theorem joinedBy {u : UnitId} {move ch : Byte} : MovesSteady s (joinedBy u move ch s) := by
  refine whenSome_keeps (Q := MovesSteady s) (refl _) fun i _ => whenSome_keeps (Q := MovesSteady s) (refl _) fun m hm =>
    whenSome_keeps (Q := MovesSteady s) (refl _) fun e _ => ite_keeps (Q := MovesSteady s) (fun _ => ?_) fun _ => refl _
  exact through (serveFreed_only _ _) (comp lastJoined (through (comeTo_only _ _ _) (modMember hm _ _ fun _ => rfl)))

theorem repeatJoin {u : UnitId} : MovesSteady s (repeatJoin i u s) :=
  whenSome_keeps (Q := MovesSteady s) (refl _) fun _ hm => whenSome_keeps (Q := MovesSteady s) (refl _) fun _ _ =>
    ite_keeps (Q := MovesSteady s) (fun _ => through (orderTo_only _ _ _) (modMember hm _ _ fun _ => rfl)) fun _ => refl _

end MovesSteady

end Sys2Proof.Machine

/-! PROOF. O56: what SET_CHANNEL and SET_GLOBAL write lies in its range, and a move's count reaches its limit only where the
move then waits for its suspension. -/

namespace Sys2Proof.Machine

set_option Elab.async false

/-! ## Ranges (R190, R191) -/

theorem clamp_bounds {lo hi : Nat} (range : lo ≤ hi) (n : Nat) : lo ≤ (clamp lo hi n).1 ∧ (clamp lo hi n).1 ≤ hi := by
  unfold clamp
  split
  · exact ⟨le_refl _, range⟩
  · split
    · exact ⟨range, le_refl _⟩
    · exact ⟨by omega, by omega⟩

/-- 0.6.4: a field that was in its range is in it after a command. -/
theorem clampField_bounds {lo hi step old : Nat} (v : Option Nat) (h : lo ≤ old ∧ old ≤ hi) (multiple : step ∣ lo) :
    lo ≤ (clampField lo hi step old v).1 ∧ (clampField lo hi step old v).1 ≤ hi := by
  cases v with
  | none => exact h
  | some n =>
    obtain ⟨low, high⟩ := clamp_bounds (h.1.trans h.2) n
    refine ⟨?_, (Nat.div_mul_le_self _ _).trans high⟩
    calc lo = lo / step * step := (Nat.div_mul_cancel multiple).symm
      _ ≤ (clamp lo hi n).1 / step * step := Nat.mul_le_mul_right _ (Nat.div_le_div_right low)

/-- 0.6.4: a field that was a multiple of its step is one after a command. -/
theorem clampField_dvd {lo hi step old : Nat} (v : Option Nat) (h : step ∣ old) : step ∣ (clampField lo hi step old v).1 := by
  cases v with
  | none => exact h
  | some n => exact Nat.dvd_mul_left _ _

/-- R190: the ranges of a channel's parameters. -/
def ChannelConfig.InRange (c : ChannelConfig) : Prop :=
  c.freq ≤ 4095 ∧ (500 ≤ c.ageStep ∧ c.ageStep ≤ 8000 ∧ c.ageStep % 500 = 0) ∧ c.hangMs ≤ 10000 ∧
    (5 ≤ c.routineLimit ∧ c.routineLimit ≤ 255) ∧ (5 ≤ c.workLimit ∧ c.workLimit ≤ 255) ∧
    (5 ≤ c.urgentLimit ∧ c.urgentLimit ≤ 255) ∧ (10000 ≤ c.queueTimeout ∧ c.queueTimeout ≤ 300000)

theorem ChannelConfig.withFields_inRange {c : ChannelConfig} (h : c.InRange) (f : ChannelFields) : (c.withFields f).InRange := by
  obtain ⟨freq, ⟨ageLow, ageHigh, ageStep⟩, hang, routine, work, urgent, timeout⟩ := h
  have bounds {lo hi step old : Nat} (v : Option Nat) (h : lo ≤ old ∧ old ≤ hi) (multiple : step ∣ lo := by decide) :=
    clampField_bounds v h multiple
  obtain ⟨low, high⟩ := bounds (step := 500) (f.ageStep.map (·.toNat)) ⟨ageLow, ageHigh⟩
  refine ⟨(bounds _ ⟨Nat.zero_le _, freq⟩).2, ⟨low, high, ?_⟩, (bounds _ ⟨Nat.zero_le _, hang⟩).2, bounds _ routine, bounds _ work,
    bounds _ urgent, bounds _ timeout⟩
  exact Nat.mod_eq_zero_of_dvd (clampField_dvd _ (Nat.dvd_of_mod_eq_zero ageStep))

/-- R191: the ranges of the global parameters. -/
def GlobalConfig.InRange (g : GlobalConfig) : Prop :=
  g.levels ≠ 0 ∧ (1 ≤ g.ageOut ∧ g.ageOut ≤ 60) ∧ (500 ≤ g.interval ∧ g.interval ≤ 5000 ∧ g.interval % 100 = 0) ∧
    (1 ≤ g.faultLimit ∧ g.faultLimit ≤ 7)

theorem GlobalConfig.withFields_inRange {g : GlobalConfig} (h : g.InRange) (f : GlobalFields)
    (fits : f.levels.all (fun b => decide (b.toNat < 8)) = true) (some : f.levels.all (fun b => b != 0) = true) :
    (g.withFields f).InRange := by
  obtain ⟨levels, ageOut, ⟨low, high, step⟩, limit⟩ := h
  have interval := clampField_bounds (step := 100) (f.interval.map (·.toNat)) ⟨low, high⟩ (by decide)
  refine ⟨?_, clampField_bounds _ ageOut (by decide), ⟨interval.1, interval.2, ?_⟩, clampField_bounds _ limit (by decide)⟩
  · show (f.levels.map levelSetOf).getD g.levels ≠ 0
    cases hl : f.levels with
    | none => exact levels
    | some b =>
      simp only [hl, Option.all_some, decide_eq_true_eq, bne_iff_ne] at fits some
      simp only [Option.map_some, Option.getD_some, levelSetOf]
      bv_omega
  · exact Nat.mod_eq_zero_of_dvd (clampField_dvd _ (Nat.dvd_of_mod_eq_zero step))

theorem configLaw_iff {s : State} : ConfigLaw s ↔ (∀ ch, (s.chan ch).InRange) ∧ s.globals.InRange := Iff.rfl

theorem reset_configLaw : ConfigLaw State.reset := by simp only [ConfigLaw]; decide +kernel

/-! ## Rows that leave every record in its place -/

/-- The rows that can free a record or take handsets from it. -/
def freesMoves : Instr → Bool
  | .stopAck .. | .formingDeadline .. | .releaseDeadline .. => true
  | _ => false

/-- R73: a supervision frame changes the record of its sender's RC move. -/
theorem forMove_steady {src : UnitId} {f : MoveIx → Move → State → State} {s : State}
    (k : ∀ i m, s.move i = some m → MovesSteady s (f i m s)) : MovesSteady s (forMove src f s) :=
  forMove_keeps (Q := MovesSteady s) (.refl _) fun i m _ hm _ => k i m hm

theorem presenceBy_steady (src : UnitId) (s : State) : MovesSteady s (presenceBy src s) := by
  refine forMove_steady fun i m hm => ite_keeps (Q := MovesSteady s) (fun _ => ?_) fun _ => .refl _
  split
  · next active =>
    refine ite_keeps (Q := MovesSteady s) (fun _ => .raiseFault fun n hn => ?_) fun _ => .set hm ⟨rfl, id⟩
    cases hm.symm.trans hn
    exact .inl active
  · exact .set hm ⟨rfl, id⟩
  all_goals exact .refl _

theorem confirmStop_steady {i : MoveIx} {m : Move} {s : State} (hm : s.move i = some m) (held : m.state = .stopHeld) :
    MovesSteady s (confirmStop i m s) := by
  refine ite_keeps (Q := MovesSteady s) (fun _ => .refl _) fun _ => ?_
  have seen : MovesSteady s (setMove i (some { m with stopAckSeen := true }) s) := .set hm ⟨rfl, id⟩
  refine iteFun_keeps (Q := MovesSteady s) (fun _ => seen.trans (.endHold fun n hn => ?_)) fun _ => seen
  rw [setMove_move_self] at hn
  cases hn
  exact held

theorem resumeBy_steady (src : UnitId) (s : State) : MovesSteady s (resumeBy src s) :=
  forMove_steady fun _ _ hm => ite_keeps (Q := MovesSteady s)
    (fun h => .through (notify_only _ _ _) (.set hm (MovesSteady.becomesActive _ (.inr h.2)))) fun _ => .refl _

theorem offerBy_steady (src target : UnitId) (s : State) : MovesSteady s (offerBy src target s) :=
  forMove_steady fun _ _ hm => ite_keeps (Q := MovesSteady s)
    (fun _ => .through (orderTo_only _ _ _) (.set hm ⟨rfl, id⟩)) fun _ => .refl _

theorem takeBy_steady (src : UnitId) (s : State) : MovesSteady s (takeBy src s) :=
  forMove_steady fun _ _ hm => ite_keeps (Q := MovesSteady s)
    (fun _ => .through (notify_only _ _ _) (.comp .assignControl (.set hm ⟨rfl, id⟩))) fun _ => .refl _

theorem emergencyBy_steady (ch : Chan) (src : UnitId) (s : State) : MovesSteady s (emergencyBy ch src s) := by
  have floor : Only talkFields s (if s.currentOf src ≠ ch then answer ch (.unit src) (.denied .emergency .wrongChannel) s
      else emergencyOutcome ch (.unit src) s) := Only.ite _ (answer_frame _ _ _ _).only (emergencyOutcome_frame _ _ _).only
  exact whenSome_keeps (Q := MovesSteady s) (.of_only floor) fun _ _ => .comp .crewStop (.of_only floor)

/-- A row that neither frees a record nor carries out a command leaves every record in its place. -/
theorem row_movesSteady {i : Instr} {s t : State} (touches : rowTouches [.moves] i = true) (frees : freesMoves i = false)
    (e : exec i s = .next t) : MovesSteady s t := by
  have settled {f : State → State} (e : event f s = .next t) (k : MovesSteady s (f s)) : MovesSteady s t :=
    event_keeps (Q := MovesSteady s) (.refl _) (k.only (settle_only _)) e
  have air {p : Port} {src : UnitId} {f : State → State} (k : ∀ u, MovesSteady u (f u)) :
      MovesSteady s (arrives p src (fun _ => f) s) :=
    arrives_keeps (Q := MovesSteady s) (.refl _) fun _ _ _ _ _ => .comp (k _) (.of_only (refresh_only _ _))
  have timer {j : MoveIx} {f : Move → State → State} (k : ∀ m, s.move j = some m → MovesSteady s (f m s)) :
      MovesSteady s (whenSome (s.move j) f s) := whenSome_keeps (Q := MovesSteady s) (.refl _) k
  have cond {c : Prop} [Decidable c] {u : State} (k : c → MovesSteady s u) : MovesSteady s (if c then u else s) :=
    ite_keeps (Q := MovesSteady s) k fun _ => .refl _
  have due {d : Option Time} {f : State → State} (k : MovesSteady s (f s)) : MovesSteady s (expiry d f s) :=
    expiry_keeps (Q := MovesSteady s) (.refl _) fun _ => k
  cases i <;> cases touches <;> cases frees
  all_goals dsimp only [exec] at e
  case presence p src b => exact settled e (air fun u => presenceBy_steady src u)
  case resume p src b => exact settled e (air fun u => resumeBy_steady src u)
  case handoverOffer p src b x => exact settled e (air fun u => offerBy_steady src x u)
  case handoverTake p src b => exact settled e (air fun u => takeBy_steady src u)
  case joined p src b c => exact settled e (air fun u => .joinedBy)
  case emergency p src =>
    refine settled e (arrives_keeps (Q := MovesSteady s) (.refl _) fun ch _ _ _ _ => ?_)
    exact .comp (emergencyBy_steady ch src _) (.of_only (refresh_only _ _))
  case joinRepetition j u => exact settled e .repeatJoin
  case addDeadline j u =>
    refine settled e (timer fun m hm => whenSome_keeps (Q := MovesSteady s) (.refl _) fun x _ => due ?_)
    refine ite_keeps (Q := MovesSteady s) (fun _ => .refl _) fun _ => ?_
    exact .through (notify_only _ _ _) (.modMember hm _ _ fun _ => rfl)
  case reChannelDeadline j =>
    refine settled e (timer fun m hm => whenSome_keeps (Q := MovesSteady s) (.refl _) fun x _ => due ?_)
    have gone : MovesSteady s (setMove j (some { m with rechannel := none }) s) := .set hm ⟨rfl, id⟩
    exact iteFun_keeps (Q := MovesSteady s) (fun _ => gone) fun _ => .through (notify_only _ _ _) gone
  case releaseStopRepetition j =>
    refine settled e (timer fun m hm => whenSome_keeps (Q := MovesSteady s) (.refl _) fun x _ => cond fun _ => ?_)
    exact .through (orderTo_only _ _ _) (.set hm ⟨rfl, id⟩)
  case windowDeadline j =>
    refine settled e (timer fun m hm => cond fun active => due (.raiseFault fun n hn => ?_))
    cases hm.symm.trans hn
    exact .inl active
  case cleanSpanEnd j =>
    refine settled e (timer fun m hm => cond fun active => .set hm ⟨rfl, fun ⟨low, high, _, _, forming⟩ => ?_⟩)
    exact ⟨low, high, Nat.zero_le _, fun reached => absurd reached (by dsimp only; omega), forming⟩
  case stopOrderRepetition j =>
    exact settled e (timer fun m hm => cond fun _ => due (.through (orderTo_only _ _ _) (.set hm ⟨rfl, id⟩)))
  case stopConfirmMark j =>
    exact settled e (timer fun m hm => cond fun _ => due (.through (notify_only _ _ _) (.set hm ⟨rfl, id⟩)))
  case minimumHoldMark j =>
    refine settled e (timer fun m hm => cond fun h => .endHold fun n hn => ?_)
    cases hm.symm.trans hn
    exact h.1
  case offerCycleRepetition j =>
    refine settled e (timer fun m hm => cond fun _ => due ?_)
    have counted : MovesSteady s (setMove j (some { m with repeats := m.repeats + 1 }) s) := .set hm ⟨rfl, id⟩
    exact whenSome_keeps (Q := MovesSteady s) counted fun _ _ => .through (orderTo_only _ _ _) counted
  case offerExpiry j =>
    refine settled e (timer fun m hm => whenSome_keeps (Q := MovesSteady s) (.refl _) fun h _ => due ?_)
    exact .through (notify_only _ _ _) (.set hm ⟨rfl, id⟩)

/-- The commands that fill a record or free it, or change its members. -/
def changesMembers : Command → Bool
  | .createMove .. | .addMember .. | .removeMember .. | .releaseMove .. => true
  | _ => false

/-- Every other command leaves every record in its place. -/
theorem command_movesSteady (link : Console) {c : Command} (h : changesMembers c = false) (s : State) :
    MovesSteady s (runCommand link c s).2 := by
  have apart (moves : .moves ∉ commandFields c) : MovesSteady s (runCommand link c s).2 := .of_only (runCommand_only link c s) moves
  have same : MovesSteady s s := .refl s
  cases c with
  | setController b u =>
    refine moveCommand_keeps same fun i m _ hm _ => need_keeps same fun _ _ => need_keeps same fun _ _ =>
      check_keeps same fun _ => iteFun_keeps (Q := MovesSteady s) (fun _ => same) fun _ => .setController hm
  | moveChannel b ch =>
    refine look_keeps (moveCommand_keeps same fun i m _ hm _ => check_keeps same fun _ => need_keeps same fun _ _ =>
      check_keeps same fun _ => noneOf_keeps same fun _ => ?_)
    exact .through (serveFreed_only _ _) .moveToChannel
  | takeMove b =>
    refine look_keeps (check_keeps same fun _ => need_keeps same fun im him =>
      iteFun_keeps (Q := MovesSteady s) (fun _ => same) fun _ => ?_)
    obtain ⟨i, -, him⟩ := Option.bind_eq_some_iff.1 him
    obtain ⟨m, hm, rfl⟩ := Option.map_eq_some_iff.1 him
    exact .through (notify_only _ _ _) (.set hm ⟨rfl, id⟩)
  | reinstate b =>
    refine moveCommand_keeps same fun i m _ hm admitted => .comp .startOffers (.set hm ⟨rfl, fun ⟨low, high, _, _, forming⟩ => ?_⟩)
    have suspended : m.state = .suspended := by simpa using admitted
    exact ⟨low, high, Nat.zero_le _, fun reached => absurd reached (by dsimp only; omega),
      fun d => absurd (forming d) (by simp [suspended])⟩
  | createMove | addMember | removeMember | releaseMove => cases h
  | _ => exact apart (by simp [commandFields])

/-! ## Records that are filled, freed or lose a handset -/

/-- R21: a release frees the record. -/
theorem release_move (n : NoticeBody) (i : MoveIx) (m : Move) (s : State) (j : MoveIx) :
    (release n i m s).move j = if j = i then none else s.move j := by
  unfold release
  rw [State.move_congr (serveFreed_only _ _).moves, State.move_congr (notify_only _ _ _).moves, freeMove_move]

/-- R6: the record of a new move. -/
theorem createMove_move (link : Console) (i : MoveIx) (ch : Chan) (f : MoveFields) (s : State) (j : MoveIx) :
    (createMove link i ch f s).move j = if j = i then some (newMove link ch f s) else s.move j := by
  unfold createMove
  rw [State.move_congr (orderJoins_only _ _ _ _).moves,
    State.move_congr (Only.forEach (fs := [.units]) _ (fun _ _ _ => bindUnit_only _ _ _) _).moves, setMove_move]

/-- R11: a record with a further handset. -/
def Move.withHandset (now : Time) (u : UnitId) (m : Move) : Move :=
  { m with handsets := m.handsets ++ [{ newMember now u with addDeadline := some (Machine.after now 5000) }] }

theorem addMember_move (i : MoveIx) (m : Move) (u : UnitId) (s : State) (j : MoveIx) :
    (addMember i m u s).move j = if j = i then some (m.withHandset s.time u) else s.move j := by
  unfold addMember
  rw [State.move_congr (orderTo_only _ _ _).moves, State.move_congr (bindUnit_only _ _ _).moves, setMove_move]
  rfl

/-- R10: the record after the forming deadline, freed or become ACTIVE without the handsets that are dropped. -/
theorem formingEnds_move (i : MoveIx) (m : Move) (s : State) (j : MoveIx) :
    (formingEnds i m s).move j =
      if j = i then
        if m.formingFails then none
        else (s.move i).map (fun n => (m.dropped.foldl (fun n u => n.withoutHandset u) n).becomesActive s.time)
      else s.move j := by
  unfold formingEnds
  by_cases fails : m.formingFails = true
  · rw [if_pos fails, State.move_congr (notify_only _ _ _).moves, freeMove_move, if_pos fails]
  · rw [if_neg fails, State.move_congr (notify_only _ _ _).moves, modMove_move, removeHandsets_move, removeHandsets_move]
    by_cases e : j = i
    · simp [e, fails, Function.comp_def]
    · simp [e]

/-! ## FaultCountLaw (R80, R1) -/

/-- Every record is as FaultCountLaw asks. -/
def MovesRight (s : State) : Prop := ∀ i m, s.move i = some m → m.Right

theorem faultCountLaw_iff {s : State} :
    FaultCountLaw s ↔ (1 ≤ s.globals.faultLimit ∧ s.globals.faultLimit ≤ 7) ∧ MovesRight s := Iff.rfl

namespace MovesRight

variable {s t : State} {i : MoveIx}

theorem steady (h : MovesRight s) (k : MovesSteady s t) : MovesRight t := by
  intro i m' hm'
  rcases k i with e | ⟨m, n, hm, hn, st⟩
  · exact h i m' (e ▸ hm')
  · cases hn.symm.trans hm'
    exact st.right (h i m hm)

theorem only {fs : List Field} (h : MovesRight s) (k : Only fs s t) (apart : .moves ∉ fs := by decide) : MovesRight t :=
  h.steady (.of_only k apart)

/-- One record has changed. -/
theorem put {x : Option Move} (h : MovesRight s) (k : ∀ j, t.move j = if j = i then x else s.move j)
    (r : ∀ m, x = some m → m.Right) : MovesRight t := by
  intro j m hm
  rw [k] at hm
  split at hm
  · exact r m hm
  · exact h j m hm

theorem release {n : NoticeBody} {m : Move} (h : MovesRight s) : MovesRight (release n i m s) :=
  h.put (release_move _ _ _ _) (fun _ e => nomatch e)

end MovesRight

/-- R5: the record of a new move is as FaultCountLaw asks. -/
theorem newMove_right (link : Console) (ch : Chan) (f : MoveFields) {s : State}
    (limit : 1 ≤ s.globals.faultLimit ∧ s.globals.faultLimit ≤ 7) : (newMove link ch f s).Right := by
  obtain ⟨low, high⟩ := clampField_bounds (step := 1) (f.faultLimit.map (·.toNat)) limit (by decide)
  refine ⟨low, high, Nat.zero_le _, fun e => absurd e (Nat.ne_of_lt low), fun _ => rfl⟩

theorem MovesRight.createMove {link : Console} {i : MoveIx} {ch : Chan} {f : MoveFields} {s : State} (h : MovesRight s)
    (limit : 1 ≤ s.globals.faultLimit ∧ s.globals.faultLimit ≤ 7) : MovesRight (createMove link i ch f s) :=
  h.put (createMove_move _ _ _ _ _) fun _ e => by cases e; exact newMove_right _ _ _ limit

theorem MovesRight.command (link : Console) (c : Command) {s : State} (h : MovesRight s)
    (limit : 1 ≤ s.globals.faultLimit ∧ s.globals.faultLimit ≤ 7) : MovesRight (runCommand link c s).2 := by
  by_cases steady : changesMembers c = false
  · exact h.steady (command_movesSteady link steady s)
  cases c <;> try exact absurd rfl steady
  case createMove f =>
    refine look_keeps (check_keeps h fun _ => need_keeps h fun _ _ => need_keeps h fun _ _ => check_keeps h fun _ =>
      check_keeps h fun _ => check_keeps h fun _ => noneOf_keeps h fun _ => noneOf_keeps h fun _ =>
      noneOf_keeps h fun _ => noneOf_keeps h fun _ => ?_)
    unfold checkController
    split
    · exact need_keeps h fun _ _ => check_keeps h fun _ => noneOf_keeps h fun _ => h.createMove limit
    · exact check_keeps h fun _ => h.createMove limit
  case addMember b u =>
    refine look_keeps (moveCommand_keeps h fun i m _ hm _ => check_keeps h fun _ => need_keeps h fun _ _ =>
      check_keeps h fun _ => check_keeps h fun _ => check_keeps h fun _ => check_keeps h fun _ => ?_)
    exact h.put (addMember_move _ _ _ _) fun _ e => by cases e; exact h i m hm
  case removeMember b u =>
    refine moveCommand_keeps h fun i m _ hm _ => check_keeps h fun _ => check_keeps h fun _ =>
      check_keeps h fun _ => check_keeps h fun _ => ?_
    have removed : MovesRight (removeHandset true i u s) :=
      h.put (removeHandset_move _ _ _ _) fun n e => by
        rw [hm] at e; cases e; exact h i m hm
    exact removed.only (serveFreed_only _ _)
  case releaseMove b =>
    refine moveCommand_keeps h fun i m _ hm _ => iteFun_keeps (Q := MovesRight) (fun runs => ?_) fun _ => h.release
    refine h.steady (.enterReleasing hm fun forming => ?_)
    simp [Move.runs, forming] at runs

theorem MovesRight.formingEnds {i : MoveIx} {m : Move} {s : State} (h : MovesRight s) (hm : s.move i = some m)
    (forming : m.state = .forming) : MovesRight (formingEnds i m s) := by
  refine h.put (formingEnds_move _ _ _) fun n e => ?_
  split at e
  · cases e
  · rw [hm, Option.map_some] at e
    cases e
    have kept : (m.dropped.foldl (fun n u => n.withoutHandset u) m).Right := by
      rw [foldl_withoutHandset]; exact h i m hm
    have still : (m.dropped.foldl (fun n u => n.withoutHandset u) m).state = .forming := by
      rw [foldl_withoutHandset]; exact forming
    exact (MovesSteady.becomesActive _ (.inl still)).right kept

theorem MovesRight.row {i : Instr} {s t : State} (touches : rowTouches [.moves] i = true) (h : MovesRight s)
    (e : exec i s = .next t) : MovesRight t := by
  by_cases frees : freesMoves i = false
  · exact h.steady (row_movesSteady touches frees e)
  have settled {f : State → State} (e : event f s = .next t) (k : MovesRight (f s)) : MovesRight t :=
    event_keeps h (k.only (settle_only _)) e
  cases i <;> try exact absurd rfl frees
  case stopAck p src b =>
    dsimp only [exec] at e
    refine settled e (arrives_keeps h fun _ _ _ _ _ => ?_)
    have refreshed : MovesRight (refresh src s) := h.only (refresh_only _ _)
    refine forMove_keeps (Q := MovesRight) refreshed fun i m _ hm _ => ite_keeps (Q := MovesRight) (fun _ => ?_) fun _ => refreshed
    split
    · exact refreshed.steady (confirmStop_steady hm ‹_›)
    · exact refreshed.release
    all_goals exact refreshed
  case formingDeadline j =>
    dsimp only [exec] at e
    refine settled e (whenSome_keeps h fun m hm => expiry_keeps h fun due => ite_keeps (Q := MovesRight) (fun _ => h) fun _ => ?_)
    have forming : m.state = .forming := (h j m hm).2.2.2.2 (by cases hd : m.formingDeadline <;> simp_all [reachedOpt])
    exact (h.formingEnds hm forming).only (serveFreed_only _ _)
  case releaseDeadline j =>
    dsimp only [exec] at e
    exact settled e (whenSome_keeps h fun m hm => expiry_keeps h fun _ => h.release)

/-! ## The two laws -/

/-- The laws of O56 together. -/
def LimitsRight (s : State) : Prop := ConfigLaw s ∧ FaultCountLaw s

theorem limitsRight_iff {s : State} : LimitsRight s ↔ (∀ ch, (s.chan ch).InRange) ∧ s.globals.InRange ∧ MovesRight s :=
  ⟨fun ⟨⟨chans, globals⟩, moves⟩ => ⟨chans, globals, moves.2⟩,
    fun ⟨chans, globals, moves⟩ => ⟨⟨chans, globals⟩, globals.2.2.2, moves⟩⟩

theorem limitsRight_reads : ReadsOnly [.channels, .globals, .moves] LimitsRight := by
  intro s t agree h
  rw [limitsRight_iff] at h ⊢
  obtain ⟨chans, globals, moves⟩ := h
  have sameGlobals : t.globals = s.globals := agree .globals (by simp)
  exact ⟨fun ch => State.chan_congr (agree .channels (by simp)) ch ▸ chans ch, sameGlobals ▸ globals,
    moves.steady (.of_moves (agree .moves (by simp)))⟩

theorem limitsRight_commands (link : Console) (c : Command) (s : State) (h : LimitsRight s) :
    LimitsRight (runCommand link c s).2 := by
  have laws := limitsRight_iff.1 h
  obtain ⟨chans, globals, moves⟩ := laws
  have only := runCommand_only link c s
  have moved : MovesRight (runCommand link c s).2 := moves.command link c globals.2.2.2
  by_cases config : .channels ∈ commandFields c ∨ .globals ∈ commandFields c
  · cases c <;> simp [commandFields] at config
    case setChannel b f =>
      refine look_keeps (check_keeps h fun _ => need_keeps h fun ch _ => check_keeps h fun _ => check_keeps h fun _ => ?_)
      refine limitsRight_iff.2 ⟨fun d => ?_, globals, moves⟩
      show ((s.channels.put ch ((s.chan ch).withFields f)).get d).InRange
      rw [Tab.get_put]
      split
      · exact ChannelConfig.withFields_inRange (chans ch) f
      · exact chans d
    case setGlobal f =>
      refine look_keeps (check_keeps h fun fits => check_keeps h fun some => check_keeps h fun _ => ?_)
      have applied : LimitsRight { s with globals := s.globals.withFields f } :=
        limitsRight_iff.2 ⟨chans, GlobalConfig.withFields_inRange globals f fits some, moves⟩
      refine iteFun_keeps (Q := LimitsRight) (fun _ => ?_) fun _ => applied
      exact limitsRight_reads.keeps (limitsRight_reads.keeps applied (ageOutAll_only _)) (serveFreed_only _ _)
  · obtain ⟨noChannels, noGlobals⟩ := not_or.1 config
    refine limitsRight_iff.2 ⟨fun ch => ?_, ?_, moved⟩
    · rw [State.chan_congr (only.channels noChannels)]; exact chans ch
    · rw [only.globals noGlobals]; exact globals

theorem limitsRight_rows (i : Instr) (touches : rowTouches [.channels, .globals, .moves] i = true) (s t : State)
    (h : LimitsRight s) (e : exec i s = .next t) : LimitsRight t := by
  have apart : rowTouches [.moves] i = true ∧ .channels ∉ rowFields i ∧ .globals ∉ rowFields i := by
    cases i <;> cases touches <;> exact ⟨rfl, by simp [rowFields], by simp [rowFields]⟩
  obtain ⟨moves, noChannels, noGlobals⟩ := apart
  have only := rowTouches_only touches e
  obtain ⟨chans, globals, right⟩ := limitsRight_iff.1 h
  refine limitsRight_iff.2 ⟨fun ch => ?_, ?_, right.row moves e⟩
  · rw [State.chan_congr (only.channels noChannels)]; exact chans ch
  · rw [only.globals noGlobals]; exact globals

/-- Settles O56: the commands that set parameters clamp them, and every change of a record keeps its count right. -/
theorem everyStepKeepsTheLimits : Obligations.EveryStepKeepsTheLimits := by
  intro s t config counts e
  exact step_keeps limitsRight_reads (by decide) ⟨reset_configLaw, reset_faultCountLaw⟩ limitsRight_commands limitsRight_rows
    ⟨config, counts⟩ e

end Sys2Proof.Machine

/-! PROOF. The Unit Register after the operations that the events of the Move Table, the Register and the Enrolment Unit share,
and RegisterLaw. -/

namespace Sys2Proof.Machine

set_option Elab.async false

/-! ## One record (R115, R116) -/

theorem find?_map_keeping {α β : Type} [BEq β] (key : α → β) (g : α → α) (keeps : ∀ x, key (g x) = key x) (k : β) (xs : List α) :
    (xs.map g).find? (fun x => key x == k) = (xs.find? (fun x => key x == k)).map g := by
  induction xs with
  | nil => rfl
  | cons x xs ih =>
    simp only [List.map_cons, List.find?_cons, keeps]
    split
    · rfl
    · exact ih

theorem State.unit_key {s : State} {u : UnitId} {r : UnitRec} (h : s.unit u = some r) : r.unit = u := by
  simpa using List.find?_some h

theorem State.unit_mem {s : State} {u : UnitId} {r : UnitRec} (h : s.unit u = some r) : r ∈ s.units := List.mem_of_find?_eq_some h

theorem modUnit_unit {g : UnitRec → UnitRec} (u : UnitId) (s : State) (v : UnitId)
    (keeps : ∀ r, (g r).unit = r.unit := by intro _; rfl) :
    (modUnit u g s).unit v = if v = u then (s.unit v).map g else s.unit v := by
  have each (r : UnitRec) : (if r.unit == u then g r else r).unit = r.unit := by split <;> simp [keeps]
  refine (find?_map_keeping UnitRec.unit _ each v s.units).trans ?_
  show (s.unit v).map _ = _
  cases h : s.unit v with
  | none => simp
  | some r =>
    have key := State.unit_key h
    by_cases e : v = u
    · simp [e, key]
    · simp [e, key]

theorem modUnit_bindingOf {g : UnitRec → UnitRec} (u : UnitId) (s : State) (v : UnitId)
    (keeps : ∀ r, (g r).unit = r.unit := by intro _; rfl) :
    (modUnit u g s).bindingOf (.unit v) = if v = u then (s.unit v).bind (fun r => (g r).binding) else s.bindingOf (.unit v) := by
  simp only [State.bindingOf, modUnit_unit u s v keeps]
  split
  · cases s.unit v <;> rfl
  · rfl

theorem refresh_bindingOf (u : UnitId) (s : State) (p : Party) : (refresh u s).bindingOf p = s.bindingOf p := by
  cases p with
  | console c => rfl
  | unit v =>
    refine (modUnit_bindingOf u s v).trans ?_
    split
    · rfl
    · rfl

theorem bindUnit_bindingOf (i : MoveIx) (u : UnitId) (s : State) (v : UnitId) :
    (bindUnit i u s).bindingOf (.unit v) = if v = u ∧ (s.unit v).isSome then some i else s.bindingOf (.unit v) := by
  refine (modUnit_bindingOf u s v).trans ?_
  by_cases e : v = u
  · subst e
    cases h : s.unit v with
    | none => simp [State.bindingOf, h]
    | some r => simp
  · simp [e]

theorem bindUnit_unit_isSome (i : MoveIx) (u : UnitId) (s : State) (v : UnitId) :
    ((bindUnit i u s).unit v).isSome = (s.unit v).isSome := by
  unfold bindUnit
  rw [modUnit_unit]
  split <;> simp

/-- R6: the bindings after every unit of a list is bound. -/
theorem bindEach_bindingOf (i : MoveIx) (us : List UnitId) (s : State) (v : UnitId) :
    (forEach us (bindUnit i) s).bindingOf (.unit v) =
      if v ∈ us ∧ (s.unit v).isSome then some i else s.bindingOf (.unit v) := by
  induction us generalizing s with
  | nil => simp [forEach]
  | cons u us ih =>
    show (forEach us (bindUnit i) (bindUnit i u s)).bindingOf _ = _
    rw [ih, bindUnit_unit_isSome, bindUnit_bindingOf]
    by_cases known : (s.unit v).isSome = true
    · simp only [known, and_true, List.mem_cons]
      by_cases head : v = u <;> by_cases tail : v ∈ us <;> simp [head, tail]
    · simp [known]

/-- R116: the record of a unit that leaves its move. -/
def UnitRec.unbound (now : Time) (r : UnitRec) : UnitRec := { r with binding := none, current := 0, unboundSince := now }

theorem unbindUnit_unit (u : UnitId) (s : State) (v : UnitId) :
    (unbindUnit u s).unit v = if v = u then (s.unit v).map (UnitRec.unbound s.time) else s.unit v :=
  modUnit_unit u s v

/-- R21: the records after every unit of a list has left its move. -/
theorem unbindEach_unit (us : List UnitId) (s : State) (v : UnitId) :
    (forEach us unbindUnit s).unit v = if v ∈ us then (s.unit v).map (UnitRec.unbound s.time) else s.unit v := by
  induction us generalizing s with
  | nil => simp [forEach]
  | cons u us ih =>
    show (forEach us unbindUnit (unbindUnit u s)).unit v = _
    have twice (r : UnitRec) : (r.unbound s.time).unbound s.time = r.unbound s.time := rfl
    rw [ih, (unbindUnit_only u s).time, unbindUnit_unit]
    by_cases head : v = u <;> by_cases tail : v ∈ us <;> simp [head, tail, Function.comp_def, twice]

/-- R14: the records after the removal of a handset. -/
theorem removeHandset_unit {leave : Bool} {i : MoveIx} {u : UnitId} {s : State} {m : Move} (hm : s.move i = some m) (v : UnitId) :
    (removeHandset leave i u s).unit v = if v = u then (s.unit v).map (UnitRec.unbound s.time) else s.unit v := by
  unfold removeHandset
  rw [hm]
  dsimp only
  have before : Only (.moves :: talkFields) s
      (modMove i (fun m => { m with handsets := m.handsets.filter (fun e => e.unit != u) })
        ((if leave then orderTo u (.leaveOrder i) else id)
          ((if m.handover.map (·.target) = some u then cancelHandover i .targetRemoved else id)
            (cancelClaims m.channel .released u s)))) := by
    refine Only.andThen (fs := .moves :: talkFields) ?_ (modMove_only _ _ _)
    refine Only.andThen (fs := .moves :: talkFields) ?_ (Only.iteFun (fs := [.downlink, .links]) _ (orderTo_only _ _ _) (.refl _ _))
    exact (cancelClaims_only _ _ _ _).andThen
      (Only.iteFun (fs := [.moves, .links]) _ (cancelHandover_only _ _ _) (.refl _ _))
  rw [unbindUnit_unit, before.time, State.unit_congr before.units]

/-- R10: the records after the removal of several handsets. -/
theorem removeHandsets_unit {leave : Bool} {i : MoveIx} (us : List UnitId) {s : State} {m : Move} (hm : s.move i = some m)
    (v : UnitId) :
    (forEach us (removeHandset leave i) s).unit v = if v ∈ us then (s.unit v).map (UnitRec.unbound s.time) else s.unit v := by
  induction us generalizing s m with
  | nil => simp [forEach]
  | cons u us ih =>
    show (forEach us (removeHandset leave i) (removeHandset leave i u s)).unit v = _
    have twice (r : UnitRec) : (r.unbound s.time).unbound s.time = r.unbound s.time := rfl
    have left : (removeHandset leave i u s).move i = some (m.withoutHandset u) := by simp [removeHandset_move, hm]
    rw [ih left, (removeHandset_only leave i u s).time, removeHandset_unit hm]
    by_cases head : v = u <;> by_cases tail : v ∈ us <;> simp [head, tail, Function.comp_def, twice]

/-- R21: the records after a move is freed. -/
theorem freeMove_unit (leaves : Member → Bool) (i : MoveIx) (m : Move) (s : State) (v : UnitId) :
    (freeMove leaves i m s).unit v = if v ∈ m.units then (s.unit v).map (UnitRec.unbound s.time) else s.unit v := by
  unfold freeMove
  have before : Only talkFields s (forEach ((m.members.filter leaves).map (·.unit)) (fun u => orderTo u (.leaveOrder i))
      (endHangsFor (.move i) allChans (forEach m.units (cancelClaims m.channel .released) (discardAlerts m.channel i s)))) := by
    refine Only.andThen (fs := talkFields) ?_ (Only.forEach (fs := [.downlink, .links]) _ (fun _ _ _ => orderTo_only _ _ _) _)
    refine Only.andThen (fs := talkFields) ?_ (endHangsFor_only _ _ _)
    exact (discardAlerts_frame _ _ _).only.trans (Only.forEach (fs := talkFields) _ (fun _ _ _ => cancelClaims_only _ _ _ _) _)
  rw [State.unit_congr (setMove_only _ _ _).units, unbindEach_unit, before.time, State.unit_congr before.units]

theorem release_unit (n : NoticeBody) (i : MoveIx) (m : Move) (s : State) (v : UnitId) :
    (release n i m s).unit v = if v ∈ m.units then (s.unit v).map (UnitRec.unbound s.time) else s.unit v := by
  unfold release
  rw [State.unit_congr (serveFreed_only _ _).units, State.unit_congr (notify_only _ _ _).units, freeMove_unit]

theorem bindingOf_of_unbound {s t : State} {us : List UnitId}
    (h : ∀ v, t.unit v = if v ∈ us then (s.unit v).map (UnitRec.unbound s.time) else s.unit v) (v : UnitId) :
    t.bindingOf (.unit v) = if v ∈ us then none else s.bindingOf (.unit v) := by
  simp only [State.bindingOf, h]
  split
  · cases s.unit v <;> rfl
  · rfl

/-! ## Removed and written records (R112 to R114) -/

/-- R114: the register after the removal of a record, or its clearing for a new one in its place. -/
theorem removeRecord_units (keep : Bool) (u : UnitId) (s : State) :
    (removeRecord keep u s).units = if keep then s.units else s.units.filter (fun r => r.unit != u) := by
  have talked : (endHangsFor (.party (.unit u)) allChans
      (forEach allChans (fun ch => cancelClaim ch .unregistered (.unit u)) s)).units = s.units :=
    ((Only.forEach _ (fun _ _ _ => (cancelClaim_frame _ _ _ _).only) s).trans (endHangsFor_only _ _ _)).units
  unfold removeRecord
  generalize endHangsFor (.party (.unit u)) allChans _ = t at talked ⊢
  cases keep with
  | true => exact talked
  | false => simp [talked]

theorem unit_of_filter {s t : State} {u : UnitId} (h : t.units = s.units.filter (fun r => r.unit != u)) (v : UnitId) :
    t.unit v = if v = u then none else s.unit v := by
  unfold State.unit
  rw [h, List.find?_filter]
  split
  · next e => subst e; exact List.find?_eq_none.2 fun r _ => by simp
  · next e =>
    congr 1
    funext r
    by_cases k : r.unit = v <;> simp [k, e]

theorem removeRecord_unit (u : UnitId) (s : State) (v : UnitId) :
    (removeRecord false u s).unit v = if v = u then none else s.unit v :=
  unit_of_filter (removeRecord_units false u s) v

/-- R112, R115: a record of a unit that has none is written at the end of the list. -/
theorem append_unit {s : State} {r : UnitRec} (v : UnitId) :
    ({ s with units := s.units ++ [r] } : State).unit v = (s.unit v).or (if r.unit = v then some r else none) := by
  show (s.units ++ [r]).find? _ = _
  rw [List.find?_append]
  congr 1
  by_cases e : r.unit = v <;> simp [e]

end Sys2Proof.Machine

/-! PROOF. RegisterLaw: no event gives a unit a second record, and the tick holds a register time at its greatest age. -/

namespace Sys2Proof.Machine

set_option Elab.async false

/-- R115: no time of the record lies more than 2^31 - 1 ms in the past. -/
def UnitRec.Recent (now : Time) (r : UnitRec) : Prop :=
  elapsed now r.admitted ≤ 2147483647 ∧ elapsed now r.lastHeard ≤ 2147483647 ∧ elapsed now r.unboundSince ≤ 2147483647

theorem registerLaw_iff {s : State} :
    RegisterLaw s ↔ (s.units.map (·.unit)).Nodup ∧ ∀ r ∈ s.units, r.Recent s.time := Iff.rfl

theorem elapsed_self (now : Time) : elapsed now now = 0 := by simp [elapsed]

theorem registerLaw_reads : ReadsOnly [.time, .units] RegisterLaw := by
  intro s t agree h
  have time : t.time = s.time := agree .time (by simp)
  have units : t.units = s.units := agree .units (by simp)
  rw [registerLaw_iff] at h ⊢
  rw [time, units]
  exact h

/-- R115: after a tick no time is older than 2^31 - 1 ms. -/
theorem heldTime_recent (now t : Time) : elapsed now (heldTime now t) ≤ 2147483647 := by
  unfold heldTime
  split
  · show (now - (now - 2147483647#32)).toNat ≤ 2147483647
    bv_omega
  · next recent => exact Nat.le_of_not_lt recent

/-- The changes of a record that leave its unit, and set no time but to the present. -/
structure RecordKept (now : Time) (r r' : UnitRec) : Prop where
  unit : r'.unit = r.unit
  recent : r.Recent now → r'.Recent now

/-- R189: the register is empty after a RESTART. -/
theorem restart_units (s : State) : (restart s).units = [] := by
  have ports : Only [.ports, .links, .sent] (clearAll s) (forEach allPorts restartPort (clearAll s)) :=
    Only.forEach allPorts (fun p _ t => restartPort_only p t) _
  unfold restart
  generalize forEach allPorts restartPort (clearAll s) = u at ports
  exact ports.units

namespace RegisterLaw

variable {s t : State} {u : UnitId}

theorem only {fs : List Field} (h : RegisterLaw s) (k : Only fs s t)
    (apart : ∀ f ∈ [Field.time, .units], f ∉ fs := by decide) : RegisterLaw t := registerLaw_reads.keeps h k apart

theorem modUnit {g : UnitRec → UnitRec} (h : RegisterLaw s) (k : ∀ r, r.unit = u → RecordKept s.time r (g r)) :
    RegisterLaw (modUnit u g s) := by
  obtain ⟨once, recent⟩ := registerLaw_iff.1 h
  have each (r : UnitRec) : RecordKept s.time r (if r.unit == u then g r else r) := by
    split
    · exact k r (by simp_all)
    · exact ⟨rfl, id⟩
  refine registerLaw_iff.2 ⟨?_, fun r hr => ?_⟩
  · show ((s.units.map _).map _).Nodup
    rw [List.map_map]
    exact (List.map_congr_left fun r _ => (each r).unit) ▸ once
  · obtain ⟨x, hx, rfl⟩ := List.mem_map.1 hr
    exact (each x).recent (recent x hx)

theorem refresh (h : RegisterLaw s) : RegisterLaw (refresh u s) :=
  h.modUnit fun _ _ => ⟨rfl, fun ⟨admitted, _, unbound⟩ => ⟨admitted, by simp [elapsed_self], unbound⟩⟩

theorem bindUnit {i : MoveIx} (h : RegisterLaw s) : RegisterLaw (bindUnit i u s) := h.modUnit fun _ _ => ⟨rfl, id⟩

theorem unbindUnit (h : RegisterLaw s) : RegisterLaw (unbindUnit u s) :=
  h.modUnit fun _ _ => ⟨rfl, fun ⟨admitted, heard, _⟩ => ⟨admitted, heard, by simp [elapsed_self]⟩⟩

theorem comeTo {ch : Chan} (h : RegisterLaw s) : RegisterLaw (comeTo ch u s) :=
  ite_keeps (Q := RegisterLaw) (fun _ => h) fun _ => (h.only (cancelClaim_frame _ _ _ _).only).modUnit fun _ _ => ⟨rfl, id⟩

/-- Records leave the register. -/
theorem sublist (h : RegisterLaw s) (time : t.time = s.time) (k : t.units.Sublist s.units) : RegisterLaw t := by
  obtain ⟨once, recent⟩ := registerLaw_iff.1 h
  exact registerLaw_iff.2 ⟨(k.map _).nodup once, fun r hr => time ▸ recent r (k.subset hr)⟩

/-- A record of a unit that has none is written. -/
theorem append {r : UnitRec} (h : RegisterLaw s) (fresh : s.unit r.unit = none) (now : r.Recent s.time) :
    RegisterLaw { s with units := s.units ++ [r] } := by
  obtain ⟨once, recent⟩ := registerLaw_iff.1 h
  refine registerLaw_iff.2 ⟨?_, fun x hx => ?_⟩
  · show ((s.units ++ [r]).map _).Nodup
    rw [List.map_append, List.nodup_append]
    refine ⟨once, by simp, fun a ha b hb e => ?_⟩
    obtain ⟨x, hx, rfl⟩ := List.mem_map.1 ha
    have other := List.find?_eq_none.1 fresh x hx
    simp only [List.map_cons, List.map_nil, List.mem_singleton] at hb
    simp [e, hb] at other
  · rcases List.mem_append.1 hx with hx | hx
    · exact recent x hx
    · rw [List.mem_singleton.1 hx]; exact now

/-! ## The Move Table -/

theorem freeMove {leaves : Member → Bool} {i : MoveIx} {m : Move} (h : RegisterLaw s) : RegisterLaw (freeMove leaves i m s) := by
  unfold Machine.freeMove
  have claims : RegisterLaw (forEach m.units (cancelClaims m.channel .released) (discardAlerts m.channel i s)) :=
    (h.only (discardAlerts_frame _ _ _).only).only (Only.forEach (fs := talkFields) _ (fun _ _ _ => cancelClaims_only _ _ _ _) _)
  have orders := (claims.only (endHangsFor_only (.move i) allChans _)).only
    (Only.forEach (fs := [.downlink, .links]) ((m.members.filter leaves).map (·.unit))
      (fun u _ t => orderTo_only u (.leaveOrder i) t) _)
  exact (forEach_keeps (Q := RegisterLaw) _ (fun _ _ _ k => k.unbindUnit) _ orders).only (setMove_only _ _ _)

theorem release {n : NoticeBody} {i : MoveIx} {m : Move} (h : RegisterLaw s) : RegisterLaw (release n i m s) :=
  (h.freeMove.only (notify_only _ _ _)).only (serveFreed_only _ _)

theorem removeHandset {leave : Bool} {i : MoveIx} (h : RegisterLaw s) : RegisterLaw (removeHandset leave i u s) := by
  unfold Machine.removeHandset
  split
  · exact h
  · next m _ =>
    have cancelled : RegisterLaw ((if m.handover.map (·.target) = some u then Machine.cancelHandover i .targetRemoved else id)
        (cancelClaims m.channel .released u s)) :=
      (h.only (cancelClaims_only _ _ _ _)).only (Only.iteFun (fs := [.moves, .links]) _ (cancelHandover_only _ _ _) (.refl _ _))
    have order (t : State) : Only [.downlink, .links] t ((if leave then orderTo u (.leaveOrder i) else id) t) :=
      Only.iteFun _ (orderTo_only _ _ _) (.refl _ _)
    exact ((cancelled.only (order _)).only (modMove_only _ _ _)).unbindUnit

theorem formingEnds {i : MoveIx} {m : Move} (h : RegisterLaw s) : RegisterLaw (formingEnds i m s) := by
  refine ite_keeps (Q := RegisterLaw) (fun _ => h.freeMove.only (notify_only _ _ _)) fun _ => ?_
  exact ((forEach_keeps (Q := RegisterLaw) _ (fun _ _ _ k => k.removeHandset) _ h).only (modMove_only _ _ _)).only (notify_only _ _ _)

theorem createMove {link : Console} {i : MoveIx} {ch : Chan} {f : MoveFields} (h : RegisterLaw s) :
    RegisterLaw (createMove link i ch f s) :=
  (forEach_keeps (Q := RegisterLaw) _ (fun _ _ _ k => k.bindUnit) _ (h.only (setMove_only _ _ _))).only (orderJoins_only _ _ _ _)

theorem addMember {i : MoveIx} {m : Move} (h : RegisterLaw s) : RegisterLaw (addMember i m u s) :=
  (h.only (setMove_only _ _ _)).bindUnit.only (orderTo_only _ _ _)

theorem joinedBy {move ch : Byte} (h : RegisterLaw s) : RegisterLaw (joinedBy u move ch s) := by
  refine whenSome_keeps h fun i _ => whenSome_keeps h fun m _ => whenSome_keeps h fun e _ => ite_keeps (Q := RegisterLaw)
    (fun _ => ?_) fun _ => h
  exact (((h.only (setMove_only _ _ _)).comeTo).only (lastJoined_only _ _)).only (serveFreed_only _ _)

/-! ## The Register and the Enrolment Unit -/

theorem removeRecord {keep : Bool} (h : RegisterLaw s) : RegisterLaw (removeRecord keep u s) := by
  refine h.sublist (removeRecord_only keep u s).time ?_
  rw [removeRecord_units]
  split
  · exact .refl _
  · exact List.filter_sublist

theorem ageOutUnit (h : RegisterLaw s) : RegisterLaw (ageOutUnit u s) := by
  unfold Machine.ageOutUnit
  split
  · exact h
  · exact h.removeRecord.only (broadcast_only _ _)

theorem ageOutAll (h : RegisterLaw s) : RegisterLaw (ageOutAll s) :=
  forEach_keeps (Q := RegisterLaw) _ (fun _ _ _ k => k.ageOutUnit) _ h

theorem newRecord_recent (now : Time) (sl : Slot) : (newRecord now sl).Recent now := by
  simp [UnitRec.Recent, newRecord, elapsed_self]

theorem addRecord {i : SlotIx} {sl : Slot} (h : RegisterLaw s) (fresh : s.unit sl.unit = none) :
    RegisterLaw (addRecord i sl s) :=
  (h.append (r := newRecord s.time sl) fresh (newRecord_recent _ _)).only (reportAdmitted_only _ _ _ _)

theorem replaceRecord {i : SlotIx} {sl : Slot} (h : RegisterLaw s) : RegisterLaw (replaceRecord i sl s) := by
  have written : RegisterLaw (Machine.modUnit sl.unit (fun _ => newRecord s.time sl) (Machine.removeRecord true sl.unit s)) := by
    refine h.removeRecord.modUnit fun r key => ⟨key.symm, fun _ => ?_⟩
    rw [(removeRecord_only true sl.unit s).time]
    exact newRecord_recent _ _
  unfold Machine.replaceRecord
  exact written.only (reportAdmitted_only _ _ _ _)

theorem evictFor {i : SlotIx} {sl : Slot} {old : UnitRec} (h : RegisterLaw s) (fresh : s.unit sl.unit = none) :
    RegisterLaw (evictFor i sl old s) := by
  refine ((h.removeRecord (keep := false) (u := old.unit)).only (broadcast_only _ _)).addRecord ?_
  rw [State.unit_congr (broadcast_only _ _).units, removeRecord_unit]
  split
  · rfl
  · exact fresh

theorem admitUnit {i : SlotIx} {sl : Slot} (h : RegisterLaw s) : RegisterLaw (admitUnit i sl s) := by
  unfold Machine.admitUnit
  refine RegisterLaw.only ?_ (serveFreed_only _ _)
  split
  · exact ite_keeps (Q := RegisterLaw) (fun _ => h.only (freeSlot_only _ _ _ _ _)) fun _ => h.replaceRecord
  · next fresh =>
    refine ite_keeps (Q := RegisterLaw) (fun _ => h.addRecord fresh) fun _ => ?_
    split
    · exact h.evictFor fresh
    · exact h.only (freeSlot_only _ _ _ _ _)

theorem handHead {p : Port} {ch : Chan} (h : RegisterLaw s) : RegisterLaw (handHead p ch s) := by
  refine whenSome_keeps h fun f _ => ?_
  have sent : RegisterLaw (send p (.air f) (setFrames ch (withoutHead (s.frames ch)) s)) :=
    (h.only (setFrames_only' _ _ _)).only (send_only _ _ _)
  exact ite_keeps (Q := RegisterLaw) (fun _ => whenSome_keeps sent fun _ _ => ite_keeps (Q := RegisterLaw)
    (fun _ => sent.admitUnit) fun _ => sent) fun _ => sent

theorem tick (h : RegisterLaw s) :
    RegisterLaw { s with time := s.time + 1#32, units := s.units.map (UnitRec.held (s.time + 1#32)) } := by
  refine registerLaw_iff.2 ⟨?_, fun r hr => ?_⟩
  · show ((s.units.map _).map _).Nodup
    rw [List.map_map]
    exact h.1
  · obtain ⟨r, -, rfl⟩ := List.mem_map.1 hr
    exact ⟨heldTime_recent _ _, heldTime_recent _ _, heldTime_recent _ _⟩

/-! ## Commands and rows -/

theorem commands (link : Console) (c : Command) (s : State) (h : RegisterLaw s) : RegisterLaw (runCommand link c s).2 := by
  have apart (time : .time ∉ commandFields c) (units : .units ∉ commandFields c) : RegisterLaw (runCommand link c s).2 :=
    h.only (runCommand_only link c s) (by simp [time, units])
  cases c with
  | setGlobal f =>
    refine look_keeps (check_keeps h fun _ => check_keeps h fun _ => check_keeps h fun _ => ?_)
    have applied : RegisterLaw { s with globals := s.globals.withFields f } := h
    exact iteFun_keeps (Q := RegisterLaw) (fun _ => applied.ageOutAll.only (serveFreed_only _ _)) fun _ => applied
  | restart =>
    have restarted : RegisterLaw (restart s) :=
      h.sublist (restart_only s).time (by rw [restart_units]; exact List.nil_sublist _)
    exact look_keeps (check_keeps h fun _ => restarted)
  | createMove f =>
    refine look_keeps (check_keeps h fun _ => need_keeps h fun _ _ => need_keeps h fun _ _ => check_keeps h fun _ =>
      check_keeps h fun _ => check_keeps h fun _ => noneOf_keeps h fun _ => noneOf_keeps h fun _ =>
      noneOf_keeps h fun _ => noneOf_keeps h fun _ => ?_)
    unfold checkController
    split
    · exact need_keeps h fun _ _ => check_keeps h fun _ => noneOf_keeps h fun _ => h.createMove
    · exact check_keeps h fun _ => h.createMove
  | addMember b u =>
    exact look_keeps (moveCommand_keeps h fun i m _ hm _ => check_keeps h fun _ => need_keeps h fun _ _ =>
      check_keeps h fun _ => check_keeps h fun _ => check_keeps h fun _ => check_keeps h fun _ => h.addMember)
  | removeMember b u =>
    exact moveCommand_keeps h fun i m _ hm _ => check_keeps h fun _ => check_keeps h fun _ =>
      check_keeps h fun _ => check_keeps h fun _ => h.removeHandset.only (serveFreed_only _ _)
  | releaseMove b =>
    exact moveCommand_keeps h fun i m _ hm _ => iteFun_keeps (Q := RegisterLaw)
      (fun _ => h.only (enterReleasing_only _ _ _)) fun _ => h.release
  | _ => exact apart (by simp [commandFields]) (by simp [commandFields])

theorem rows (i : Instr) (touches : rowTouches [.time, .units] i = true) (s t : State) (h : RegisterLaw s)
    (e : exec i s = .next t) : RegisterLaw t := by
  have settled {f : State → State} (e : event f s = .next t) (k : RegisterLaw (f s)) : RegisterLaw t :=
    event_keeps h (k.only (settle_only _)) e
  have air {p : Port} {src : UnitId} {f : Chan → State → State} (k : ∀ ch u, RegisterLaw u → RegisterLaw (f ch u)) :
      RegisterLaw (arrives p src f s) := arrives_keeps h fun _ _ _ _ _ => k _ _ h.refresh
  cases i <;> cases touches
  all_goals dsimp only [exec] at e
  case timeBaseTick => exact settled e h.tick
  case slotReady p => exact settled e (whenSome_keeps h fun _ _ => h.handHead)
  case talkReq p src b => exact settled e (air fun _ _ k => k.only (talkReqBy_only _ _ _ _))
  case talkEndFrame p src => exact settled e (air fun _ _ k => k.only (talkEndBy_frame _ _ _).only)
  case emergency p src => exact settled e (air fun _ _ k => k.only (emergencyBy_only _ _ _))
  case presence p src b => exact settled e (air fun _ _ k => k.only (presenceBy_only _ _))
  case resume p src b => exact settled e (air fun _ _ k => k.only (resumeBy_only _ _))
  case handoverOffer p src b x => exact settled e (air fun _ _ k => k.only (offerBy_only _ _ _))
  case handoverTake p src b => exact settled e (air fun _ _ k => k.only (takeBy_only _ _))
  case joined p src b c => exact settled e (air fun _ _ k => k.joinedBy)
  case stopAck p src b =>
    refine settled e (air fun _ _ k => forMove_keeps (Q := RegisterLaw) k fun i m _ _ _ =>
      ite_keeps (Q := RegisterLaw) (fun _ => ?_) fun _ => k)
    split
    · exact k.only (confirmStop_only _ _ _)
    · exact k.release
    all_goals exact k
  case capability p src k l c f =>
    refine settled e (ite_keeps (Q := RegisterLaw) (fun _ => h) fun _ => whenSome_keeps h fun _ _ =>
      ite_keeps (Q := RegisterLaw) (fun _ => ?_) fun _ => h.refresh)
    exact whenSome_keeps h.refresh fun _ _ => h.refresh.only (takeBurst_only _ _)
  case formingDeadline j =>
    exact settled e (whenSome_keeps h fun m _ => expiry_keeps h fun _ => ite_keeps (Q := RegisterLaw) (fun _ => h) fun _ =>
      h.formingEnds.only (serveFreed_only _ _))
  case releaseDeadline j => exact settled e (whenSome_keeps h fun m _ => expiry_keeps h fun _ => h.release)
  case agingExpiry u =>
    exact settled e (whenSome_keeps h fun _ _ => ite_keeps (Q := RegisterLaw) (fun _ => h.ageOutUnit.only (serveFreed_only _ _)) fun _ => h)

end RegisterLaw

end Sys2Proof.Machine

/-! PROOF. O57: the members of moves and the bindings of the register agree after every event. -/

namespace Sys2Proof.Machine

set_option Elab.async false

/-! ## Members and bindings -/

/-- R2: the units of the move at a place; none where the record is free. -/
def State.membersOf (s : State) (i : MoveIx) : List UnitId := ((s.move i).map Move.units).getD []

theorem State.membersOf_some {s : State} {i : MoveIx} {m : Move} (h : s.move i = some m) : s.membersOf i = m.units := by
  simp [State.membersOf, h]

theorem State.membersOf_none {s : State} {i : MoveIx} (h : s.move i = none) : s.membersOf i = [] := by
  simp [State.membersOf, h]

theorem MovesSteady.membersOf {s t : State} (h : MovesSteady s t) (i : MoveIx) : t.membersOf i = s.membersOf i := by
  rcases h i with e | ⟨m, n, hm, hn, st⟩
  · simp [State.membersOf, e]
  · rw [State.membersOf_some hm, State.membersOf_some hn, st.units]

/-- BindingLaw in the terms of the unit that is looked up. -/
structure Agreement (s : State) : Prop where
  config : s.part = .config → ∀ i, s.move i = none
  once : ∀ i, (s.membersOf i).Nodup
  bound : ∀ i u, s.bindingOf (.unit u) = some i ↔ u ∈ s.membersOf i

theorem bindingLaw_iff {s : State} (register : RegisterLaw s) : BindingLaw s ↔ Agreement s := by
  have lookUp (r : UnitRec) (hr : r ∈ s.units) : s.unit r.unit = some r := by
    cases h : s.unit r.unit with
    | none => exact absurd (List.find?_eq_none.1 h r hr) (by simp)
    | some x =>
      have key := State.unit_key h
      have mem := State.unit_mem h
      exact congrArg some (List.inj_on_of_nodup_map register.1 mem hr key)
  constructor
  · rintro ⟨config, members, records⟩
    refine ⟨config, fun i => ?_, fun i u => ⟨fun h => ?_, fun h => ?_⟩⟩
    · cases hm : s.move i with
      | none => rw [State.membersOf_none hm]; exact List.nodup_nil
      | some m => rw [State.membersOf_some hm]; exact (members i m hm).1
    · obtain ⟨r, hr, binding⟩ := Option.bind_eq_some_iff.1 h
      obtain ⟨m, hm, mem⟩ := records r (State.unit_mem hr) i binding
      rw [State.membersOf_some hm, ← State.unit_key hr]
      exact mem
    · cases hm : s.move i with
      | none => rw [State.membersOf_none hm] at h; cases h
      | some m => rw [State.membersOf_some hm] at h; exact (members i m hm).2 u h
  · rintro ⟨config, once, bound⟩
    refine ⟨config, fun i m hm => ?_, fun r hr i binding => ?_⟩
    · rw [← State.membersOf_some hm]
      exact ⟨once i, fun u hu => (bound i u).2 hu⟩
    · have mem := (bound i r.unit).1 (by simp [State.bindingOf, lookUp r hr, binding])
      cases hm : s.move i with
      | none => rw [State.membersOf_none hm] at mem; cases mem
      | some m => rw [State.membersOf_some hm] at mem; exact ⟨m, rfl, mem⟩

namespace Agreement

variable {s t : State} {i : MoveIx} {m : Move} {u : UnitId}

/-- A change that leaves every record in its place and every binding. -/
theorem steady (h : Agreement s) (moves : MovesSteady s t) (part : t.part = .config → s.part = .config)
    (bindings : ∀ u, t.bindingOf (.unit u) = s.bindingOf (.unit u)) : Agreement t := by
  refine ⟨fun config i => ?_, fun i => moves.membersOf i ▸ h.once i, fun i u => ?_⟩
  · rcases moves i with e | ⟨m, -, hm, -, -⟩
    · exact e.trans (h.config (part config) i)
    · exact absurd hm (by simp [h.config (part config) i])
  · rw [bindings, moves.membersOf, h.bound]

theorem only {fs : List Field} (h : Agreement s) (k : Only fs s t)
    (apart : ∀ f ∈ [Field.part, .moves, .units], f ∉ fs := by decide) : Agreement t := by
  refine h.steady (.of_only k (apart _ (by simp))) (fun e => ?_) fun u => ?_
  · rw [← k.part (apart _ (by simp))]; exact e
  · exact State.bindingOf_congr (k.units (apart _ (by simp))) _

/-- One move takes other members, and exactly they are bound to it: they were its members before, or bound to no move. -/
theorem change (h : Agreement s) (config : t.part = .config → ∀ i, t.move i = none) (others : ∀ j, j ≠ i → t.move j = s.move j)
    (once : (t.membersOf i).Nodup)
    (bindings : ∀ u, t.bindingOf (.unit u) =
      if u ∈ t.membersOf i then some i else if u ∈ s.membersOf i then none else s.bindingOf (.unit u))
    (free : ∀ u ∈ t.membersOf i, u ∈ s.membersOf i ∨ s.bindingOf (.unit u) = none) : Agreement t := by
  have same (j : MoveIx) (e : j ≠ i) : t.membersOf j = s.membersOf j := by simp [State.membersOf, others j e]
  refine ⟨config, fun j => ?_, fun j u => ?_⟩
  · by_cases e : j = i
    · exact e ▸ once
    · exact same j e ▸ h.once j
  · have bound := h.bound j u
    rw [bindings]
    by_cases e : j = i
    · subst e
      split
      · simp_all
      · split
        · simp_all
        · simp_all
    · rw [same j e, ← bound]
      have notTwo : u ∈ s.membersOf i → s.bindingOf (.unit u) = some i := (h.bound i u).2
      split
      · next new =>
        have other : s.bindingOf (.unit u) = some i ∨ s.bindingOf (.unit u) = none := (free u new).imp_left notTwo
        rcases other with o | o <;> simp [o, Ne.symm e]
      · split
        · next old => simp [notTwo old, Ne.symm e]
        · rfl

/-! ## The Move Table -/

theorem unit_mem_of_member (hm : s.move i = some m) (h : Agreement s) (mem : u ∈ m.units) : s.bindingOf (.unit u) = some i :=
  (h.bound i u).2 (by rw [State.membersOf_some hm]; exact mem)

/-- R21: a record is freed, and its members are unbound. -/
theorem freed (h : Agreement s) (hm : s.move i = some m) (part : t.part = s.part)
    (moves : ∀ j, t.move j = if j = i then none else s.move j)
    (units : ∀ v, t.unit v = if v ∈ m.units then (s.unit v).map (UnitRec.unbound s.time) else s.unit v) : Agreement t := by
  have gone : t.membersOf i = [] := State.membersOf_none (by simp [moves])
  refine h.change (i := i) (fun config j => ?_) (fun j e => by simp [moves, e]) (gone ▸ List.nodup_nil) (fun u => ?_) (by simp [gone])
  · rw [moves]; split
    · rfl
    · exact h.config (part ▸ config) j
  · rw [gone, bindingOf_of_unbound units, State.membersOf_some hm]
    simp

theorem freeMove {leaves : Member → Bool} (h : Agreement s) (hm : s.move i = some m) : Agreement (freeMove leaves i m s) :=
  h.freed hm (freeMove_only _ _ _ _).part (freeMove_move _ _ _ _) (freeMove_unit _ _ _ _)

theorem release {n : NoticeBody} (h : Agreement s) (hm : s.move i = some m) : Agreement (release n i m s) :=
  h.freed hm (release_only _ _ _ _).part (release_move _ _ _ _) (release_unit _ _ _ _)

theorem mem_units {m : Move} {u : UnitId} : u ∈ m.units ↔ u = m.loco.unit ∨ ∃ e ∈ m.handsets, e.unit = u := by
  simp [Move.units, Move.members]

/-- R10, R14: handsets leave a move. -/
theorem handsetsLeave {us : List UnitId} {g : Move → Move} (h : Agreement s) (hm : s.move i = some m) (part : t.part = s.part)
    (handsets : ∀ u ∈ us, u ∈ m.units)
    (moves : ∀ j, t.move j = if j = i then some (g m) else s.move j)
    (left : (g m).units = m.units.filter (fun u => decide (u ∉ us)))
    (units : ∀ v, t.unit v = if v ∈ us then (s.unit v).map (UnitRec.unbound s.time) else s.unit v) : Agreement t := by
  have now : t.membersOf i = m.units.filter (fun u => decide (u ∉ us)) := by
    rw [State.membersOf_some (m := g m) (by simp [moves]), left]
  have before : s.membersOf i = m.units := State.membersOf_some hm
  refine h.change (i := i) (fun config => ?_) (fun j e => by simp [moves, e]) ?_ (fun u => ?_) fun u hu => ?_
  · exact absurd hm (by simp [h.config (part ▸ config) i])
  · rw [now]
    exact (before ▸ h.once i).filter _
  · rw [now, before, bindingOf_of_unbound units]
    have bound := (h.bound i u).2
    rw [before] at bound
    by_cases gone : u ∈ us
    · simp [gone, handsets u gone]
    · by_cases mem : u ∈ m.units
      · simp [gone, mem, bound]
      · simp [gone, mem]
  · rw [now] at hu
    rw [before]
    exact .inl (List.mem_of_mem_filter hu)

theorem foldl_withoutHandset_units {us : List UnitId} {m : Move} (notLoco : m.loco.unit ∉ us) :
    (us.foldl (fun m u => m.withoutHandset u) m).units = m.units.filter (fun u => decide (u ∉ us)) := by
  rw [foldl_withoutHandset]
  simp [Move.units, Move.members, notLoco, List.filter_map, Function.comp_def]

theorem removeHandset {leave : Bool} (h : Agreement s) (hm : s.move i = some m) (notLoco : m.loco.unit ≠ u) (mem : u ∈ m.units) :
    Agreement (removeHandset leave i u s) := by
  refine h.handsetsLeave (us := [u]) (g := Move.withoutHandset u) hm (removeHandset_only _ _ _ _).part
    (by simpa using mem) (fun j => by rw [removeHandset_move, hm]; rfl) ?_ fun v => by simpa using removeHandset_unit hm v
  exact foldl_withoutHandset_units (us := [u]) (by simpa using notLoco)

theorem dropped_handsets {m : Move} {u : UnitId} (h : u ∈ m.dropped) : ∃ e ∈ m.handsets, e.unit = u := by
  unfold Move.dropped at h
  split at h
  · obtain ⟨e, he, rfl⟩ := List.mem_map.1 h
    exact ⟨e, List.mem_of_mem_filter he, rfl⟩
  · obtain ⟨e, he, rfl⟩ := List.mem_map.1 h
    exact ⟨e, List.mem_of_mem_drop he, rfl⟩

theorem formingEnds (h : Agreement s) (hm : s.move i = some m) : Agreement (formingEnds i m s) := by
  have once : m.units.Nodup := State.membersOf_some hm ▸ h.once i
  have notLoco : m.loco.unit ∉ m.dropped := fun k => by
    obtain ⟨e, he, same⟩ := dropped_handsets k
    exact (List.nodup_cons.1 once).1 (List.mem_map.2 ⟨e, he, same⟩)
  refine ite_keeps (Q := Agreement) (fun _ => (h.freeMove hm).only (notify_only _ _ _)) fun _ => ?_
  have left : Agreement (forEach m.dropped (Machine.removeHandset false i) s) :=
    h.handsetsLeave (us := m.dropped) (g := fun m => m.dropped.foldl (fun m u => m.withoutHandset u) m) hm
      (Only.forEach (fs := moveFields) _ (fun _ _ _ => removeHandset_only _ _ _ _) _).part
      (fun u hu => mem_units.2 (.inr (dropped_handsets hu))) (fun j => by rw [removeHandsets_move, hm]; rfl)
      (foldl_withoutHandset_units notLoco) (removeHandsets_unit _ hm)
  have active : Agreement (modMove i (Move.becomesActive s.time) (forEach m.dropped (Machine.removeHandset false i) s)) := by
    generalize forEach m.dropped _ s = v at left ⊢
    have same (n : Move) : (n.becomesActive s.time).units = n.units := by unfold Move.becomesActive; split <;> rfl
    have members (j : MoveIx) : (modMove i (Move.becomesActive s.time) v).membersOf j = v.membersOf j := by
      unfold State.membersOf
      rw [modMove_move]
      split
      · next e => subst e; simp [Function.comp_def, same]
      · rfl
    refine ⟨fun config j => ?_, fun j => members j ▸ left.once j, fun j u => ?_⟩
    · rw [modMove_move]
      have none := left.config config
      split <;> simp [none]
    · rw [members]
      exact left.bound j u
  exact active.only (notify_only _ _ _)

/-- R6, R11: a move has further members, registered and bound to no move before. -/
theorem join {us : List UnitId} {m' : Move} (h : Agreement s) (service : s.part = .service) (part : t.part = s.part)
    (moves : ∀ j, t.move j = if j = i then some m' else s.move j) (members : ∀ u, u ∈ m'.units ↔ u ∈ s.membersOf i ∨ u ∈ us)
    (once : m'.units.Nodup) (known : ∀ u ∈ us, (s.unit u).isSome = true) (free : ∀ u ∈ us, s.bindingOf (.unit u) = none)
    (bindings : ∀ u, t.bindingOf (.unit u) = if u ∈ us ∧ (s.unit u).isSome then some i else s.bindingOf (.unit u)) :
    Agreement t := by
  have now : t.membersOf i = m'.units := State.membersOf_some (by simp [moves])
  refine h.change (i := i) (fun config => ?_) (fun j e => by simp [moves, e]) (now ▸ once) (fun u => ?_) fun u hu => ?_
  · simp [part, service] at config
  · rw [now, bindings]
    have bound := (h.bound i u).2
    have mem := members u
    have registered := known u
    by_cases new : u ∈ us <;> by_cases old : u ∈ s.membersOf i <;> simp_all
  · rw [now] at hu
    exact ((members u).1 hu).imp_right (free u)

theorem newMember_units (now : Time) (us : List UnitId) : (us.map (newMember now)).map (·.unit) = us := by
  simp [Function.comp_def, newMember]

theorem createMove {link : Console} {ch : Chan} {f : MoveFields} (h : Agreement s) (service : s.part = .service)
    (free : s.move i = none) (once : (named f).Nodup) (known : ∀ u ∈ named f, (s.unit u).isSome = true)
    (unbound : ∀ u ∈ named f, s.bindingOf (.unit u) = none) : Agreement (createMove link i ch f s) := by
  have units : (newMove link ch f s).units = named f := by
    simp [Move.units, Move.members, newMove, named, newMember, Function.comp_def]
  refine h.join (us := named f) (m' := newMove link ch f s) service (createMove_only _ _ _ _ _).part (createMove_move _ _ _ _ _)
    (fun u => by rw [units, State.membersOf_none free]; simp) (units ▸ once) known unbound fun u => ?_
  unfold Machine.createMove
  rw [State.bindingOf_congr (orderJoins_only _ _ _ _).units, bindEach_bindingOf]
  rfl

theorem addMember (h : Agreement s) (service : s.part = .service) (hm : s.move i = some m) (known : (s.unit u).isSome = true)
    (unbound : s.bindingOf (.unit u) = none) : Agreement (addMember i m u s) := by
  have units : (m.withHandset s.time u).units = m.units ++ [u] := by
    simp [Move.units, Move.members, Move.withHandset, newMember]
  have once : m.units.Nodup := State.membersOf_some hm ▸ h.once i
  have fresh : u ∉ m.units := fun k => by simp [unit_mem_of_member hm h k] at unbound
  refine h.join (us := [u]) (m' := m.withHandset s.time u) service (addMember_only _ _ _ _).part (addMember_move _ _ _ _)
    (fun v => by rw [units, State.membersOf_some hm, List.mem_append]) ?_ (by simpa using known) (by simpa using unbound) fun v => ?_
  · rw [units, List.nodup_append]
    exact ⟨once, by simp, fun a ha b hb e => fresh (by simp_all)⟩
  · unfold Machine.addMember
    rw [State.bindingOf_congr (orderTo_only _ _ _).units, bindUnit_bindingOf]
    simp only [List.mem_singleton]
    rfl

/-! ## The Register and the Enrolment Unit -/

theorem refresh (h : Agreement s) : Agreement (refresh u s) :=
  h.steady (.of_only (refresh_only _ _)) (fun e => (refresh_only u s).part ▸ e) fun _ => refresh_bindingOf _ _ _

theorem comeTo_bindingOf (ch : Chan) (u : UnitId) (s : State) (v : UnitId) :
    (comeTo ch u s).bindingOf (.unit v) = s.bindingOf (.unit v) := by
  unfold comeTo
  split
  · rfl
  · have units := (cancelClaim_frame (s.currentOf u) .moved (.unit u) s).only.units
    rw [modUnit_bindingOf]
    split
    · rw [State.unit_congr units]; rfl
    · exact State.bindingOf_congr units _

theorem joinedBy {move ch : Byte} (h : Agreement s) : Agreement (joinedBy u move ch s) := by
  refine h.steady .joinedBy (fun e => (joinedBy_only u move ch s).part ▸ e) fun v => ?_
  refine whenSome_keeps (Q := fun t => t.bindingOf (.unit v) = s.bindingOf (.unit v)) rfl fun i _ =>
    whenSome_keeps (Q := fun t => t.bindingOf (.unit v) = s.bindingOf (.unit v)) rfl fun m _ =>
    whenSome_keeps (Q := fun t => t.bindingOf (.unit v) = s.bindingOf (.unit v)) rfl fun e _ =>
    ite_keeps (Q := fun t => t.bindingOf (.unit v) = s.bindingOf (.unit v)) (fun _ => ?_) fun _ => rfl
  rw [State.bindingOf_congr (serveFreed_only _ _).units, State.bindingOf_congr (lastJoined_only _ _).units, comeTo_bindingOf]
  rfl

/-- R114: the record of an unbound unit goes. -/
theorem removeRecord (h : Agreement s) (unbound : s.bindingOf (.unit u) = none) : Agreement (removeRecord false u s) := by
  refine h.steady (.of_only (removeRecord_only _ _ _)) (fun e => (removeRecord_only false u s).part ▸ e) fun v => ?_
  simp only [State.bindingOf, removeRecord_unit]
  split
  · next e => subst e; exact unbound.symm
  · rfl

theorem ageOutUnit_bindingOf (v : UnitId) : (ageOutUnit u s).bindingOf (.unit v) = if v = u then none else s.bindingOf (.unit v) := by
  unfold Machine.ageOutUnit
  split
  · next none =>
    split
    · next e => subst e; simp [State.bindingOf, none]
    · rfl
  · rw [State.bindingOf_congr (broadcast_only _ _).units]
    simp only [State.bindingOf, removeRecord_unit]
    split <;> rfl

theorem ageOutUnit (h : Agreement s) (unbound : s.bindingOf (.unit u) = none) : Agreement (ageOutUnit u s) := by
  unfold Machine.ageOutUnit
  split
  · exact h
  · exact (h.removeRecord unbound).only (broadcast_only _ _)

theorem insertUnit_mem {r x : UnitRec} {us : List UnitRec} : x ∈ insertUnit r us ↔ x = r ∨ x ∈ us := by
  induction us with
  | nil => simp [insertUnit]
  | cons y ys ih =>
    unfold insertUnit
    split
    · simp
    · rw [List.mem_cons, ih, List.mem_cons]
      constructor <;> rintro (h | h | h) <;> simp [h]

theorem byUnit_mem {x : UnitRec} {us : List UnitRec} : x ∈ byUnit us ↔ x ∈ us := by
  unfold byUnit
  induction us with
  | nil => simp
  | cons y ys ih => rw [List.foldr_cons, insertUnit_mem, ih, List.mem_cons]

theorem bindingOf_of_mem (register : RegisterLaw s) {r : UnitRec} (hr : r ∈ s.units) : s.bindingOf (.unit r.unit) = r.binding := by
  cases h : s.unit r.unit with
  | none => exact absurd (List.find?_eq_none.1 h r hr) (by simp)
  | some x =>
    have same : x = r := List.inj_on_of_nodup_map register.1 (State.unit_mem h) hr (State.unit_key h)
    simp [State.bindingOf, h, same]

/-- R119: the records that have aged are those of unbound units. -/
theorem ageOutAll (h : Agreement s) (register : RegisterLaw s) : Agreement (ageOutAll s) := by
  have aged : ∀ r ∈ (byUnit s.units).filter (fun r => r.aged s.time s.globals.ageOut), s.bindingOf (.unit r.unit) = none := by
    intro r hr
    obtain ⟨mem, age⟩ := List.mem_filter.1 hr
    rw [bindingOf_of_mem register (byUnit_mem.1 mem)]
    simp only [UnitRec.aged, Bool.and_eq_true, Option.isNone_iff_eq_none] at age
    exact age.1
  unfold Machine.ageOutAll
  generalize List.filter _ _ = rs at aged
  induction rs generalizing s with
  | nil => exact h
  | cons r rs ih =>
    refine ih (h.ageOutUnit (aged r (by simp))) register.ageOutUnit fun x hx => ?_
    rw [ageOutUnit_bindingOf]
    split
    · rfl
    · exact aged x (by simp [hx])

theorem addRecord {k : SlotIx} {sl : Slot} (h : Agreement s) (fresh : s.unit sl.unit = none) : Agreement (addRecord k sl s) := by
  have written : Agreement { s with units := s.units ++ [newRecord s.time sl] } := by
    refine h.steady (.of_only (units_only _ _)) id fun v => ?_
    simp only [State.bindingOf, append_unit]
    by_cases e : sl.unit = v
    · have none : s.unit v = none := e ▸ fresh
      simp [none, e, newRecord]
    · simp [e, newRecord]
  exact written.only (reportAdmitted_only _ _ _ _)

theorem replaceRecord {k : SlotIx} {sl : Slot} (h : Agreement s) (unbound : s.bindingOf (.unit sl.unit) = none) :
    Agreement (replaceRecord k sl s) := by
  have cleared : Agreement (Machine.removeRecord true sl.unit s) := by
    have units : (Machine.removeRecord true sl.unit s).units = s.units := removeRecord_units true sl.unit s
    exact h.steady (.of_only (removeRecord_only _ _ _)) (fun e => (removeRecord_only true sl.unit s).part ▸ e) fun v =>
      State.bindingOf_congr units _
  have unbound' : (Machine.removeRecord true sl.unit s).bindingOf (.unit sl.unit) = none :=
    (State.bindingOf_congr (removeRecord_units true sl.unit s) _).trans unbound
  have written : Agreement (modUnit sl.unit (fun _ => newRecord s.time sl) (Machine.removeRecord true sl.unit s)) := by
    generalize Machine.removeRecord true sl.unit s = v at cleared unbound'
    have each : modUnit sl.unit (fun _ => newRecord s.time sl) v =
        modUnit sl.unit (fun r => { newRecord s.time sl with unit := r.unit }) v := by
      unfold modUnit
      refine congrArg (fun us => { v with units := us }) (List.map_congr_left fun r _ => ?_)
      split
      · next e => simp only [beq_iff_eq] at e; simp [newRecord, e]
      · rfl
    rw [each]
    refine cleared.steady (.of_only (modUnit_only _ _ _)) id fun w => ?_
    rw [modUnit_bindingOf]
    split
    · next e => subst e; rw [unbound']; cases v.unit sl.unit <;> rfl
    · rfl
  unfold Machine.replaceRecord
  exact written.only (reportAdmitted_only _ _ _ _)

/-- R113: an unbound record of the register is evicted. -/
theorem evicted_unbound {now : Time} {us : List UnitRec} {old : UnitRec} (h : evicted now us = some old) :
    old ∈ us ∧ old.binding = none := by
  have through (xs : List UnitRec) (b : Option UnitRec) (hb : ∀ r, b = some r → r ∈ us ∧ r.binding = none)
      (sub : ∀ r ∈ xs, r ∈ us) (r : UnitRec)
      (hr : xs.foldl (fun b r => if r.binding.isSome then b
        else match b with
          | none => some r
          | some x => if evictsBefore now r x then some r else some x) b = some r) : r ∈ us ∧ r.binding = none := by
    induction xs generalizing b with
    | nil => exact hb r hr
    | cons x xs ih =>
      refine ih _ (fun y hy => ?_) (fun y m => sub y (.tail _ m)) hr
      dsimp only at hy
      split at hy
      · exact hb y hy
      · next free =>
        have new : x ∈ us ∧ x.binding = none := ⟨sub x (.head _), by simpa using free⟩
        split at hy
        · cases hy; exact new
        · split at hy <;> cases hy
          · exact new
          · exact hb _ rfl
  exact through us none (fun _ e => nomatch e) (fun _ m => m) old h

theorem evictFor {k : SlotIx} {sl : Slot} {old : UnitRec} (h : Agreement s) (fresh : s.unit sl.unit = none)
    (unbound : s.bindingOf (.unit old.unit) = none) : Agreement (evictFor k sl old s) := by
  refine ((h.removeRecord unbound).only (broadcast_only _ _)).addRecord ?_
  rw [State.unit_congr (broadcast_only _ _).units, removeRecord_unit]
  split
  · rfl
  · exact fresh

theorem admitUnit {k : SlotIx} {sl : Slot} (h : Agreement s) (register : RegisterLaw s) : Agreement (admitUnit k sl s) := by
  unfold Machine.admitUnit
  refine Agreement.only ?_ (serveFreed_only _ _)
  split
  · next r hr =>
    refine ite_keeps (Q := Agreement) (fun _ => h.only (freeSlot_only _ _ _ _ _)) fun unbound => h.replaceRecord ?_
    simpa [State.bindingOf, hr] using unbound
  · next fresh =>
    refine ite_keeps (Q := Agreement) (fun _ => h.addRecord fresh) fun _ => ?_
    split
    · next old he =>
      obtain ⟨mem, unbound⟩ := evicted_unbound he
      exact h.evictFor fresh ((bindingOf_of_mem register mem).trans unbound)
    · exact h.only (freeSlot_only _ _ _ _ _)

theorem handHead {p : Port} {ch : Chan} (h : Agreement s) (register : RegisterLaw s) : Agreement (handHead p ch s) := by
  refine whenSome_keeps h fun f _ => ?_
  have sent : Agreement (send p (.air f) (setFrames ch (withoutHead (s.frames ch)) s)) :=
    (h.only (setFrames_only' _ _ _)).only (send_only _ _ _)
  have once : RegisterLaw (send p (.air f) (setFrames ch (withoutHead (s.frames ch)) s)) :=
    (register.only (setFrames_only' _ _ _)).only (send_only _ _ _)
  exact ite_keeps (Q := Agreement) (fun _ => whenSome_keeps sent fun _ _ => ite_keeps (Q := Agreement)
    (fun _ => sent.admitUnit once) fun _ => sent) fun _ => sent

theorem tick (h : Agreement s) :
    Agreement { s with time := s.time + 1#32, units := s.units.map (UnitRec.held (s.time + 1#32)) } := by
  refine h.steady (.of_moves rfl) id fun v => ?_
  have found : ({ s with time := s.time + 1#32, units := s.units.map (UnitRec.held (s.time + 1#32)) } : State).unit v =
      (s.unit v).map (UnitRec.held (s.time + 1#32)) := find?_map_keeping UnitRec.unit (UnitRec.held _) (fun _ => rfl) v s.units
  simp only [State.bindingOf, found]
  cases s.unit v <;> rfl

/-! ## ENTER_SERVICE and RESTART -/

theorem enterService (h : Agreement s) : Agreement (enterService s) := by
  have service : (Machine.enterService s).part = .service := by
    have placed := placeChannels_only { s with part := .service }
    exact placed.part
  refine h.steady (.of_only (enterService_only s)) (fun e => ?_) fun u => State.bindingOf_congr (enterService_only s).units _
  rw [service] at e
  cases e

theorem restart (empty : ∀ i, s.move i = none) : Agreement (restart s) := by
  have moves (i : MoveIx) : (Machine.restart s).move i = none := (State.move_congr (restart_only s).moves i).trans (empty i)
  have members (i : MoveIx) : (Machine.restart s).membersOf i = [] := State.membersOf_none (moves i)
  have bindings (u : UnitId) : (Machine.restart s).bindingOf (.unit u) = none := by
    simp [State.bindingOf, State.unit, restart_units]
  exact ⟨fun _ => moves, fun i => members i ▸ List.nodup_nil, fun i u => by rw [bindings, members]; simp⟩

/-! ## Commands and rows -/

theorem createCommand {link : Console} {f : MoveFields} (h : Agreement s) : Agreement (cmdCreateMove link f s).2 := by
  refine look_keeps (check_keeps h fun service => need_keeps h fun i free => need_keeps h fun ch _ => check_keeps h fun _ =>
    check_keeps h fun _ => check_keeps h fun once => noneOf_keeps h fun known => noneOf_keeps h fun unbound =>
    noneOf_keeps h fun _ => noneOf_keeps h fun _ => ?_)
  have created : Agreement (Machine.createMove link i ch f s) := by
    refine h.createMove (by simpa using service) (by simpa using List.find?_some free) (by simpa using once) (fun u hu => ?_)
      fun u hu => ?_
    · simpa [Option.isSome_iff_ne_none] using List.find?_eq_none.1 known u hu
    · simpa using List.find?_eq_none.1 unbound u hu
  unfold checkController
  split
  · exact need_keeps h fun _ _ => check_keeps h fun _ => noneOf_keeps h fun _ => created
  · exact check_keeps h fun _ => created

theorem commands (link : Console) (c : Command) (s : State) (h : Agreement s) (register : RegisterLaw s) :
    Agreement (runCommand link c s).2 := by
  have only := runCommand_only link c s
  have steady (members : changesMembers c = false) (part : .part ∉ commandFields c) (units : .units ∉ commandFields c) :
      Agreement (runCommand link c s).2 :=
    h.steady (command_movesSteady link members s) (fun e => only.part part ▸ e) fun _ => State.bindingOf_congr (only.units units) _
  cases c with
  | setGlobal f =>
    refine look_keeps (check_keeps h fun _ => check_keeps h fun _ => check_keeps h fun _ => ?_)
    have applied : Agreement { s with globals := s.globals.withFields f } := ⟨h.config, h.once, h.bound⟩
    have laws : RegisterLaw { s with globals := s.globals.withFields f } := register
    exact iteFun_keeps (Q := Agreement) (fun _ => (applied.ageOutAll laws).only (serveFreed_only _ _)) fun _ => applied
  | enterService =>
    refine look_keeps (check_keeps h fun _ => ?_)
    cases planFault s with
    | some x => exact h
    | none => exact h.enterService
  | restart =>
    refine look_keeps (check_keeps h fun admitted => ?_)
    refine Agreement.restart fun i => ?_
    have every : i ∈ allMoves := by revert i; decide
    simp only [Bool.or_eq_true, beq_iff_eq, List.all_eq_true, Option.isNone_iff_eq_none] at admitted
    rcases admitted with config | empty
    · exact h.config config i
    · exact empty i every
  | createMove f => exact h.createCommand
  | addMember b u =>
    refine look_keeps (moveCommand_keeps h fun i m service hm _ => check_keeps h fun _ => need_keeps h fun r hr =>
      check_keeps h fun unbound => check_keeps h fun _ => check_keeps h fun _ => check_keeps h fun _ => ?_)
    exact h.addMember service hm (by simp [hr]) (by simpa [State.bindingOf, hr] using unbound)
  | removeMember b u =>
    refine moveCommand_keeps h fun i m _ hm _ => check_keeps h fun mem => check_keeps h fun notLoco =>
      check_keeps h fun _ => check_keeps h fun _ => ?_
    refine (h.removeHandset hm (by simpa using notLoco) ?_).only (serveFreed_only _ _)
    obtain ⟨e, he⟩ := Option.isSome_iff_exists.1 mem
    exact List.mem_map.2 ⟨e, List.mem_of_find?_eq_some he, by simpa using List.find?_some he⟩
  | releaseMove b =>
    refine moveCommand_keeps h fun i m _ hm _ => iteFun_keeps (Q := Agreement) (fun runs => ?_) fun _ => h.release hm
    refine h.steady (.enterReleasing hm fun forming => ?_) (fun e => (enterReleasing_only i m s).part ▸ e)
      fun _ => State.bindingOf_congr (enterReleasing_only i m s).units _
    simp [Move.runs, forming] at runs
  | _ => exact steady rfl (by simp [commandFields]) (by simp [commandFields])

theorem rows (i : Instr) (touches : rowTouches [.time, .part, .moves, .units] i = true) (s t : State) (h : Agreement s)
    (register : RegisterLaw s) (e : exec i s = .next t) : Agreement t := by
  have settled {f : State → State} (e : event f s = .next t) (k : Agreement (f s)) : Agreement t :=
    event_keeps h (k.only (settle_only _)) e
  have only := rowTouches_only touches e
  have steadyRows (own : rowTouches [.moves] i = true ∧ freesMoves i = false ∧ (rowFields i).contains .units = false) :
      Agreement t := by
    obtain ⟨moves, frees, apart⟩ := own
    have units : .units ∉ rowFields i := by simpa using apart
    have part : .part ∉ rowFields i := by cases i <;> cases moves <;> cases frees <;> simp [rowFields]
    exact h.steady (row_movesSteady moves frees e) (fun k => only.part part ▸ k) fun _ => State.bindingOf_congr (only.units units) _
  have air {p : Port} {src : UnitId} {f : Chan → State → State} (k : ∀ ch u, Agreement u → Agreement (f ch u)) :
      Agreement (arrives p src f s) := arrives_keeps h fun _ _ _ _ _ => k _ _ h.refresh
  have supervised {u v : State} {fs : List Field} (k : Agreement u) (st : MovesSteady u v) (o : Only fs u v)
      (part : .part ∉ fs := by decide) (units : .units ∉ fs := by decide) : Agreement v :=
    k.steady st (fun e => o.part part ▸ e) fun _ => State.bindingOf_congr (o.units units) _
  cases i <;> cases touches <;> try exact steadyRows ⟨rfl, rfl, rfl⟩
  all_goals dsimp only [exec] at e
  case timeBaseTick => exact settled e h.tick
  case slotReady p => exact settled e (whenSome_keeps h fun _ _ => h.handHead register)
  case talkReq p src b => exact settled e (air fun _ _ k => k.only (talkReqBy_only _ _ _ _))
  case talkEndFrame p src => exact settled e (air fun _ _ k => k.only (talkEndBy_frame _ _ _).only)
  case emergency p src => exact settled e (air fun _ _ k => supervised k (emergencyBy_steady _ _ _) (emergencyBy_only _ _ _))
  case presence p src b => exact settled e (air fun _ _ k => supervised k (presenceBy_steady _ _) (presenceBy_only _ _))
  case resume p src b => exact settled e (air fun _ _ k => supervised k (resumeBy_steady _ _) (resumeBy_only _ _))
  case handoverOffer p src b x => exact settled e (air fun _ _ k => supervised k (offerBy_steady _ _ _) (offerBy_only _ _ _))
  case handoverTake p src b => exact settled e (air fun _ _ k => supervised k (takeBy_steady _ _) (takeBy_only _ _))
  case joined p src b c => exact settled e (air fun _ _ k => k.joinedBy)
  case stopAck p src b =>
    refine settled e (air fun _ _ k => forMove_keeps (Q := Agreement) k fun i m _ hm _ =>
      ite_keeps (Q := Agreement) (fun _ => ?_) fun _ => k)
    split
    · exact supervised k (confirmStop_steady hm ‹_›) (confirmStop_only _ _ _)
    · exact k.release hm
    all_goals exact k
  case capability p src k l c f =>
    refine settled e (ite_keeps (Q := Agreement) (fun _ => h) fun _ => whenSome_keeps h fun _ _ =>
      ite_keeps (Q := Agreement) (fun _ => ?_) fun _ => h.refresh)
    exact whenSome_keeps h.refresh fun _ _ => h.refresh.only (takeBurst_only _ _)
  case formingDeadline j =>
    exact settled e (whenSome_keeps h fun m hm => expiry_keeps h fun _ => ite_keeps (Q := Agreement) (fun _ => h) fun _ =>
      (h.formingEnds hm).only (serveFreed_only _ _))
  case releaseDeadline j => exact settled e (whenSome_keeps h fun m hm => expiry_keeps h fun _ => h.release hm)
  case agingExpiry u =>
    refine settled e (whenSome_keeps h fun r hr => ite_keeps (Q := Agreement) (fun aged => ?_) fun _ => h)
    refine (h.ageOutUnit ?_).only (serveFreed_only _ _)
    simp only [UnitRec.aged, Bool.and_eq_true, Option.isNone_iff_eq_none] at aged
    simp [State.bindingOf, hr, aged.1]

end Agreement

/-- The two laws of O57 together. -/
def RegisterRight (s : State) : Prop := RegisterLaw s ∧ Agreement s

theorem registerRight_reads : ReadsOnly [.time, .part, .moves, .units] RegisterRight := by
  intro s t agree ⟨register, agreement⟩
  have part : t.part = s.part := agree .part (by simp)
  refine ⟨registerLaw_reads s t (fun f hf => agree f (by simp_all; rcases hf with rfl | rfl <;> simp)) register, ?_⟩
  exact agreement.steady (.of_moves (agree .moves (by simp))) (fun e => part ▸ e) fun _ =>
    State.bindingOf_congr (agree .units (by simp)) _

/-- Settles O57: RegisterLaw by itself, and with it the agreement of members and bindings. -/
theorem everyStepKeepsTheRegister : Obligations.EveryStepKeepsTheRegister := by
  have once (s t : State) (h : RegisterLaw s) (e : step s = .next t) : RegisterLaw t :=
    step_keeps registerLaw_reads (by decide) reset_registerLaw RegisterLaw.commands RegisterLaw.rows h e
  refine ⟨once, fun s t register bindings e => ?_⟩
  have right : RegisterRight t := by
    refine step_keeps registerRight_reads (by decide) ⟨reset_registerLaw, (bindingLaw_iff reset_registerLaw).1 reset_bindingLaw⟩
      (fun link c s h => ⟨h.1.commands link c s, h.2.commands link c s h.1⟩) (fun i touches s t h e => ⟨?_, h.2.rows i touches s t h.1 e⟩)
      ⟨register, (bindingLaw_iff register).1 bindings⟩ e
    by_cases own : rowTouches [.time, .units] i = true
    · exact h.1.rows i own s t e
    · refine h.1.only (rowTouches_only touches e) ?_
      cases i <;> cases touches <;> first | exact absurd rfl own | simp [rowFields]
  exact (bindingLaw_iff right.1).2 right.2

end Sys2Proof.Machine

/-! PROOF. What the operations of a block leave of the queues and of the links: no queue of frames grows above its room, nor does
a notice buffer, and the responses, framers and transmitters are those of the links' own events. -/

namespace Sys2Proof.Machine

set_option Elab.async false

/-- A length that is within a room, or has not grown. -/
def Fits (room new old : Nat) : Prop := new ≤ room ∨ new ≤ old

theorem Fits.refl (room n : Nat) : Fits room n n := .inr le_rfl

theorem Fits.trans {room a b c : Nat} (h : Fits room b a) (k : Fits room c b) : Fits room c a := by
  unfold Fits at *; omega

theorem Fits.le {room new old : Nat} (h : Fits room new old) (k : old ≤ room) : new ≤ room := by
  unfold Fits at h; omega

/-- R181: a link that has been sent notices and latched, and whose framer, responses and transmitter are as they were. -/
structure Link.Told (l l' : Link) : Prop where
  responses : l'.responses = l.responses
  framer : l'.framer = l.framer
  tx : l'.tx = l.tx
  notices : Fits 32 l'.notices.length l.notices.length

theorem Link.Told.refl (l : Link) : l.Told l := ⟨rfl, rfl, rfl, .refl _ _⟩

theorem Link.Told.trans {l k j : Link} (h : l.Told k) (g : k.Told j) : l.Told j :=
  ⟨g.responses.trans h.responses, g.framer.trans h.framer, g.tx.trans h.tx, h.notices.trans g.notices⟩

/-- R181: a delivered notice enters a buffer with room. -/
theorem Link.told_deliver (now : Time) (b : NoticeBody) (l : Link) : l.Told (l.deliver now b) := by
  unfold Link.deliver
  split
  · next room => exact ⟨rfl, rfl, rfl, .inl (by simpa [Config.noticeRoom] using room)⟩
  · exact ⟨rfl, rfl, rfl, .refl _ _⟩

theorem setGate_only (ch : Chan) (g : Option Party) (s : State) : Only [.floors, .ports, .sent] s (setGate ch g s) := by
  unfold setGate
  refine Only.ite _ (.refl _ _) ?_
  cases s.carrier ch with
  | none => exact (modFloor_only _ _ _).mono (by decide)
  | some p => exact ((modFloor_only _ _ _).mono (by decide)).trans ((sendGate_only _ _ _).mono (by decide))

theorem setGenerator_only (ch : Chan) (g : Option Play) (s : State) : Only [.generators] s (setGenerator ch g s) := by
  intro f hf; cases f <;> first | exact rfl | simp at hf

/-- In `t` an operation has placed frames, sent notices and changed the register and the quiet list, each within its room. -/
structure Roomy (s t : State) : Prop where
  frames : ∀ ch, Fits 16 (t.frames ch).length (s.frames ch).length
  links : ∀ c, (s.link c).Told (t.link c)
  units : Fits 96 t.units.length s.units.length
  quiet : Fits 8 t.quiet.length s.quiet.length

namespace Roomy

variable {s t u : State}

theorem refl (s : State) : Roomy s s := ⟨fun _ => .refl _ _, fun _ => .refl _, .refl _ _, .refl _ _⟩

theorem trans (h : Roomy s t) (k : Roomy t u) : Roomy s u :=
  ⟨fun ch => (h.frames ch).trans (k.frames ch), fun c => (h.links c).trans (k.links c), h.units.trans k.units, h.quiet.trans k.quiet⟩

/-- What a part of an event does, after what the parts before it did. -/
theorem comp (k : Roomy t u) (h : Roomy s t) : Roomy s u := h.trans k

theorem of_only {fs : List Field} (k : Only fs s t)
    (apart : ∀ f ∈ [Field.downlink, .links, .units, .quiet], f ∉ fs := by decide) : Roomy s t where
  frames ch := by rw [State.frames_congr (k.downlink (apart _ (by simp)))]; exact .refl _ _
  links c := by rw [State.link_congr (k.links (apart _ (by simp)))]; exact .refl _
  units := by rw [k.units (apart _ (by simp))]; exact .refl _ _
  quiet := by rw [k.quiet (apart _ (by simp))]; exact .refl _ _

theorem through {fs : List Field} (k : Only fs t u) (h : Roomy s t)
    (apart : ∀ f ∈ [Field.downlink, .links, .units, .quiet], f ∉ fs := by decide) : Roomy s u := h.trans (of_only k apart)

/-- An operation that changes links alone, and each only by notices and latches. -/
theorem of_links (k : Only [.links] s t) (links : ∀ c, (s.link c).Told (t.link c)) : Roomy s t where
  frames ch := by rw [State.frames_congr k.downlink]; exact .refl _ _
  links := links
  units := by rw [k.units]; exact .refl _ _
  quiet := by rw [k.quiet]; exact .refl _ _

/-- An operation that changes downlink queues alone. -/
theorem of_downlink (k : Only [.downlink] s t) (frames : ∀ ch, Fits 16 (t.frames ch).length (s.frames ch).length) : Roomy s t where
  frames := frames
  links c := by rw [State.link_congr k.links]; exact .refl _
  units := by rw [k.units]; exact .refl _ _
  quiet := by rw [k.quiet]; exact .refl _ _

/-- An operation that changes the register alone. -/
theorem of_units (k : Only [.units] s t) (units : Fits 96 t.units.length s.units.length) : Roomy s t where
  frames ch := by rw [State.frames_congr k.downlink]; exact .refl _ _
  links c := by rw [State.link_congr k.links]; exact .refl _
  units := units
  quiet := by rw [k.quiet]; exact .refl _ _

theorem ite {c : Prop} [Decidable c] (h : c → Roomy s t) (k : ¬ c → Roomy s u) : Roomy s (if c then t else u) :=
  ite_keeps (Q := Roomy s) h k

theorem iteFun {c : Prop} [Decidable c] {f g : State → State} (h : c → Roomy s (f t)) (k : ¬ c → Roomy s (g t)) :
    Roomy s ((if c then f else g) t) := iteFun_keeps (Q := Roomy s) h k

theorem each {α : Type} {f : α → State → State} (xs : List α) (k : ∀ x t, Roomy t (f x t)) : Roomy s (forEach xs f s) :=
  forEach_keeps (Q := Roomy s) xs (fun x _ t h => h.trans (k x t)) s (refl s)

theorem some {α : Type} {x : Option α} {f : α → State → State} (k : ∀ a, x = some a → Roomy s (f a s)) : Roomy s (whenSome x f s) :=
  whenSome_keeps (Q := Roomy s) (refl s) k

theorem due {d : Option Time} {f : State → State} (k : Roomy s (f s)) : Roomy s (expiry d f s) :=
  expiry_keeps (Q := Roomy s) (refl s) fun _ => k

/-! ## Notices, latches and frames -/

theorem notify (c : Console) (b : NoticeBody) (s : State) : Roomy s (notify c b s) :=
  of_links (notify_only _ _ _) fun x => by
    rw [notify_link]
    split
    · next h => rw [h.1]; exact Link.told_deliver _ _ _
    · exact .refl _

theorem broadcast (b : NoticeBody) (s : State) : Roomy s (broadcast b s) :=
  of_links (broadcast_only _ _) fun x => by
    rw [broadcast_link]
    split
    · exact .refl _
    · split
      · exact Link.told_deliver _ _ _
      · exact .refl _

theorem latchAll (ch : Chan) (k : ChanLatch) (s : State) : Roomy s (latchAll ch k s) :=
  of_links (latchAll_only _ _ _) fun x => by
    rw [latchAll_link]
    split
    · exact ⟨rfl, rfl, rfl, .refl _ _⟩
    · exact .refl _

theorem setLink {c : Console} {l : Link} (k : (s.link c).Told l) : Roomy s (setLink c l s) :=
  of_links (setLink_only _ _ _) fun x => by
    rw [setLink_link]
    split
    · next e => rw [e]; exact k
    · exact .refl _

theorem setFrames {ch : Chan} {q : List Frame} (k : Fits 16 q.length (s.frames ch).length) : Roomy s (setFrames ch q s) :=
  of_downlink (setFrames_only _ _ _) fun c => by
    by_cases e : c = ch
    · subst e; simpa [Machine.setFrames, State.frames] using k
    · simpa [Machine.setFrames, State.frames, e] using Fits.refl _ _

theorem exists_highest {q : List Frame} {n : Nat} (h : n < highestClass q) : ∃ f ∈ q, f.priority = highestClass q := by
  by_contra none
  have low : highestClass q ≤ highestClass q - 1 := (highestClass_le_iff q _).2 fun f hf => by
    have top := (highestClass_le_iff q _).1 le_rfl f hf
    have other : f.priority ≠ highestClass q := fun e => none ⟨f, hf, e⟩
    omega
  omega

/-- R124 to R126: a queue that is within its room stays within it. -/
theorem placeIn_fits (new : Frame) (q : List Frame) : Fits 16 (placeIn new q).length q.length := by
  unfold placeIn
  split
  · simpa using Fits.refl _ _
  · split
    · next room => exact .inl (by simp [Config.downlinkRoom] at room ⊢; omega)
    · split
      · next lower =>
        obtain ⟨f, hf, top⟩ := exists_highest lower
        have shorter := List.length_eraseP_of_mem (p := fun f : Frame => f.priority == highestClass q) (l := q.reverse)
          (by simpa using hf) (by simp [top])
        have := List.length_pos_of_mem hf
        refine .inr ?_
        simp only [eraseLatest, List.length_append, List.length_reverse, List.length_singleton] at shorter ⊢
        omega
      · exact .refl _ _

theorem placeFrame (ch : Chan) (f : Frame) (s : State) : Roomy s (placeFrame ch f s) :=
  ite (fun _ => iteFun (fun _ => comp (latchAll _ _ _) (setFrames (placeIn_fits _ _))) fun _ => setFrames (placeIn_fits _ _))
    fun _ => refl s

theorem orderTo (u : UnitId) (b : FrameBody) (s : State) : Roomy s (orderTo u b s) := placeFrame _ _ _

theorem answer (ch : Chan) (p : Party) (a : TalkAnswer) (s : State) : Roomy s (answer ch p a s) := by
  cases p with
  | unit u => exact placeFrame _ _ _
  | console c => exact notify _ _ _

theorem portTo (p : Port) (st : PortState) (c : PortCause) (g : PortRec → PortRec) (s : State) : Roomy s (portTo p st c g s) :=
  comp (broadcast _ _) (of_only (modPort_only _ _ _))

theorem modFloor (ch : Chan) (g : Floor → Floor) (s : State) : Roomy s (modFloor ch g s) := of_only (modFloor_only _ _ _)

/-! ## The Floor Controller -/

theorem makeRoom (ch : Chan) (cls : TalkClass) (s : State) : Roomy s (makeRoom ch cls s) := by
  unfold Machine.makeRoom
  split
  · exact refl _
  · exact comp (answer _ _ _ _) (modFloor _ _ _)

theorem enterQueue (ch : Chan) (p : Party) (cls : TalkClass) (s : State) : Roomy s (enterQueue ch p cls s) :=
  comp (modFloor _ _ _) (makeRoom _ _ _)

theorem enqueue (ch : Chan) (p : Party) (cls : TalkClass) (s : State) : Roomy s (enqueue ch p cls s) :=
  ite (fun _ => answer _ _ _ _) fun _ => comp (answer _ _ _ _) (enterQueue _ _ _ _)

theorem denyEntry (ch : Chan) (p : Party) (r : AirReason) (s : State) : Roomy s (denyEntry ch p r s) := by
  unfold Machine.denyEntry
  split
  · exact refl _
  · exact comp (answer _ _ _ _) (modFloor _ _ _)

theorem setGate (ch : Chan) (g : Option Party) (s : State) : Roomy s (setGate ch g s) := of_only (setGate_only _ _ _)

theorem startPlay (ch : Chan) (m : PlayMode) (pat : PatternIx) (s : State) : Roomy s (startPlay ch m pat s) :=
  of_only (startPlay_only _ _ _ _)

theorem requestMix (ch : Chan) (pat : PatternIx) (s : State) : Roomy s (requestMix ch pat s) :=
  ite (fun _ => startPlay _ _ _ _) fun _ => refl _

theorem issueGrant (was : Bool) (ch : Chan) (p : Party) (cls : TalkClass) (s : State) : Roomy s (issueGrant was ch p cls s) :=
  comp (modFloor _ _ _) (iteFun (fun _ => comp (requestMix _ _ _) (comp (setGate _ _ _) (comp (answer _ _ _ _) (modFloor _ _ _))))
    fun _ => comp (setGate _ _ _) (comp (answer _ _ _ _) (modFloor _ _ _)))

theorem setGenerator (ch : Chan) (g : Option Play) (s : State) : Roomy s (setGenerator ch g s) := of_only (setGenerator_only _ _ _)

theorem dropGrant (ch : Chan) (r : Option AirReason) (s : State) : Roomy s (dropGrant ch r s) := by
  unfold Machine.dropGrant
  split
  · exact refl _
  · refine comp (setGenerator _ _ _) (comp (modFloor _ _ _) ?_)
    cases r with
    | none => exact refl _
    | some r => exact answer _ _ _ _

theorem closeGate (ch : Chan) (s : State) : Roomy s (closeGate ch s) := ite (fun _ => setGate _ _ _) fun _ => refl _

theorem endGrant (ch : Chan) (r : Option AirReason) (next : FloorState) (s : State) : Roomy s (endGrant ch r next s) :=
  ite (fun _ => comp (modFloor _ _ _) (dropGrant _ _ _)) fun _ => refl _

theorem startSeize (ch : Chan) (s : State) : Roomy s (startSeize ch s) := by
  unfold Machine.startSeize
  split
  · exact refl _
  · exact comp (startPlay _ _ _ _) (comp (setGenerator _ _ _) (comp (setGate _ _ _) (modFloor _ _ _)))

theorem serviceDecision (ch : Chan) (s : State) : Roomy s (serviceDecision ch s) := by
  refine ite (fun _ => ite (fun _ => ?_) fun _ => startSeize _ _) fun _ => refl _
  split
  · exact refl _
  · exact issueGrant _ _ _ _ _

theorem endGrantIdle (ch : Chan) (r : Option AirReason) (s : State) : Roomy s (endGrantIdle ch r s) :=
  ite (fun _ => comp (closeGate _ _) (comp (serviceDecision _ _) (endGrant _ _ _ _))) fun _ => refl _

theorem endHang (ch : Chan) (s : State) : Roomy s (endHang ch s) := ite (fun _ => modFloor _ _ _) fun _ => refl _

theorem serveFreed (before s : State) : Roomy s (serveFreed before s) :=
  each _ fun ch t => by
    have decided : Roomy t (if (before.floor ch).state ≠ .idle then Machine.serviceDecision ch t else t) :=
      ite (fun _ => serviceDecision _ _) fun _ => refl _
    exact iteFun (fun _ => comp (closeGate _ _) decided) fun _ => decided

theorem stopSeize (ch : Chan) (s : State) : Roomy s (stopSeize ch s) := comp (setGenerator _ _ _) (modFloor _ _ _)

theorem preempt (ch : Chan) (p : Party) (s : State) : Roomy s (preempt ch p s) := by
  refine comp (issueGrant _ _ _ _ _) ?_
  split
  · exact dropGrant _ _ _
  · exact stopSeize _ _
  · exact refl _

theorem renewEntry (ch : Chan) (p : Party) (cls : TalkClass) (s : State) : Roomy s (renewEntry ch p cls s) := modFloor _ _ _

theorem requestInIdle (ch : Chan) (p : Party) (cls : TalkClass) (s : State) : Roomy s (requestInIdle ch p cls s) := by
  refine ite (fun _ => answer _ _ _ _) fun _ => ?_
  have decided := comp (serviceDecision ch _) (enterQueue ch p cls s)
  exact ite (fun _ => comp (answer _ _ _ _) decided) fun _ => decided

theorem talkOutcome (ch : Chan) (p : Party) (cls : TalkClass) (s : State) : Roomy s (talkOutcome ch p cls s) := by
  refine ite (fun _ => refl _) fun _ => ?_
  split
  · exact comp (answer _ _ _ _) (renewEntry _ _ _ _)
  · split
    · exact requestInIdle _ _ _ _
    · exact ite (fun _ => issueGrant _ _ _ _ _) fun _ => enqueue _ _ _ _
    iterate 2 exact enqueue _ _ _ _
    iterate 3 exact refl _

theorem emergencyOutcome (ch : Chan) (p : Party) (s : State) : Roomy s (emergencyOutcome ch p s) := by
  unfold Machine.emergencyOutcome
  have raised : Roomy s (raiseGrant ch p s) := comp (requestMix _ _ _) (comp (answer _ _ _ _) (modFloor _ _ _))
  split
  iterate 3 exact refl _
  all_goals
    refine ite (fun _ => ite (fun _ => refl _) fun _ => raised) fun _ => ite (fun _ => comp (preempt _ _ _) (renewEntry _ _ _ _))
      fun _ => ?_
    split
    · exact comp (answer _ _ _ _) (renewEntry _ _ _ _)
    · exact enqueue _ _ _ _

theorem endTalk (ch : Chan) (s : State) : Roomy s (endTalk ch s) := by
  unfold Machine.endTalk
  split
  · exact refl _
  · exact ite (fun _ => comp (closeGate _ _) (comp (modFloor _ _ _) (endGrant _ _ _ _))) fun _ => endGrantIdle _ _ _

theorem talkEndBy (ch : Chan) (p : Party) (s : State) : Roomy s (talkEndBy ch p s) :=
  ite (fun _ => endTalk _ _) fun _ => modFloor _ _ _

theorem cancelClaim (ch : Chan) (r : AirReason) (p : Party) (s : State) : Roomy s (cancelClaim ch r p s) :=
  ite (fun _ => endGrant _ _ _ _) fun _ => denyEntry _ _ _ _

theorem endHangsFor (r : Reservation) (chs : List Chan) (s : State) : Roomy s (endHangsFor r chs s) :=
  each _ fun _ _ => ite (fun _ => endHang _ _) fun _ => refl _

theorem preemptAlert (ch : Chan) (s : State) : Roomy s (preemptAlert ch s) := by
  unfold Machine.preemptAlert
  split
  · exact serviceDecision _ _
  · exact ite (fun _ => refl _) fun _ => comp (startSeize _ _) (endGrant _ _ _ _)
  · exact startSeize _ _
  all_goals exact refl _

theorem displaceAlert (ch : Chan) (s : State) : Roomy s (displaceAlert ch s) := by
  refine ite (fun _ => refl _) fun _ => ?_
  split
  · exact refl _
  · next a _ =>
    cases a.requester with
    | console c => exact comp (notify _ _ _) (modFloor _ _ _)
    | supervision => exact modFloor _ _ _

theorem requestAlert (ch : Chan) (a : Alert) (s : State) : Roomy s (requestAlert ch a s) :=
  ite (fun _ => iteFun (fun _ => comp (preemptAlert _ _) (comp (modFloor _ _ _) (displaceAlert _ _)))
    fun _ => comp (serviceDecision _ _) (comp (modFloor _ _ _) (displaceAlert _ _))) fun _ => refl _

theorem discardAlerts (ch : Chan) (i : MoveIx) (s : State) : Roomy s (discardAlerts ch i s) := modFloor _ _ _

theorem stepEnds (ch : Chan) (g : Play) (s : State) : Roomy s (stepEnds ch g s) := by
  unfold Machine.stepEnds
  split
  · exact setGenerator _ _ _
  · split
    · exact setGenerator _ _ _
    · exact comp (serviceDecision _ _) (comp (modFloor _ _ _) (setGenerator _ _ _))

theorem leaveTransfer (ch : Chan) (s : State) : Roomy s (leaveTransfer ch s) := by
  refine ite (fun _ => ?_) fun _ => refl _
  have left := modFloor ch (fun f => ({ f with state := f.held.getD .idle, held := none } : Floor).retest f.isForeign s.time) s
  dsimp only
  split
  · exact comp (serviceDecision _ _) left
  iterate 2 exact ite (fun _ => comp (preemptAlert _ _) left) fun _ => left
  all_goals exact left

theorem tellLost (ch : Chan) (f : Floor) (s : State) : Roomy s (tellLost ch f s) := by
  refine comp (each _ fun e t => ?_) ?_
  · split
    · exact notify _ _ _
    · exact refl _
  · split
    · exact notify _ _ _
    · exact refl _

theorem closeFloor (ch : Chan) (s : State) : Roomy s (closeFloor ch s) := by
  have closed := comp (setGate ch none _) (comp (modFloor ch (fun f => { f with
    state := .closed, held := none, grant := none, queue := [], hang := none, heard := none, foreignSince := none
    episodeOpen := false, quiet := none }) _) (comp (stopSeize ch _) (tellLost ch (s.floor ch) s)))
  exact iteFun (fun _ => comp (broadcast _ _) closed) fun _ => closed

end Roomy

end Sys2Proof.Machine

/-! PROOF. What the other blocks leave of the queues and of the links: the Move Table and the Supervision Monitor, the Port Manager and
the Path Tester, the Enrolment Unit and the Unit Register, and the part as a whole. -/

namespace Sys2Proof.Machine

set_option Elab.async false

namespace Roomy

variable {s t u : State}

/-! ## The Unit Register -/

theorem modUnit (u : UnitId) (g : UnitRec → UnitRec) (s : State) : Roomy s (modUnit u g s) :=
  of_units (modUnit_only _ _ _) (by simpa [Machine.modUnit] using Fits.refl _ _)

theorem removeRecord (keep : Bool) (u : UnitId) (s : State) : Roomy s (removeRecord keep u s) := by
  unfold Machine.removeRecord
  have cancelled := comp (endHangsFor (.party (.unit u)) allChans _)
    (each allChans (s := s) fun ch => cancelClaim ch .unregistered (.unit u))
  generalize Machine.endHangsFor _ _ _ = t at cancelled ⊢
  cases keep with
  | true => exact cancelled
  | false => exact { cancelled with units := cancelled.units.trans (.inr (List.length_filter_le _ _)) }

theorem ageOutUnit (u : UnitId) (s : State) : Roomy s (ageOutUnit u s) := by
  unfold Machine.ageOutUnit
  split
  · exact refl _
  · exact comp (broadcast _ _) (removeRecord _ _ _)

theorem ageOutAll (s : State) : Roomy s (ageOutAll s) := each _ fun _ _ => ageOutUnit _ _

/-! ## The Supervision Monitor -/

theorem setMove (i : MoveIx) (m : Option Move) (s : State) : Roomy s (setMove i m s) := of_only (setMove_only _ _ _)

theorem modMove (i : MoveIx) (g : Move → Move) (s : State) : Roomy s (modMove i g s) := of_only (modMove_only _ _ _)

theorem cancelHandover (i : MoveIx) (c : HandoverCause) (s : State) : Roomy s (cancelHandover i c s) := by
  unfold Machine.cancelHandover
  split
  · exact refl _
  · split
    · exact refl _
    · exact comp (notify _ _ _) (setMove _ _ _)

theorem reportUndeliverable (i : MoveIx) (m : Move) (s : State) : Roomy s (reportUndeliverable i m s) :=
  ite (fun _ => notify _ _ _) fun _ => refl _

theorem raiseFault (i : MoveIx) (k : FaultKind) (s : State) : Roomy s (raiseFault i k s) := by
  unfold Machine.raiseFault
  split
  · exact refl _
  · exact comp (reportUndeliverable _ _ _) (comp (notify _ _ _) (comp (cancelHandover _ _ _) (comp (requestAlert _ _ _)
      (comp (orderTo _ _ _) (setMove _ _ _)))))

theorem crewStop (i : MoveIx) (s : State) : Roomy s (crewStop i s) := by
  unfold Machine.crewStop
  split
  · exact refl _
  · refine ite (fun _ => ?_) fun _ => refl _
    split
    iterate 4 exact raiseFault _ _ _
    all_goals exact refl _

theorem startOffers (i : MoveIx) (s : State) : Roomy s (startOffers i s) := by
  unfold Machine.startOffers
  split
  · exact refl _
  · next m _ =>
    cases m.controller with
    | none => exact setMove _ _ _
    | some c => exact comp (orderTo _ _ _) (setMove _ _ _)

theorem endHold (i : MoveIx) (s : State) : Roomy s (endHold i s) := by
  unfold Machine.endHold
  split
  · exact refl _
  · exact ite (fun _ => comp (notify _ _ _) (setMove _ _ _))
      fun _ => comp (notify _ _ _) (comp (startOffers _ _) (setMove _ _ _))

theorem assignControl (i : MoveIx) (m : Move) (former new : UnitId) (s : State) : Roomy s (assignControl i m former new s) :=
  each _ fun _ _ => orderTo _ _ _

theorem tellClosure (ch : Chan) (s : State) : Roomy s (tellClosure ch s) :=
  each _ fun _ t => by
    split
    · exact refl _
    · exact ite (fun _ => notify _ _ _) fun _ => refl _

/-! ## The Move Table -/

theorem orderJoins (i : MoveIx) (ch : Chan) (us : List UnitId) (s : State) : Roomy s (orderJoins i ch us s) :=
  each _ fun _ _ => orderTo _ _ _

theorem cancelClaims (ch : Chan) (r : AirReason) (u : UnitId) (s : State) : Roomy s (cancelClaims ch r u s) :=
  comp (cancelClaim _ _ _ _) (cancelClaim _ _ _ _)

theorem freeMove (leaves : Member → Bool) (i : MoveIx) (m : Move) (s : State) : Roomy s (freeMove leaves i m s) :=
  comp (setMove _ _ _) (comp (each _ fun _ _ => modUnit _ _ _) (comp (each _ fun _ _ => orderTo _ _ _)
    (comp (endHangsFor _ _ _) (comp (each _ fun _ _ => cancelClaims _ _ _ _) (discardAlerts _ _ _)))))

theorem removeHandset (leave : Bool) (i : MoveIx) (u : UnitId) (s : State) : Roomy s (removeHandset leave i u s) := by
  unfold Machine.removeHandset
  split
  · exact refl _
  · refine comp (modUnit _ _ _) (comp (modMove _ _ _) (comp (iteFun (fun _ => orderTo _ _ _) fun _ => refl _)
      (comp (iteFun (fun _ => cancelHandover _ _ _) fun _ => refl _) (cancelClaims _ _ _ _))))

theorem createMove (link : Console) (i : MoveIx) (ch : Chan) (f : MoveFields) (s : State) : Roomy s (createMove link i ch f s) :=
  comp (orderJoins _ _ _ _) (comp (each _ fun _ _ => modUnit _ _ _) (setMove _ _ _))

theorem addMember (i : MoveIx) (m : Move) (u : UnitId) (s : State) : Roomy s (addMember i m u s) :=
  comp (orderTo _ _ _) (comp (modUnit _ _ _) (setMove _ _ _))

theorem setController (i : MoveIx) (m : Move) (former new : UnitId) (s : State) : Roomy s (setController i m former new s) := by
  unfold Machine.setController
  have assigned := comp (assignControl i m former new _) (comp (cancelHandover i .controllerSet _)
    (setMove i (Option.some { m with controller := Option.some new }) s))
  generalize Machine.assignControl i m former new _ = t at assigned ⊢
  cases m.state with
  | active => exact comp (modMove _ _ _) assigned
  | recovery => exact comp (startOffers _ _) assigned
  | forming | stopHeld | suspended | releasing => exact assigned

theorem moveToChannel (i : MoveIx) (m : Move) (ch : Chan) (s : State) : Roomy s (moveToChannel i m ch s) :=
  comp (orderJoins _ _ _ _) (comp (modMove _ _ _) (comp (cancelHandover _ _ _) (comp (discardAlerts _ _ _)
    (comp (endHangsFor _ _ _) (each _ fun _ _ => cancelClaim _ _ _ _)))))

theorem release (n : NoticeBody) (i : MoveIx) (m : Move) (s : State) : Roomy s (release n i m s) :=
  comp (serveFreed _ _) (comp (notify _ _ _) (freeMove _ _ _ _))

theorem enterReleasing (i : MoveIx) (m : Move) (s : State) : Roomy s (enterReleasing i m s) :=
  comp (reportUndeliverable _ _ _) (comp (orderTo _ _ _) (comp (modMove _ _ _) (comp (cancelHandover _ _ _) (setMove _ _ _))))

theorem lastJoined (i : MoveIx) (s : State) : Roomy s (lastJoined i s) := by
  unfold Machine.lastJoined
  split
  · exact refl _
  · exact ite (fun _ => ite (fun _ => comp (notify _ _ _) (setMove _ _ _)) fun _ => setMove _ _ _) fun _ => refl _

theorem comeTo (ch : Chan) (u : UnitId) (s : State) : Roomy s (comeTo ch u s) :=
  ite (fun _ => refl _) fun _ => comp (modUnit _ _ _) (cancelClaim _ _ _ _)

theorem joinedBy (u : UnitId) (move ch : Byte) (s : State) : Roomy s (joinedBy u move ch s) :=
  some fun _ _ => some fun _ _ => some fun _ _ => ite
    (fun _ => comp (serveFreed _ _) (comp (lastJoined _ _) (comp (comeTo _ _ _) (setMove _ _ _)))) fun _ => refl _

theorem repeatJoin (i : MoveIx) (u : UnitId) (s : State) : Roomy s (repeatJoin i u s) :=
  some fun _ _ => some fun _ _ => ite (fun _ => comp (orderTo _ _ _) (setMove _ _ _)) fun _ => refl _

theorem formingEnds (i : MoveIx) (m : Move) (s : State) : Roomy s (formingEnds i m s) :=
  ite (fun _ => comp (notify _ _ _) (freeMove _ _ _ _))
    fun _ => comp (notify _ _ _) (comp (modMove _ _ _) (each _ fun _ _ => removeHandset _ _ _ _))

/-! ## Supervision frames -/

theorem ofMove {src : UnitId} {f : MoveIx → Move → State → State} (k : ∀ i m t, Roomy t (f i m t)) : Roomy s (forMove src f s) :=
  forMove_keeps (Q := Roomy s) (refl _) fun i m _ _ _ => k i m s

theorem presenceBy (src : UnitId) (s : State) : Roomy s (presenceBy src s) :=
  ofMove fun i m t => ite (fun _ => by
    cases m.state with
    | active => exact ite (fun _ => raiseFault _ _ _) fun _ => setMove _ _ _
    | stopHeld => exact setMove _ _ _
    | forming | recovery | suspended | releasing => exact refl _) fun _ => refl _

theorem confirmStop (i : MoveIx) (m : Move) (s : State) : Roomy s (confirmStop i m s) :=
  ite (fun _ => refl _) fun _ => iteFun (fun _ => comp (endHold _ _) (setMove _ _ _)) fun _ => setMove _ _ _

theorem stopAckBy (src : UnitId) (s : State) : Roomy s (stopAckBy src s) :=
  ofMove fun i m t => ite (fun _ => by
    cases m.state with
    | stopHeld => exact confirmStop _ _ _
    | releasing => exact release _ _ _ _
    | forming | active | recovery | suspended => exact refl _) fun _ => refl _

theorem resumeBy (src : UnitId) (s : State) : Roomy s (resumeBy src s) :=
  ofMove fun _ _ _ => ite (fun _ => comp (notify _ _ _) (setMove _ _ _)) fun _ => refl _

theorem offerBy (src target : UnitId) (s : State) : Roomy s (offerBy src target s) :=
  ofMove fun _ _ _ => ite (fun _ => comp (orderTo _ _ _) (setMove _ _ _)) fun _ => refl _

theorem takeBy (src : UnitId) (s : State) : Roomy s (takeBy src s) :=
  ofMove fun _ _ _ => ite (fun _ => comp (notify _ _ _) (comp (assignControl _ _ _ _ _) (setMove _ _ _))) fun _ => refl _

theorem emergencyBy (ch : Chan) (src : UnitId) (s : State) : Roomy s (emergencyBy ch src s) := by
  unfold Machine.emergencyBy
  have asked : Roomy s (if s.currentOf src ≠ ch then Machine.answer ch (.unit src) (.denied .emergency .wrongChannel) s
      else Machine.emergencyOutcome ch (.unit src) s) := ite (fun _ => answer _ _ _ _) fun _ => emergencyOutcome _ _ _
  cases s.moveOf src with
  | none => exact asked
  | some im => exact comp (crewStop _ _) asked

theorem talkReqBy (ch : Chan) (src : UnitId) (cls : Byte) (s : State) : Roomy s (talkReqBy ch src cls s) := by
  unfold Machine.talkReqBy
  split
  iterate 2 exact refl _
  exact ite (fun _ => answer _ _ _ _) fun _ => ite (fun _ => answer _ _ _ _) fun _ => talkOutcome _ _ _ _

theorem consoleRequest (link : Console) (ch : Chan) (cls : TalkClass) (s : State) : Roomy s (consoleRequest link ch cls s) := by
  cases cls with
  | emergency => exact emergencyOutcome _ _ _
  | routine | work | urgent => exact ite (fun _ => answer _ _ _ _) fun _ => talkOutcome _ _ _ _

/-! ## The Path Tester and the Port Manager -/

theorem setTest (p : Port) (x : Option TestRec) (s : State) : Roomy s (setTest p x s) := of_only (setTest_only _ _ _)

theorem send (p : Port) (m : PortMsg) (s : State) : Roomy s (send p m s) := of_only (send_only _ _ _)

theorem modPort (p : Port) (g : PortRec → PortRec) (s : State) : Roomy s (modPort p g s) := of_only (modPort_only _ _ _)

theorem echoOff (p : Port) (x : TestRec) (s : State) : Roomy s (echoOff p x s) := by
  unfold Machine.echoOff
  split
  · exact placeFrame _ _ _
  · exact refl _

theorem abortTest (p : Port) (r : AbortReason) (s : State) : Roomy s (abortTest p r s) :=
  some fun _ _ => comp (broadcast _ _) (comp (echoOff _ _ _) (setTest _ _ _))

theorem tuneTo (p : Port) (ch : Chan) (u : TunePurpose) (s : State) : Roomy s (tuneTo p ch u s) :=
  comp (send _ _ _) (portTo _ _ _ _ _)

theorem reportTransfer (ch : Chan) (lost tuning : Option Port) (s : State) : Roomy s (reportTransfer ch lost tuning s) :=
  comp (broadcast _ _) (latchAll _ _ _)

theorem closeChannel (ch : Chan) (s : State) : Roomy s (closeChannel ch s) :=
  comp (broadcast _ _) (comp (latchAll _ _ _) (comp (tellClosure _ _) (comp (setFrames (.inl (Nat.zero_le _))) (closeFloor _ _))))

theorem openTransfer (ch : Chan) (s : State) : Roomy s (openTransfer ch s) := modFloor _ _ _

theorem enterTransfer (ch : Chan) (s : State) : Roomy s (enterTransfer ch s) := modFloor _ _ _

theorem takeUpClosed (p : Port) (s : State) : Roomy s (takeUpClosed p s) :=
  ite (fun _ => some fun _ _ => comp (reportTransfer _ _ _ _) (comp (openTransfer _ _) (tuneTo _ _ _ _))) fun _ => refl _

theorem spareSearch {enter : Port → State → State} {closing : State → State} {ch : Chan} (k : ∀ q t, Roomy t (enter q t))
    (closes : Roomy s (closing s)) : Roomy s (spareSearch enter closing ch s) := by
  unfold Machine.spareSearch
  split
  · exact closes
  · exact comp (tuneTo _ _ _ _) (comp (k _ _) (abortTest _ _ _))

theorem loseCarrier (lost : Port) (ch : Chan) (s : State) : Roomy s (loseCarrier lost ch s) := by
  unfold Machine.loseCarrier
  split
  · exact comp (broadcast _ _) (comp (modPort _ _ _) (comp (reportTransfer _ _ _ _) (enterTransfer _ _)))
  · exact spareSearch (fun _ _ => comp (reportTransfer _ _ _ _) (enterTransfer _ _)) (closeChannel _ _)

theorem shutPort (p : Port) (s : State) : Roomy s (shutPort p s) := of_only (shutPort_only _ _)

theorem servePort (p : Port) (ch : Chan) (s : State) : Roomy s (servePort p ch s) := of_only (servePort_only _ _ _)

theorem portLost (p : Port) (r : PortRec) (c : SwapCause) {shut : State → State} (k : ∀ t, Roomy t (shut t)) (s : State) :
    Roomy s (portLost p r c shut s) := by
  unfold Machine.portLost
  split
  · exact some fun _ _ => comp (loseCarrier _ _ _) (k _)
  · exact some fun _ _ => ite (fun _ => broadcast _ _) fun _ => spareSearch (fun _ _ => refl _) (closeChannel _ _)
  · exact abortTest _ _ _
  all_goals exact refl _

theorem failPort (p : Port) (c : FailCause) (s : State) : Roomy s (failPort p c s) :=
  comp (portLost _ _ _ (shutPort p) _) (portTo _ _ _ _ _)

theorem isolate (p : Port) (s : State) : Roomy s (isolate p s) := comp (portLost _ _ _ refl _) (portTo _ _ _ _ _)

theorem stillHealthy (p : Port) (old : Option Health) (h : Health) (s : State) : Roomy s (stillHealthy p old h s) := by
  unfold Machine.stillHealthy
  have reported : Roomy s (if statusChanged old h then Machine.broadcast (.portHealth p h) s else s) :=
    ite (fun _ => broadcast _ _) fun _ => refl _
  generalize (if statusChanged old h then Machine.broadcast (.portHealth p h) s else s) = t at reported ⊢
  cases h with
  | degraded =>
    cases (s.port p).channel with
    | none => cases (s.port p).state <;> exact reported
    | some ch => cases (s.port p).state <;> first | exact reported | exact comp (latchAll _ _ _) reported
  | ok | fault => cases (s.port p).state <;> cases (s.port p).channel <;> exact reported

theorem healthy (p : Port) (old : Option Health) (h : Health) (s : State) : Roomy s (healthy p old h s) := by
  unfold Machine.healthy
  split
  · exact comp (takeUpClosed _ _) (portTo _ _ _ _ _)
  · exact modPort _ _ _
  iterate 4 exact stillHealthy _ _ _ _
  exact refl _

theorem takeHealth (p : Port) (h : Health) (s : State) : Roomy s (takeHealth p h s) := by
  cases h with
  | ok | degraded => exact comp (healthy _ _ _ _) (modPort _ _ _)
  | fault => exact comp (ite (fun _ => modPort _ _ _) fun _ => failPort _ _ _) (modPort _ _ _)

theorem silence (p : Port) (s : State) : Roomy s (silence p s) := by
  unfold Machine.silence
  split
  iterate 4 exact failPort _ _ _
  · exact modPort _ _ _
  all_goals exact refl _

theorem restored (p : Port) (s : State) : Roomy s (restored p s) :=
  ite (fun _ => comp (takeUpClosed _ _) (portTo _ _ _ _ _)) fun _ => refl _

theorem becomeCarrier (p : Port) (ch : Chan) (s : State) : Roomy s (becomeCarrier p ch s) :=
  comp (servePort _ _ _) (portTo _ _ _ _ _)

theorem tuned (p : Port) (ch : Chan) (u : TunePurpose) (s : State) : Roomy s (tuned p ch u s) := by
  have carried (t : State) : Roomy t (Machine.broadcast (.channelRestored ch p) (Machine.leaveTransfer ch (Machine.becomeCarrier p ch t))) :=
    comp (broadcast _ _) (comp (leaveTransfer _ _) (becomeCarrier _ _ _))
  cases u with
  | start | transfer => exact carried s
  | swap =>
    exact some fun _ _ => comp (takeUpClosed _ _) (comp (broadcast _ _) (comp (latchAll _ _ _) (comp (modFloor _ _ _)
      (comp (shutPort _ _) (comp (portTo _ _ _ _ _) (becomeCarrier _ _ _))))))

theorem echoOn (p : Port) (x : TestRec) (s : State) : Roomy s (echoOn p x s) := by
  unfold Machine.echoOn
  split
  · exact placeFrame _ _ _
  · exact refl _

theorem startTest (p : Port) (x : TestRec) (s : State) : Roomy s (startTest p x s) := by
  have sequenced : Roomy s { s with sequences := s.sequences.put p x.seq } := of_only (fs := [.sequences]) (by
    intro f hf; cases f <;> first | exact rfl | simp at hf)
  exact comp (echoOn _ _ _) (comp (of_only (testOrder_only _ _ _)) (comp (portTo _ _ _ _ _) (comp (setTest _ _ _) sequenced)))

theorem endTest (p : Port) (x : TestRec) (s : State) : Roomy s (endTest p x s) := by
  unfold Machine.endTest
  have finished := comp (echoOff p x _) (setTest p (Option.some (x.finished s.time .done none)) s)
  generalize Machine.echoOff p x _ = t at finished ⊢
  cases x.mode with
  | loc => exact comp (takeUpClosed _ _) (comp (broadcast _ _) (comp (portTo _ _ _ _ _) finished))
  | unit | remote => exact comp (takeUpClosed _ _) (comp (broadcast _ _) (comp (portTo _ _ _ _ _) (comp (send _ _ _) finished)))

/-! ## The Enrolment Unit -/

theorem setSlot (i : SlotIx) (x : Option Slot) (s : State) : Roomy s (setSlot i x s) := of_only (setSlot_only _ _ _)

theorem withdraw (u : UnitId) (s : State) : Roomy s (withdraw u s) := setFrames (.inr (List.length_filter_le _ _))

/-- R111: the quiet list keeps its room. -/
theorem enterQuiet_fits (now : Time) (u : UnitId) (qs : List Quiet) : Fits 8 (enterQuiet now u qs).length qs.length := by
  unfold enterQuiet
  split
  · exact .inr (by simp)
  · split
    · next room => exact .inl (by simp [Config.quietRoom] at room ⊢; omega)
    · next full =>
      have nonempty : qs.map (·.expiry) ≠ [] := by
        rintro e
        simp [List.map_eq_nil_iff.1 e, Config.quietRoom] at full
      have inside := earliestIndex_lt (now := now) (span := 1500) nonempty
      refine .inr ?_
      simp only [List.length_append, List.length_eraseIdx, List.length_map, List.length_singleton] at inside ⊢
      rw [if_pos inside]
      omega

theorem freeSlot (i : SlotIx) (sl : Slot) (c : EnrolCause) (r : Option AirReason) (s : State) : Roomy s (freeSlot i sl c r s) := by
  have quieted (t : State) : Roomy t { t with quiet := enterQuiet t.time sl.unit t.quiet } :=
    { refl t with quiet := enterQuiet_fits _ _ _ }
  exact comp (setSlot _ _ _) (comp (iteFun (fun _ => broadcast _ _) fun _ => refl _)
    (comp (iteFun (fun _ => quieted _) fun _ => refl _) (comp (some fun _ _ => placeFrame _ _ _) (withdraw _ _))))

theorem burstInSlot (i : SlotIx) (sl : Slot) (w : Capability) (s : State) : Roomy s (burstInSlot i sl w s) := by
  unfold Machine.burstInSlot
  split
  · refine ite (fun _ => ite (fun _ => ?_) fun _ => setSlot _ _ _) fun _ => setSlot _ _ _
    unfold Machine.resolve
    split
    · exact freeSlot _ _ _ _ _
    · exact comp (placeFrame _ _ _) (setSlot _ _ _)
  · exact ite (fun _ => ite (fun _ => ite (fun _ => comp (placeFrame _ _ _) (setSlot _ _ _)) fun _ => setSlot _ _ _)
      fun _ => setSlot _ _ _) fun _ => comp (setSlot _ _ _) (withdraw _ _)
  · exact setSlot _ _ _

theorem takeBurst (w : Capability) (s : State) : Roomy s (takeBurst w s) := by
  refine ite (fun _ => refl _) fun _ => ite (fun _ => ?_) fun _ => ?_
  · split
    · exact freeSlot _ _ _ _ _
    · exact placeFrame _ _ _
  · split
    · exact burstInSlot _ _ _ _
    · exact some fun _ _ => setSlot _ _ _

theorem reportAdmitted (i : SlotIx) (sl : Slot) (b : Bool) (s : State) : Roomy s (reportAdmitted i sl b s) :=
  comp (broadcast _ _) (freeSlot _ _ _ _ _)

/-- A record is written where there is room for it. -/
theorem addRecord (i : SlotIx) (sl : Slot) (room : t.units.length < 96 ∨ t.units.length < s.units.length) (h : Roomy s t) :
    Roomy s (addRecord i sl t) :=
  comp (reportAdmitted _ _ _ _)
    { frames := h.frames, links := h.links, quiet := h.quiet
      units := by
        simp only [List.length_append, List.length_singleton]
        exact room.imp id id }

theorem removeRecord_shorter {old : UnitRec} (mem : old ∈ s.units) : (Machine.removeRecord false old.unit s).units.length < s.units.length := by
  rw [removeRecord_units]
  exact List.length_filter_lt_length_iff_exists.2 ⟨old, mem, by simp⟩

theorem admitUnit (i : SlotIx) (sl : Slot) (s : State) : Roomy s (admitUnit i sl s) := by
  refine comp (serveFreed _ _) ?_
  split
  · exact ite (fun _ => freeSlot _ _ _ _ _) fun _ => comp (reportAdmitted _ _ _ _) (comp (modUnit _ _ _) (removeRecord _ _ _))
  · refine ite (fun room => addRecord _ _ (.inl room) (refl _)) fun _ => ?_
    split
    · next old e =>
      refine addRecord _ _ (.inr ?_) (comp (broadcast _ _) (removeRecord _ _ _))
      rw [(broadcast_only _ _).units]
      exact removeRecord_shorter (Agreement.evicted_unbound e).1
    · exact freeSlot _ _ _ _ _

theorem withoutHead_length (q : List Frame) : (withoutHead q).length ≤ q.length := by
  unfold withoutHead
  split
  · exact le_rfl
  · exact List.length_eraseP_le

theorem handHead (p : Port) (ch : Chan) (s : State) : Roomy s (handHead p ch s) :=
  some fun f hf => by
    have taken : Roomy s (Machine.send p (.air f) (Machine.setFrames ch (withoutHead (s.frames ch)) s)) :=
      comp (send _ _ _) (setFrames (.inr (withoutHead_length _)))
    exact comp (ite (fun _ => some fun _ _ => ite (fun _ => admitUnit _ _ _) fun _ => refl _) fun _ => refl _) taken

end Roomy

end Sys2Proof.Machine

/-! PROOF. The room of the queues and of the console links (O53): what a command and a row leave (`Roomy`), what the link's own events
do, and what the transmitters take at the end of an event. -/

namespace Sys2Proof.Machine

set_option Elab.async false

namespace Roomy

variable {s t u : State}

/-! ## The part as a whole -/

theorem placeChannels (s : State) : Roomy s (placeChannels s) :=
  comp (each _ fun _ _ => spareSearch (fun _ _ => comp (reportTransfer _ _ _ _) (openTransfer _ _))
      (comp (closeChannel _ _) (comp (reportTransfer _ _ _ _) (openTransfer _ _))))
    (comp (each _ fun _ _ => comp (reportTransfer _ _ _ _) (comp (openTransfer _ _) (comp (tuneTo _ _ _ _) (modPort _ _ _))))
      (comp (each _ fun _ _ => comp (modFloor _ _ _) (comp (servePort _ _ _) (comp (send _ _ _) (portTo _ _ _ _ _))))
        (each _ fun _ _ => abortTest _ _ _)))

theorem enterService (s : State) : Roomy s (enterService s) :=
  comp (placeChannels _) (of_only (fs := [.part]) (by intro f hf; cases f <;> first | exact rfl | simp at hf))

theorem restartPort (p : Port) (s : State) : Roomy s (restartPort p s) := by
  unfold Machine.restartPort
  split
  · exact comp (shutPort _ _) (portTo _ _ _ _ _)
  iterate 2 exact portTo _ _ _ _ _
  all_goals exact refl _

theorem clearAll (s : State) : Roomy s (clearAll s) where
  frames ch := .inl (by simp [Machine.clearAll, State.frames])
  links c := by
    rw [show (Machine.clearAll s).link c = (s.link c).restarted from Tab.get_each _ _ _]
    exact ⟨rfl, rfl, rfl, .inl (Nat.zero_le _)⟩
  units := .inl (Nat.zero_le _)
  quiet := .inl (Nat.zero_le _)

theorem restart (s : State) : Roomy s (restart s) := by
  have ports : Roomy s (forEach allPorts Machine.restartPort (Machine.clearAll s)) := comp (each _ restartPort) (clearAll s)
  unfold Machine.restart
  generalize forEach allPorts Machine.restartPort (Machine.clearAll s) = t at ports ⊢
  exact comp (of_only (fs := [.tests]) (by intro f hf; cases f <;> first | exact rfl | simp at hf)) ports

theorem setGlobals (f : GlobalFields) (s : State) : Roomy s (setGlobals f s) := by
  have applied : Roomy s { s with globals := s.globals.withFields f } :=
    of_only (fs := [.globals]) (by intro g hg; cases g <;> first | exact rfl | simp at hg)
  exact iteFun (fun _ => comp (serveFreed _ _) (comp (ageOutAll _) applied)) fun _ => applied

/-! ## The commands -/

theorem modLink {c : Console} {g : Link → Link} (k : ∀ l : Link, l.Told (g l)) : Roomy s (modLink c g s) := setLink (k _)

theorem accepted {b : Bool} {x : Result} {f : State → State} (k : Roomy s (f s)) : Roomy s (accept b x f s).2 := k

/-- R178, R180: no command touches a queue of responses, a framer or a transmitter. -/
theorem command (link : Console) (c : Command) (s : State) : Roomy s (runCommand link c s).2 := by
  have apart (far : ∀ f ∈ [Field.downlink, .links, .units, .quiet], f ∉ commandFields c) : Roomy s (runCommand link c s).2 :=
    of_only (runCommand_only link c s) far
  have same : Roomy s s := refl s
  cases c with
  | setGlobal f =>
    exact look_keeps (check_keeps same fun _ => check_keeps same fun _ => check_keeps same fun _ => setGlobals _ _)
  | enterService =>
    refine look_keeps (check_keeps same fun _ => ?_)
    cases planFault s with
    | some x => exact same
    | none => exact enterService s
  | restart => exact look_keeps (check_keeps same fun _ => restart s)
  | createMove f =>
    have written (i : MoveIx) (ch : Chan) := createMove link i ch f s
    refine look_keeps (check_keeps same fun _ => need_keeps same fun i _ => need_keeps same fun ch _ => check_keeps same fun _ =>
      check_keeps same fun _ => check_keeps same fun _ => noneOf_keeps same fun _ => noneOf_keeps same fun _ =>
      noneOf_keeps same fun _ => noneOf_keeps same fun _ => ?_)
    unfold checkController
    split
    · exact need_keeps same fun _ _ => check_keeps same fun _ => noneOf_keeps same fun _ => written i ch
    · exact check_keeps same fun _ => written i ch
  | addMember b u =>
    exact look_keeps (moveCommand_keeps same fun _ _ _ _ _ => check_keeps same fun _ => need_keeps same fun _ _ =>
      check_keeps same fun _ => check_keeps same fun _ => check_keeps same fun _ => check_keeps same fun _ => addMember _ _ _ _)
  | removeMember b u =>
    exact moveCommand_keeps same fun _ _ _ _ _ => check_keeps same fun _ => check_keeps same fun _ => check_keeps same fun _ =>
      check_keeps same fun _ => comp (serveFreed _ _) (removeHandset _ _ _ _)
  | setController b u =>
    exact moveCommand_keeps same fun _ _ _ _ _ => need_keeps same fun _ _ => need_keeps same fun _ _ => check_keeps same fun _ =>
      iteFun (fun _ => same) fun _ => setController _ _ _ _ _
  | moveChannel b ch =>
    exact look_keeps (moveCommand_keeps same fun _ _ _ _ _ => check_keeps same fun _ => need_keeps same fun _ _ =>
      check_keeps same fun _ => noneOf_keeps same fun _ => comp (serveFreed _ _) (moveToChannel _ _ _ _))
  | releaseMove b =>
    exact moveCommand_keeps same fun _ _ _ _ _ => iteFun (fun _ => enterReleasing _ _ _) fun _ => release _ _ _ _
  | takeMove b =>
    exact look_keeps (check_keeps same fun _ => need_keeps same fun _ _ =>
      iteFun (fun _ => same) fun _ => comp (notify _ _ _) (setMove _ _ _))
  | reinstate b => exact moveCommand_keeps same fun _ _ _ _ _ => comp (startOffers _ _) (setMove _ _ _)
  | talkRequest ch cls =>
    exact look_keeps (check_keeps same fun _ => need_keeps same fun _ _ => need_keeps same fun _ _ => check_keeps same fun _ =>
      consoleRequest _ _ _ _)
  | talkEnd ch =>
    exact look_keeps (check_keeps same fun _ => need_keeps same fun _ _ => check_keeps same fun _ => talkEndBy _ _ _)
  | play ch pat mode =>
    refine look_keeps (check_keeps same fun _ => need_keeps same fun _ _ => need_keeps same fun _ _ => check_keeps same fun _ => ?_)
    split
    · exact look_keeps (check_keeps same fun _ => requestAlert _ _ _)
    · split
      · exact look_keeps (check_keeps same fun _ => check_keeps same fun _ => startPlay _ _ _ _)
      · exact same
  | swapPort ch =>
    exact look_keeps (check_keeps same fun _ => need_keeps same fun _ _ => check_keeps same fun _ => check_keeps same fun _ =>
      need_keeps same fun _ _ => tuneTo _ _ _ _)
  | isolatePort p => exact look_keeps (need_keeps same fun _ _ => iteFun (fun _ => same) fun _ => isolate _ _)
  | restorePort p => exact look_keeps (need_keeps same fun _ _ => check_keeps same fun _ => accepted (portTo _ _ _ _ _))
  | startTest p m d r =>
    refine look_keeps (check_keeps same fun _ => need_keeps same fun _ _ => check_keeps same fun _ => need_keeps same fun mode _ => ?_)
    unfold cmdStartMode look
    split
    · exact same
    · exact check_keeps same fun _ => need_keeps same fun _ _ => check_keeps same fun _ => check_keeps same fun _ => accepted (startTest _ _ _)
    · exact accepted (startTest _ _ _)
  | stopTest p => exact look_keeps (need_keeps same fun _ _ => need_keeps same fun _ _ => endTest _ _ _)
  | readConditions => exact accepted (Roomy.modLink fun _ => ⟨rfl, rfl, rfl, .refl _ _⟩)
  | subscribe m => exact check_keeps same fun _ => accepted (Roomy.modLink fun _ => ⟨rfl, rfl, rfl, .refl _ _⟩)
  | _ => exact apart (by simp [commandFields])

/-! ## The rows -/

theorem latchStuck (s : State) : Roomy s (latchStuck s) :=
  of_links (by intro f hf; cases f <;> first | exact rfl | simp at hf) fun c => by
    rw [show (Machine.latchStuck s).link c = _ from Tab.get_each _ _ _]
    exact ⟨rfl, rfl, rfl, .refl _ _⟩

theorem ofAir {p : Port} {src : UnitId} {f : Chan → State → State} (k : ∀ ch t, Roomy t (f ch t)) : Roomy s (arrives p src f s) :=
  arrives_keeps (Q := Roomy s) (refl _) fun _ _ _ _ _ => comp (k _ _) (modUnit _ _ _)

/-- What a row other than those of the links and of the commands does before the transmitters take what waits. -/
theorem row {i : Instr} (touches : rowTouches [.links] i = true) (transmits : ∀ l, i ≠ .transmitDone l) (gap : ∀ l, i ≠ .gapDeadline l)
    (unknown : ∀ l c, i ≠ .unknownCommand l c) (e : exec i s = .next t) : t = s ∨ ∃ u, Roomy s u ∧ t = settle u := by
  have settled {f : State → State} (e : event f s = .next t) (k : Roomy s (f s)) : t = s ∨ ∃ u, Roomy s u ∧ t = settle u := by
    unfold event at e
    split at e
    · exact .inl (by cases e; rfl)
    · exact .inr ⟨_, k, by cases e; rfl⟩
  have apart {f : State → State} {fs : List Field} (e : event f s = .next t) (k : Only fs s (f s))
      (far : ∀ f ∈ [Field.downlink, .links, .units, .quiet], f ∉ fs := by decide) : t = s ∨ ∃ u, Roomy s u ∧ t = settle u :=
    settled e (of_only k far)
  cases i <;> cases touches
  all_goals dsimp only [exec] at e
  case transmitDone l => exact absurd rfl (transmits l)
  case gapDeadline l => exact absurd rfl (gap l)
  case unknownCommand l c => exact absurd rfl (unknown l c)
  case timeBaseTick =>
    refine settled e ⟨fun _ => .refl _ _, fun _ => .refl _, ?_, .refl _ _⟩
    simpa using Fits.refl _ _
  case healthReport p st => exact settled e (ite (fun _ => refl _) fun _ => some fun _ _ => takeHealth _ _ _)
  case carrierReport p b u => exact settled e (some fun _ _ => of_only (modFloorTested_only _ _ _))
  case slotReady p => exact settled e (some fun _ _ => handHead _ _ _)
  case tuned p => exact settled e (ite (fun _ => some fun _ _ => some fun _ _ => tuned _ _ _ _) fun _ => refl _)
  case undefinedPortMessage p b => exact settled e (refl _)
  case unknownAirFrame p b => exact settled e (refl _)
  case talkReq p src cls => exact settled e (ofAir fun _ _ => talkReqBy _ _ _ _)
  case talkEndFrame p src => exact settled e (ofAir fun _ _ => talkEndBy _ _ _)
  case emergency p src => exact settled e (ofAir fun _ _ => emergencyBy _ _ _)
  case presence p src b => exact settled e (ofAir fun _ _ => presenceBy _ _)
  case stopAck p src b => exact settled e (ofAir fun _ _ => stopAckBy _ _)
  case resume p src b => exact settled e (ofAir fun _ _ => resumeBy _ _)
  case handoverOffer p src b x => exact settled e (ofAir fun _ _ => offerBy _ _ _)
  case handoverTake p src b => exact settled e (ofAir fun _ _ => takeBy _ _)
  case joined p src b c => exact settled e (ofAir fun _ _ => joinedBy _ _ _ _)
  case capability p src k l c f =>
    refine settled e (ite (fun _ => refl _) fun _ => some fun _ _ => ite (fun _ => ?_) fun _ => modUnit _ _ _)
    exact comp (some fun _ _ => takeBurst _ _) (modUnit _ _ _)
  case echoTestData p b => exact settled e (ite (fun _ => of_only (takeEcho_only _ _ _)) fun _ => refl _)
  case testBit p =>
    refine settled e (some fun x _ => ?_)
    have set := setTest p (Option.some (x.generates s.time)) s
    cases x.mode with
    | loc => exact set
    | unit | remote => exact comp (send _ _ _) set
  case formingDeadline j =>
    exact settled e (some fun _ _ => due (ite (fun _ => refl _) fun _ => comp (serveFreed _ _) (formingEnds _ _ _)))
  case joinRepetition j u => exact settled e (repeatJoin _ _ _)
  case addDeadline j u =>
    exact settled e (some fun _ _ => some fun _ _ => due (ite (fun _ => refl _) fun _ => comp (notify _ _ _) (setMove _ _ _)))
  case reChannelDeadline j =>
    exact settled e (some fun _ _ => some fun _ _ => due (iteFun (fun _ => setMove _ _ _) fun _ => comp (notify _ _ _) (setMove _ _ _)))
  case releaseStopRepetition j =>
    exact settled e (some fun _ _ => some fun _ _ => ite (fun _ => comp (orderTo _ _ _) (setMove _ _ _)) fun _ => refl _)
  case releaseDeadline j => exact settled e (some fun _ _ => due (release _ _ _ _))
  case windowDeadline j => exact settled e (some fun _ _ => ite (fun _ => due (raiseFault _ _ _)) fun _ => refl _)
  case cleanSpanEnd j => exact settled e (some fun _ _ => ite (fun _ => setMove _ _ _) fun _ => refl _)
  case stopOrderRepetition j =>
    exact settled e (some fun _ _ => ite (fun _ => due (comp (orderTo _ _ _) (setMove _ _ _))) fun _ => refl _)
  case stopConfirmMark j =>
    exact settled e (some fun _ _ => ite (fun _ => due (comp (notify _ _ _) (setMove _ _ _))) fun _ => refl _)
  case minimumHoldMark j => exact settled e (some fun _ _ => ite (fun _ => endHold _ _) fun _ => refl _)
  case offerCycleRepetition j =>
    exact settled e (some fun _ _ => ite (fun _ => due (comp (some fun _ _ => orderTo _ _ _) (setMove _ _ _))) fun _ => refl _)
  case offerExpiry j => exact settled e (some fun _ _ => some fun _ _ => due (comp (notify _ _ _) (setMove _ _ _)))
  case takeUpDeadline c => exact settled e (some fun _ _ => due (endGrantIdle _ _ _))
  case silentCarrierDeadline c => exact settled e (some fun _ _ => due (endGrantIdle _ _ _))
  case overtalkExpiry c => exact settled e (some fun _ _ => due (comp (endGrantIdle _ _ _) (modFloor _ _ _)))
  case warningMark c =>
    exact settled e (some fun _ _ => iteFun (fun _ => refl _) fun _ => due (comp (requestMix _ _ _) (modFloor _ _ _)))
  case lockoutExpiry c p => exact settled e (modFloor _ _ _)
  case hangExpiry c => exact settled e (due (comp (serviceDecision _ _) (endHang _ _)))
  case foreignDetection c =>
    refine settled e (due ?_)
    have latched := comp (latchAll c .interference _) (modFloor c (fun f => { f with foreignSince := none, episodeOpen := true }) s)
    exact iteFun (fun _ => latched) fun _ => comp (broadcast _ _) latched
  case quietDeadline c => exact settled e (due (modFloor _ _ _))
  case timeoutExpiry c p => exact settled e (due (denyEntry _ _ _ _))
  case healthSilence p => exact settled e (due (silence _ _))
  case restorationMark p => exact settled e (due (restored _ _))
  case tuneDeadline p => exact settled e (ite (fun _ => due (failPort _ _ _)) fun _ => refl _)
  case testEndTime p => exact settled e (some fun _ _ => due (endTest _ _ _))
  case offerRepetition j => exact settled e (some fun _ _ => ite (fun _ => comp (placeFrame _ _ _) (setSlot _ _ _)) fun _ => refl _)
  case confirmSpacing j => exact settled e (some fun _ _ => ite (fun _ => comp (placeFrame _ _ _) (setSlot _ _ _)) fun _ => refl _)
  case lapseTimer j => exact settled e (some fun _ _ => ite (fun _ => due (freeSlot _ _ _ _ _)) fun _ => refl _)
  case stuckMark j =>
    exact settled e (some fun _ _ => ite (fun _ => due (comp (broadcast _ _) (comp (latchStuck _) (setSlot _ _ _)))) fun _ => refl _)
  case failureTimer j => exact settled e (some fun _ _ => due (freeSlot _ _ _ _ _))
  case quietListExpiry u => exact settled e { refl s with quiet := .inr (List.length_filter_le _ _) }
  case agingExpiry u => exact settled e (some fun _ _ => ite (fun _ => comp (serveFreed _ _) (ageOutUnit _ _)) fun _ => refl _)
  case toneStepEnd c => exact settled e (some fun _ _ => due (stepEnds _ _ _))

end Roomy

end Sys2Proof.Machine

/-! PROOF. The transmitters (O8), and the room of the queues and the links through every step (O53). -/

namespace Sys2Proof.Machine

set_option Elab.async false

/-! ## The transmitters (R180, R195) -/

theorem message_cons (type : Byte) (head : List Byte) (flags : Nat) (contents : List Byte) :
    ∃ f fs, message type head flags contents = f :: fs := by
  unfold message
  split
  · exact ⟨_, _, rfl⟩
  · exact ⟨_, _, rfl⟩

/-- R195: a response is sent in one frame at least. -/
theorem Response.frames_cons (r : Response) : ∃ f fs, r.frames = f :: fs := by
  unfold Response.frames
  split
  · exact message_cons _ _ _ _
  · exact ⟨_, _, rfl⟩
  · exact ⟨_, _, rfl⟩

theorem Notice.frames_cons (n : Notice) : ∃ f fs, n.frames = f :: fs := message_cons _ _ _ _

/-- The frames that remain of the message being sent. -/
def Link.rest (l : Link) : List (List Byte) := (l.tx.map (·.rest)).getD []

theorem Link.takeNext_rest {l : Link} {f : List Byte} {fs : List (List Byte)} (h : l.rest = f :: fs) :
    l.takeNext = { l with tx := some ⟨f, fs⟩ } := by
  unfold Link.rest at h
  unfold Link.takeNext
  cases e : l.tx with
  | none => simp [e] at h
  | some x =>
    obtain ⟨g, rest⟩ := x
    obtain rfl : rest = f :: fs := by simpa [e] using h
    rfl

theorem Link.takeNext_response {l : Link} {r : Response} {rs : List Response} {f : List Byte} {fs : List (List Byte)} (h : l.rest = [])
    (first : l.responses = r :: rs) (frames : r.frames = f :: fs) : l.takeNext = { l with responses := rs, tx := some ⟨f, fs⟩ } := by
  unfold Link.rest at h
  unfold Link.takeNext
  split
  · next e => simp [e] at h
  · simp [first, frames]

theorem Link.takeNext_notice {l : Link} {n : Notice} {ns : List Notice} {f : List Byte} {fs : List (List Byte)} (h : l.rest = [])
    (answered : l.responses = []) (first : l.notices = n :: ns) (frames : n.frames = f :: fs) :
    l.takeNext = { l with notices := ns, tx := some ⟨f, fs⟩ } := by
  unfold Link.rest at h
  unfold Link.takeNext
  split
  · next e => simp [e] at h
  · simp [answered, first, frames]

theorem Link.takeNext_idle {l : Link} (h : l.rest = []) (answered : l.responses = []) (told : l.notices = []) :
    l.takeNext = { l with tx := none } := by
  unfold Link.rest at h
  unfold Link.takeNext
  split
  · next e => simp [e] at h
  · simp [answered, told]

/-- What a transmitter that takes the next frame leaves. -/
inductive Link.Takes (l : Link) : Link → Prop where
  | sends (f : List Byte) (fs : List (List Byte)) : Takes l { l with tx := some ⟨f, fs⟩ }
  | response (r : Response) (rs : List Response) (f : List Byte) (fs : List (List Byte)) :
      l.responses = r :: rs → Takes l { l with responses := rs, tx := some ⟨f, fs⟩ }
  | notice (n : Notice) (ns : List Notice) (f : List Byte) (fs : List (List Byte)) :
      l.notices = n :: ns → Takes l { l with notices := ns, tx := some ⟨f, fs⟩ }
  | idles : l.responses = [] → l.notices = [] → Takes l { l with tx := none }

theorem Link.takes_takeNext (l : Link) : l.Takes l.takeNext := by
  cases rest : l.rest with
  | cons f fs => rw [Link.takeNext_rest rest]; exact .sends f fs
  | nil =>
    cases first : l.responses with
    | cons r rs =>
      obtain ⟨f, fs, frames⟩ := r.frames_cons
      rw [Link.takeNext_response rest first frames]; exact .response r rs f fs first
    | nil =>
      cases told : l.notices with
      | cons n ns =>
        obtain ⟨f, fs, frames⟩ := n.frames_cons
        rw [Link.takeNext_notice rest first told frames]; exact .notice n ns f fs told
      | nil => rw [Link.takeNext_idle rest first told]; exact .idles first told

theorem Link.settle_of_isSome {l : Link} (h : l.tx.isSome = true) : l.settle = l := by
  unfold Link.settle
  rw [if_neg (by simpa using Option.isSome_iff_ne_none.1 h)]

theorem Link.settle_idle {l : Link} (idle : l.tx = none) (answered : l.responses = []) (told : l.notices = []) : l.settle = l := by
  unfold Link.settle
  rw [if_pos (by simp [idle]), Link.takeNext_idle (by simp [Link.rest, idle]) answered told]
  cases l; simp_all

/-- Settles O8: the transmitter takes the frame that `takeNext` names, and is then idle only where nothing waits. -/
theorem transmitterTakesTheNextFrame : Obligations.TransmitterTakesTheNextFrame := by
  intro link x s awake busy
  have rest : (s.link link).rest = x.rest := by simp [Link.rest, busy]
  have own : (settle (modLink link (fun l => if l.tx.isSome then l.takeNext else l) s)).link link = (s.link link).takeNext.settle := by
    simp [modLink, busy]
  have sends {l : Link} {f : List Byte} {fs : List (List Byte)} : ({ l with tx := some ⟨f, fs⟩ } : Link).settle = { l with tx := some ⟨f, fs⟩ } :=
    Link.settle_of_isSome rfl
  refine ⟨_, event_next awake, rfl, fun c other => by simp [modLink, other], ?_, ?_, ?_, ?_⟩
  · intro f fs more
    rw [own, Link.takeNext_rest (rest.trans more)]
    exact sends
  · intro r rs last first
    obtain ⟨f, fs, frames⟩ := r.frames_cons
    rw [own, Link.takeNext_response (rest.trans last) first frames]
    exact ⟨f, fs, frames, Link.settle_of_isSome rfl⟩
  · intro n ns last answered first
    obtain ⟨f, fs, frames⟩ := n.frames_cons
    rw [own, Link.takeNext_notice (rest.trans last) answered first frames]
    exact ⟨f, fs, frames, Link.settle_of_isSome rfl⟩
  · intro last answered told
    rw [own, Link.takeNext_idle (rest.trans last) answered told]
    exact Link.settle_idle rfl answered told

/-! ## A link within its room -/

/-- R175, R177, R182: a link holds no more than its room, and an open frame has room for its response. -/
structure Link.Right (l : Link) : Prop where
  responses : l.responses.length ≤ 8
  framer : l.framer.isSome = true → l.responses.length < 8
  notices : l.notices.length ≤ 32

namespace Link.Right

variable {l k : Link}

theorem told (h : l.Right) (t : l.Told k) : k.Right :=
  ⟨t.responses ▸ h.responses, t.responses ▸ t.framer ▸ h.framer, t.notices.le h.notices⟩

theorem takes (h : l.Right) (t : l.Takes k) : k.Right := by
  cases t with
  | sends | idles => exact ⟨h.responses, h.framer, h.notices⟩
  | response r rs f fs first =>
    have shorter : rs.length < l.responses.length := by simp [first]
    exact ⟨by have := h.responses; dsimp only; omega, fun _ => by have := h.responses; dsimp only; omega, h.notices⟩
  | notice n ns f fs first =>
    have shorter : ns.length < l.notices.length := by simp [first]
    exact ⟨h.responses, h.framer, by have := h.notices; dsimp only; omega⟩

theorem settle (h : l.Right) : l.settle.Right := by
  unfold Link.settle
  split
  · exact h.takes l.takes_takeNext
  · exact h

theorem hunts (h : l.Right) : ({ l with framer := none } : Link).Right := ⟨h.responses, nofun, h.notices⟩

theorem responds (h : l.Right) (room : l.responses.length < 8) (hunting : l.framer = none) (r : Response) :
    ({ l with responses := l.responses ++ [r] } : Link).Right :=
  ⟨by simpa using room, by simp [hunting], h.notices⟩

end Link.Right

theorem Link.Takes.idle {l k : Link} (h : l.Takes k) (idle : k.tx = none) : k.responses = [] ∧ k.notices = [] := by
  cases h with
  | idles answered told => exact ⟨answered, told⟩
  | sends | response | notice => cases idle

/-- R180: after an event no transmitter is idle while something waits. -/
theorem Link.settle_waits {l : Link} (idle : l.settle.tx = none) : l.settle.responses = [] ∧ l.settle.notices = [] := by
  unfold Link.settle at idle ⊢
  split at idle
  · next h => rw [if_pos h]; exact l.takes_takeNext.idle idle
  · next h => simp [idle] at h

/-! ## The queues and the links through a step -/

/-- R110, R115, R122, R175, R177, R182: the queues of frames, the register, the quiet list and the links are within their room. -/
structure QueuesRight (s : State) : Prop where
  frames : ∀ ch, (s.frames ch).length ≤ 16
  units : s.units.length ≤ 96
  quiet : s.quiet.length ≤ 8
  links : ∀ c, (s.link c).Right

namespace QueuesRight

variable {s t : State}

theorem roomy (h : QueuesRight s) (k : Roomy s t) : QueuesRight t :=
  ⟨fun ch => (k.frames ch).le (h.frames ch), k.units.le h.units, k.quiet.le h.quiet, fun c => (h.links c).told (k.links c)⟩

theorem of_links (h : QueuesRight s) (k : Only [.links] s t) (links : ∀ c, (t.link c).Right) : QueuesRight t :=
  ⟨fun ch => by rw [State.frames_congr k.downlink]; exact h.frames ch, by rw [k.units]; exact h.units,
    by rw [k.quiet]; exact h.quiet, links⟩

theorem only {fs : List Field} (h : QueuesRight s) (k : Only fs s t)
    (apart : ∀ f ∈ [Field.downlink, .links, .units, .quiet], f ∉ fs := by decide) : QueuesRight t := h.roomy (.of_only k apart)

theorem setLink {c : Console} {l : Link} (h : QueuesRight s) (k : l.Right) : QueuesRight (setLink c l s) :=
  h.of_links (setLink_only _ _ _) fun x => by
    rw [setLink_link]
    split
    · exact k
    · exact h.links x

theorem settle (h : QueuesRight s) : QueuesRight (settle s) :=
  h.of_links (settle_only _) fun c => by rw [settle_link]; exact (h.links c).settle

theorem hunt {c : Console} (h : QueuesRight s) : QueuesRight (hunt c s) := h.setLink (h.links c).hunts

theorem respond {c : Console} (h : QueuesRight s) (room : (s.link c).responses.length < 8) (hunting : (s.link c).framer = none)
    (r : Response) : QueuesRight (respond c r s) := h.setLink ((h.links c).responds room hunting r)

/-- R178: the answer to a checked frame takes the room that was there when the frame was opened. -/
theorem answerFrame {link : Console} {code : Byte} {c : Cmd} (h : QueuesRight s) (room : (s.link link).responses.length < 8)
    (k : ∀ t, Roomy t (c t).2) : QueuesRight (answerFrame link code c s) := by
  have told := (k (Machine.hunt link s)).links link
  have hunting : (Machine.hunt link s).link link = { s.link link with framer := none } := by simp [Machine.hunt, modLink]
  refine (h.hunt.roomy (k _)).respond ?_ ?_ _
  · rw [told.responses, hunting]; exact room
  · rw [told.framer, hunting]

theorem takeCommand {link : Console} {code : Byte} {c : Cmd} (h : QueuesRight s) (k : ∀ t, Roomy t (c t).2) :
    QueuesRight (takeCommand link code c s) := takeCommand_keeps h fun room => h.answerFrame room k

theorem discardFrame {link : Console} {cause : RejectCause} (h : QueuesRight s) (opened : (s.link link).framer.isSome = true) :
    QueuesRight (discardFrame link cause s) := by
  have hunting : (Machine.hunt link s).link link = { s.link link with framer := none } := by simp [Machine.hunt, modLink]
  refine h.hunt.respond ?_ ?_ _
  · rw [hunting]; exact (h.links link).framer opened
  · rw [hunting]

theorem keepFrame {link : Console} {r : Reception} (h : QueuesRight s) (room : (s.link link).responses.length < 8) :
    QueuesRight (keepFrame link r s) := h.setLink ⟨(h.links link).responses, fun _ => room, (h.links link).notices⟩

theorem runFrame_roomy (link : Console) (code : Byte) (body : List Byte) (s : State) : Roomy s (runFrame link code body s).2 :=
  runFrame_keeps (P := Roomy s) (fun link c t ht => ht.trans (.command link c t)) link code body s (.refl s)

theorem receive {link : Console} {b : Byte} {stop : Bool} (h : QueuesRight s) : QueuesRight (receive (runFrame link) link b stop s) := by
  unfold Machine.receive
  split
  · exact ite_keeps (fun opens => h.keepFrame opens.2.2) fun _ => h
  · next r hr =>
    have opened : (s.link link).framer.isSome = true := by simp [hr]
    have room := (h.links link).framer opened
    refine ite_keeps (fun _ => ?_) fun _ => h.discardFrame opened
    refine ite_keeps (fun _ => ?_) fun _ => h.discardFrame opened
    refine ite_keeps (fun _ => ?_) fun _ => h.keepFrame room
    exact ite_keeps (fun _ => h.answerFrame room (runFrame_roomy _ _ _)) fun _ => h.discardFrame opened

end QueuesRight

theorem queuesRight_iff {s : State} : WithinRoom s ∧ FramesHaveRoom s ↔
    (∀ ch, (s.floor ch).queue.length ≤ 8 ∧ (s.floor ch).lockouts.length ≤ 8 ∧ (s.floor ch).alerts.length ≤ 4) ∧ QueuesRight s := by
  constructor
  · rintro ⟨⟨chans, units, quiet, links⟩, opens⟩
    exact ⟨fun ch => ⟨(chans ch).1, (chans ch).2.1, (chans ch).2.2.1⟩, fun ch => (chans ch).2.2.2, units, quiet,
      fun c => ⟨(links c).1, opens c, (links c).2⟩⟩
  · rintro ⟨floors, queues⟩
    exact ⟨⟨fun ch => ⟨(floors ch).1, (floors ch).2.1, (floors ch).2.2, queues.frames ch⟩, queues.units, queues.quiet,
      fun c => ⟨(queues.links c).responses, (queues.links c).notices⟩⟩, fun c => (queues.links c).framer⟩

/-- What a step leaves, where each event leaves the queues within their room and the transmitters take what waits. -/
structure LinksKept (s t : State) : Prop where
  queues : QueuesRight s → QueuesRight t
  idle : NoIdleTransmitter s → NoIdleTransmitter t

namespace LinksKept

variable {s t : State}

theorem event {f : State → State} (e : event f s = .next t) (k : QueuesRight s → QueuesRight (f s)) : LinksKept s t where
  queues h := event_keeps h (k h).settle e
  idle h := event_keeps h (fun c free => by rw [settle_link] at free ⊢; exact Link.settle_waits free) e

theorem same (links : t.links = s.links) (queues : QueuesRight s → QueuesRight t) : LinksKept s t :=
  ⟨queues, fun h c free => by
    have same : t.link c = s.link c := congrArg (Tab.get · c) links
    rw [same] at free ⊢; exact h c free⟩

theorem reset_queues : QueuesRight State.reset :=
  (queuesRight_iff.1 ⟨resetMeetsTheInvariants.1, resetMeetsTheInvariants.2.1⟩).2

theorem of_reset (k : Only [.pending, .resetLine] State.reset t) : LinksKept s t :=
  ⟨fun _ => reset_queues.only k, fun _ c free => by
    rw [State.link_congr k.links] at free ⊢; exact resetMeetsTheInvariants.2.2.1 c free⟩

theorem of_roomy (h : t = s ∨ ∃ u, Roomy s u ∧ t = settle u) : LinksKept s t := by
  obtain rfl | ⟨u, k, rfl⟩ := h
  · exact ⟨id, id⟩
  · exact ⟨fun h => (h.roomy k).settle, fun _ c free => by rw [settle_link] at free ⊢; exact Link.settle_waits free⟩

theorem pending (q : List Instr) : LinksKept s { s with pending := q } :=
  .same rfl fun h => h.only (fs := [.pending]) (by intro f hf; cases f <;> first | exact rfl | simp at hf)

theorem row {i : Instr} (hc : commandOf? i = none) (e : Machine.exec i s = .next t) : LinksKept s t := by
  cases i <;> cases hc
  case powerOn =>
    cases e
    exact .of_reset (by intro f hf; cases f <;> first | exact rfl | simp at hf)
  case resetAssert =>
    cases e
    exact .of_reset (by intro f hf; cases f <;> first | exact rfl | simp at hf)
  case resetRelease =>
    cases e
    exact .same rfl fun h => h.only (fs := [.resetLine]) (by intro f hf; cases f <;> first | exact rfl | simp at hf)
  case consoleByte link b stop => exact .event e fun h => h.receive
  case unknownCommand link code => exact .event e fun h => h.takeCommand fun t => .refl t
  case transmitDone link =>
    refine .event e fun h => h.setLink ?_
    dsimp only
    split
    · exact (h.links link).takes (Link.takes_takeNext _)
    · exact h.links link
  case gapDeadline link =>
    refine .event e fun h => expiry_keeps h fun due => h.discardFrame ?_
    cases framer : (s.link link).framer with
    | some r => rfl
    | none => simp [framer, reachedOpt] at due
  all_goals exact .of_roomy (Roomy.row rfl (by simp) (by simp) (by simp) e)

theorem exec {i : Instr} (e : Machine.exec i s = .next t) : LinksKept s t := by
  cases hc : commandOf? i with
  | some x =>
    obtain ⟨link, c⟩ := x
    rw [eq_commandRow hc, exec_commandRow] at e
    exact .event e fun h => h.takeCommand (.command link c)
  | none =>
    exact row hc e

theorem step (e : step s = .next t) : LinksKept s t := by
  unfold Machine.step at e
  split at e
  · cases e; exact ⟨id, id⟩
  · next q _ =>
    have waits := pending (s := s) q
    have taken := exec e
    exact ⟨taken.queues ∘ waits.queues, taken.idle ∘ waits.idle⟩

end LinksKept

/-! ## The floors within their room -/

/-- R41, R53, R167: a floor's queue, lockout list and alert list are within their room. -/
def ClaimsFit (_ : Bool) (c : Claims) : Prop := c.waiting.length ≤ 8 ∧ c.lockouts ≤ 8 ∧ c.alerts ≤ 4

theorem claimsFit_law : ClaimLaw ClaimsFit where
  weakens := id
  reset := ⟨Nat.zero_le _, Nat.zero_le _, Nat.zero_le _⟩
  shrinks := fun w n m sub lockouts alerts h => by
    obtain ⟨waiting, locked, alerted⟩ := h
    exact ⟨sub.length_le.trans waiting, by dsimp only; omega, by dsimp only; omega⟩
  waits := fun w p _ room _ _ h => by
    obtain ⟨waiting, locked, alerted⟩ := h
    exact ⟨by simp only [List.length_append, List.length_singleton]; omega, locked, alerted⟩
  grants := fun _ p h => ⟨(List.length_filter_le _ _).trans h.1, h.2⟩
  ends := id
  plays := fun _ _ h => h
  settles := fun h => by split <;> exact h
  empties := fun h => ⟨Nat.zero_le _, h.2⟩

theorem onFloors_claimsFit (s : State) : OnFloors ClaimsFit s ↔
    ∀ ch, (s.floor ch).queue.length ≤ 8 ∧ (s.floor ch).lockouts.length ≤ 8 ∧ (s.floor ch).alerts.length ≤ 4 := by
  simp [OnFloors, ClaimsFit, Floor.claims]

/-- Settles O53: the lists of a floor are a law of its claims; the queues and the links are kept by each row (`LinksKept`), and the
transmitters take what an event leaves waiting. -/
theorem everyStepKeepsTheRooms : Obligations.EveryStepKeepsTheRooms := by
  intro s t within opens idle e
  obtain ⟨floors, queues⟩ := queuesRight_iff.1 ⟨within, opens⟩
  have kept := LinksKept.step e
  have fit := (onFloors_claimsFit t).1 (claimsFit_law.step ((onFloors_claimsFit s).2 floors) e)
  obtain ⟨within', opens'⟩ := queuesRight_iff.2 ⟨fit, kept.queues queues⟩
  exact ⟨within', opens', kept.idle idle⟩

end Sys2Proof.Machine

/-! PROOF. The tick (O5), the receive framer and the completion of a checked frame (O6, O7), the answers to commands (O9) and the
delivery of notices (O10). -/

namespace Sys2Proof.Machine

set_option Elab.async false

/-! ## The tick (R115, R192) -/

/-- R115: a time that is less than 2^31 - 1 ms old stays, and one of that age moves forward with the Time Base. -/
theorem heldTime_tick {now t : Time} (recent : elapsed now t ≤ 2147483647) :
    heldTime (now + 1#32) t = if elapsed now t < 2147483647 then t else t + 1 := by
  unfold heldTime elapsed at *
  have next : (now + 1#32 - t).toNat = (now - t).toNat + 1 := by bv_omega
  split
  · next old => rw [if_neg (by omega)]; bv_omega
  · next young => rw [if_pos (by omega)]

/-- Settles O5: each record keeps its place, with each of its times held. -/
theorem tickRaisesTheTimeBase : Obligations.TickRaisesTheTimeBase := by
  intro s awake law
  refine ⟨s.units.map (UnitRec.held (s.time + 1#32)), ?_, by simp, fun k r hr => ?_⟩
  · dsimp only [exec, execTimeBaseTick]
    exact event_next awake
  obtain ⟨admitted, lastHeard, unboundSince⟩ := law.2 r (List.mem_of_getElem? hr)
  exact ⟨r.held (s.time + 1#32), by simp [hr], rfl, heldTime_tick admitted, heldTime_tick lastHeard, heldTime_tick unboundSince⟩

/-! ## The receive framer (R175, R176) -/

section
variable {link : Console} {b : Byte} {r : Reception} {s : State}

theorem discardFrame_eq (link : Console) (cause : RejectCause) (s : State) :
    discardFrame link cause s = respond link ⟨none, .frameReject cause⟩ (hunt link s) := rfl

theorem keepFrame_eq (link : Console) (r : Reception) (s : State) :
    keepFrame link r s = setLink link { s.link link with framer := some { r with gap := s.time + 21 } } s := rfl

theorem receive_hunting {run : Byte → List Byte → Cmd} {stop : Bool} (h : (s.link link).framer = none) :
    receive run link b stop s =
      if stop = true ∧ b = 0xA5#8 ∧ (s.link link).responses.length < 8 then openFrame link s else s := by
  unfold receive
  rw [h]

theorem receive_inFrame {run : Byte → List Byte → Cmd} (h : (s.link link).framer = some r) (stop : Bool) :
    receive run link b stop s = if stop then storeByte run link (r.store b) s else discardFrame link .character s := by
  unfold receive
  rw [h]

theorem Reception.store_lengthOk (b : Byte) (r : Reception) :
    (r.store b).lengthOk = true ↔ 1 ≤ (r.declared.getD b).toNat ∧ (r.declared.getD b).toNat ≤ 120 := by
  simp [Reception.lengthOk, Reception.store]

theorem Reception.store_complete (b : Byte) (r : Reception) :
    (r.store b).complete = true ↔ (r.bytes ++ [b]).length = (r.declared.getD b).toNat + 3 := by
  simp [Reception.complete, Reception.store]

theorem storeByte_badLength {run : Byte → List Byte → Cmd} (h : r.lengthOk = false) :
    storeByte run link r s = discardFrame link .length s := by simp [storeByte, h]

theorem storeByte_incomplete {run : Byte → List Byte → Cmd} (h : r.lengthOk = true) (k : r.complete = false) :
    storeByte run link r s = keepFrame link r s := by simp [storeByte, h, k]

theorem storeByte_complete {run : Byte → List Byte → Cmd} (h : r.lengthOk = true) (k : r.complete = true) :
    storeByte run link r s = if crcMatches r.bytes then
      answerFrame link (frameType r.bytes) (run (frameType r.bytes) (frameBody r.bytes)) s else discardFrame link .crc s := by
  simp [storeByte, h, k]

end

/-- Settles O6: the framer in HUNT; in IN_FRAME, by the stop bit, the declared length, the count and the CRC; and the gap. -/
theorem receiveFramer : Obligations.ReceiveFramer := by
  refine ⟨fun link b stop s awake hunting => ?hunt, fun link b r s awake opened => ⟨?character, ?inFrame⟩,
    fun link r s awake opened due => ?gap⟩
  case hunt => exact (event_next awake).trans (by rw [receive_hunting hunting]; rfl)
  case character => exact (event_next awake).trans (by rw [receive_inFrame opened]; rfl)
  case gap =>
    refine (event_next awake).trans ?_
    rw [opened, Option.map_some, expiry_reached due, discardFrame_eq]
  case inFrame =>
    rintro n frame rfl rfl
    have row : exec (.consoleByte link b true) s = .next (settle (storeByte (runFrame link) link (r.store b) s)) :=
      (event_next awake).trans (by rw [receive_inFrame opened]; rfl)
    have lengthOk := r.store_lengthOk b
    have complete := r.store_complete b
    refine ⟨fun bad => ?_, fun low high more => ?_, fun low high all wrong => ?_⟩
    · rw [row, storeByte_badLength (by rw [Bool.eq_false_iff, ne_eq, lengthOk]; omega), discardFrame_eq]
    · rw [row, storeByte_incomplete (lengthOk.2 ⟨low, high⟩) (by rw [Bool.eq_false_iff, ne_eq, complete]; exact more), keepFrame_eq]
      rfl
    · rw [row, storeByte_complete (lengthOk.2 ⟨low, high⟩) (complete.2 all), if_neg (by simpa [Reception.store] using wrong),
        discardFrame_eq]

/-! ## The code of a command (R178, 12.3) -/

/-- What a reader of a body can give. -/
def Rd.Gives {α : Type} (r : Rd α) (P : α → Prop) : Prop := ∀ bs x rest, r bs = some (x, rest) → P x

namespace Rd

variable {α β : Type} {P : β → Prop}

theorem gives_pure {x : β} (h : P x) : (Rd.pure x).Gives P := by
  rintro bs y rest ⟨⟩
  exact h

theorem gives_andThen {r : Rd α} {f : α → Rd β} (h : ∀ x, (f x).Gives P) : (r.andThen f).Gives P := by
  intro bs y rest e
  unfold Rd.andThen at e
  split at e
  · cases e
  · exact h _ _ _ _ e

theorem gives_map {r : Rd α} {f : α → β} (h : ∀ x, P (f x)) : (r.map f).Gives P := gives_andThen fun x => gives_pure (h x)

theorem gives_ite {c : Prop} [Decidable c] {r : Rd β} (h : r.Gives P) :
    Rd.Gives (if c then (fun _ => none) else r) P := by
  split
  · exact fun _ _ _ e => nomatch e
  · exact h

end Rd

section
open Rd

variable {P : Command → Prop}

theorem rdSetChannel_gives (h : ∀ ch f, P (.setChannel ch f)) : rdSetChannel.Gives P :=
  gives_andThen fun _ => gives_andThen fun _ => gives_ite (gives_andThen fun _ => gives_andThen fun _ => gives_andThen fun _ =>
    gives_andThen fun _ => gives_andThen fun _ => gives_andThen fun _ => gives_andThen fun _ => gives_andThen fun _ =>
    gives_map fun _ => h _ _)

theorem rdSetGlobal_gives (h : ∀ f, P (.setGlobal f)) : rdSetGlobal.Gives P :=
  gives_andThen fun _ => gives_ite (gives_andThen fun _ => gives_andThen fun _ => gives_andThen fun _ => gives_map fun _ => h _)

theorem rdCreateMove_gives (h : ∀ f, P (.createMove f)) : rdCreateMove.Gives P :=
  gives_andThen fun _ => gives_andThen fun _ => gives_andThen fun _ => gives_andThen fun _ => gives_andThen fun _ =>
    gives_map fun _ => h _

theorem rdStartTest_gives (h : ∀ p m d x, P (.startTest p m d x)) : rdStartTest.Gives P :=
  gives_andThen fun _ => gives_andThen fun _ => gives_andThen fun _ => gives_map fun _ => h _ _ _ _

/-- 12.3: the reader of a code reads the commands of that code alone. -/
theorem bodyReader_gives {code : Byte} {r : Rd Command} (h : bodyReader code = some r) : r.Gives (fun c => code = commandCode c) := by
  have coded {n : Nat} {c : Command} (e : code.toNat = n) (k : (commandCode c).toNat = n) : code = commandCode c :=
    BitVec.eq_of_toNat_eq (e.trans k.symm)
  unfold bodyReader at h
  split at h <;> cases h
  all_goals
    next e =>
    first
      | exact gives_pure (coded e rfl)
      | exact gives_map fun _ => coded e rfl
      | exact gives_andThen fun _ => gives_map fun _ => coded e rfl
      | exact gives_andThen fun _ => gives_andThen fun _ => gives_map fun _ => coded e rfl
      | exact rdSetChannel_gives fun _ _ => coded e rfl
      | exact rdSetGlobal_gives fun _ => coded e rfl
      | exact rdCreateMove_gives fun _ => coded e rfl
      | exact rdStartTest_gives fun _ _ _ _ => coded e rfl

end

theorem parseCommand_code {c : Command} {code : Byte} {body : List Byte} (h : parseCommand code body = .fits c) :
    code = commandCode c := by
  unfold parseCommand at h
  split at h
  · cases h
  · next r hr =>
    split at h
    · cases h
    · next c' read =>
      cases h
      unfold whole at read
      split at read
      · next e => cases read; exact bodyReader_gives hr _ _ _ e
      · cases read

/-! ## The completion of a checked frame (R178) -/

theorem takeCommand_listening {link : Console} {code : Byte} {c : Cmd} {s : State} (h : Listening link s) :
    takeCommand link code c s = answerFrame link code c s := if_pos h.2

/-- Settles O7: a checked frame is answered as the row of what it spells. -/
theorem checkedFrameIsCarriedOut : Obligations.CheckedFrameIsCarriedOut := by
  rintro link b r s listening opened n frame rfl rfl low high all right
  have row : exec (.consoleByte link b true) s = event (answerFrame link (frameType (r.bytes ++ [b]))
      (runFrame link (frameType (r.bytes ++ [b])) (frameBody (r.bytes ++ [b])))) s := by
    show event _ s = _
    rw [event_next listening.1, event_next listening.1, receive_inFrame opened, if_pos rfl,
      storeByte_complete ((r.store_lengthOk b).2 ⟨low, high⟩) ((r.store_complete b).2 all)]
    exact congrArg _ (congrArg _ (if_pos right))
  refine ⟨fun c fits => ?_, fun unknown => ?_, fun unfit => ?_⟩
  · have ran : runFrame link (frameType (r.bytes ++ [b])) (frameBody (r.bytes ++ [b])) = runCommand link c := by simp [runFrame, fits]
    rw [row, exec_commandRow, event_next listening.1, event_next listening.1, takeCommand_listening listening, ran,
      parseCommand_code fits]
  · have ran : runFrame link (frameType (r.bytes ++ [b])) (frameBody (r.bytes ++ [b])) = refuse .unknownCommand := by
      simp [runFrame, unknown]
    rw [row, ran, event_next listening.1]
    exact ((event_next listening.1).trans (by rw [takeCommand_listening listening])).symm
  · have ran : runFrame link (frameType (r.bytes ++ [b])) (frameBody (r.bytes ++ [b])) = refuse .badFormat := by
      simp [runFrame, unfit]
    rw [row, ran, event_next listening.1]
    rfl

/-! ## Notices (R181, R182) -/

/-- Settles O10: a produced notice is delivered to the link, or to each link of its category; others are not produced. -/
theorem noticesAreNumberedAndDelivered : Obligations.NoticesAreNumberedAndDelivered := by
  refine ⟨fun c b s service => ?directed, fun b k s category shown => ?category, fun b s config other => ?config⟩
  case directed =>
    have shown : produced s.part b = true := by simp [produced, service]
    refine ⟨(s.link c).deliver s.time b, by simp [notify, shown], ?_, fun room => ?_, fun full => ?_⟩
    · unfold Link.deliver; split <;> rfl
    · rw [Link.deliver, if_pos (by simpa [Config.noticeRoom] using room)]
    · rw [Link.deliver, if_neg (by simpa [Config.noticeRoom] using full)]
  case category =>
    have shown : produced s.part b = true := by
      rcases shown with service | rfl
      · simp [produced, service]
      · simp [produced, category]
    exact ⟨rfl, fun c => by rw [broadcast_link]; simp [category, shown]⟩
  case config =>
    have silent : produced s.part b = false := by simp [produced, config, other]
    refine ⟨?_, fun c => by simp [notify, silent]⟩
    unfold broadcast
    cases b.category <;> simp [silent]

end Sys2Proof.Machine

/-! PROOF. Every command is accepted, or refused with nothing changed (O9). -/

namespace Sys2Proof.Machine

set_option Elab.async false

/-- R179: a command is accepted, or is refused and leaves the state as it is. -/
def Cmd.Answers (c : Cmd) (s : State) : Prop :=
  (∃ clamped res, (c s).1 = .accepted clamped res) ∨ ∃ r d, c s = (.refused r d, s)

namespace Cmd.Answers

variable {s : State} {c : Cmd}

theorem accept (b : Bool) (x : Result) (f : State → State) : Answers (accept b x f) s := .inl ⟨b, x, rfl⟩

theorem done (f : State → State) : Answers (done f) s := accept _ _ f

theorem refuseFor (r : Reason) (d : BitVec 16) : Answers (refuseFor r d) s := .inr ⟨r, d, rfl⟩

theorem refuse (r : Reason) : Answers (refuse r) s := .inr ⟨r, 0, rfl⟩

theorem look {f : State → Cmd} (h : Answers (f s) s) : Answers (look f) s := h

theorem check {ok : Bool} {r : Reason} (h : Answers c s) : Answers (check ok r c) s := by
  cases ok with
  | true => exact h
  | false => exact refuse r

theorem need {α : Type} {x : Option α} {r : Reason} {c : α → Cmd} (h : ∀ a, Answers (c a) s) : Answers (need x r c) s := by
  cases x with
  | none => exact refuse r
  | some a => exact h a

theorem noneOf {x : Option UnitId} {r : Reason} (h : Answers c s) : Answers (noneOf x r c) s := by
  cases x with
  | none => exact h
  | some u => exact refuseFor r u

theorem moveCommand {link : Console} {b : Byte} {admits : MoveState → Bool} {c : MoveIx → Move → Cmd}
    (h : ∀ i m, Answers (c i m) s) : Answers (moveCommand link b admits c) s :=
  look (check (need fun im => check (check (h im.1 im.2))))

theorem listFrom (start : UnitId) (f : Filter) : Answers (listFrom start f) s := look (accept _ _ _)

/-- R179: every command. -/
theorem runCommand (link : Console) (c : Command) (s : State) : Answers (runCommand link c) s := by
  cases c with
  | setChannel b f => exact look (check (need fun _ => check (check (accept _ _ _))))
  | setGlobal f => exact look (check (check (check (accept _ _ _))))
  | loadPattern b rep steps => exact look (need fun _ => check (check (accept _ _ _)))
  | enterService =>
    refine look (check ?_)
    split
    · exact refuseFor _ _
    · exact done _
  | restart => exact look (check (done _))
  | createMove f =>
    refine look (check (need fun _ => need fun _ => check (check (check (noneOf (noneOf (noneOf (noneOf ?_))))))))
    unfold checkController
    split
    · exact need fun _ => check (noneOf (accept _ _ _))
    · exact check (accept _ _ _)
  | addMember b u =>
    show Answers (cmdAddMember link b u) s
    unfold cmdAddMember
    exact look (moveCommand fun _ _ => check (need fun _ => check (check (check (check (done _))))))
  | removeMember b u => exact moveCommand fun _ _ => check (check (check (check (done _))))
  | setController b u => exact moveCommand fun _ _ => need fun _ => need fun _ => check (done _)
  | moveChannel b ch =>
    show Answers (cmdMoveChannel link b ch) s
    unfold cmdMoveChannel
    exact look (moveCommand fun _ _ => check (need fun _ => check (noneOf (done _))))
  | releaseMove b => exact moveCommand fun _ _ => done _
  | takeMove b => exact look (check (need fun _ => done _))
  | reinstate b => exact moveCommand fun _ _ => done _
  | talkRequest ch cls => exact look (check (need fun _ => need fun _ => check (done _)))
  | talkEnd ch => exact look (check (need fun _ => check (done _)))
  | play ch pat mode =>
    refine look (check (need fun _ => need fun _ => check ?_))
    split
    · exact look (check (accept _ _ _))
    · split
      · exact look (check (check (done _)))
      · exact refuse _
  | swapPort ch => exact look (check (need fun _ => check (check (need fun _ => accept _ _ _))))
  | isolatePort p => exact look (need fun _ => done _)
  | restorePort p => exact look (need fun _ => check (done _))
  | startTest p m d r =>
    refine look (check (need fun _ => check (need fun mode => look ?_)))
    split
    · exact refuse _
    · exact check (need fun _ => check (check (accept _ _ _)))
    · exact accept _ _ _
  | stopTest p => exact look (need fun _ => need fun _ => done _)
  | insertError p => exact look (need fun _ => need fun _ => check (done _))
  | readMove m => exact look (need fun _ => accept _ _ _)
  | readUnit u => exact look (check (accept _ _ _))
  | listUnits start filter move =>
    show Answers (cmdListUnits start filter move) s
    unfold cmdListUnits
    split
    iterate 2 exact listFrom _ _
    · exact need fun _ => listFrom _ _
    · exact refuse _
  | readFloor ch => exact look (need fun _ => accept _ _ _)
  | readPort p => exact look (need fun _ => accept _ _ _)
  | readTest p => exact look (need fun _ => need fun _ => accept _ _ _)
  | readConditions => exact look (accept _ _ _)
  | readTime => exact look (accept _ _ _)
  | subscribe mask => exact check (accept _ _ _)

end Cmd.Answers

/-- Settles O9: the answers of the commands, which add nothing to the response queues of their own (`Roomy.command`), and the code
under which each is read. -/
theorem refusedCommandsChangeNothing : Obligations.RefusedCommandsChangeNothing := by
  refine ⟨fun link c s listening => ?_, fun c code body => parseCommand_code⟩
  refine ⟨(runCommand link c (hunt link s)).1, (runCommand link c (hunt link s)).2, ?_, fun l => ?_, fun cause => ?_,
    fun reason detail refused => ?_⟩
  · rw [exec_commandRow, command_row listening]
  · rw [((Roomy.command link c (hunt link s)).links l).responses]
    by_cases own : l = link
    · subst own; exact hunt_listening _ _
    · rw [hunt_link_ne link s own]
  · rcases Cmd.Answers.runCommand link c (hunt link s) with ⟨_, _, h⟩ | ⟨_, _, h⟩ <;> simp [h]
  · rcases Cmd.Answers.runCommand link c (hunt link s) with ⟨_, _, h⟩ | ⟨_, _, h⟩
    · cases h.symm.trans refused
    · rw [h]

end Sys2Proof.Machine

/-! PROOF. The commands that report and change nothing (O11, O12). -/

namespace Sys2Proof.Machine

set_option Elab.async false

/-- R178: the row of a command on a listening link answers with what the command does. -/
theorem exec_listening {link : Console} {c : Command} {s u : State} {a : Answer} (h : Listening link s)
    (e : runCommand link c (hunt link s) = (a, u)) : exec (commandRow link c) s = answeredWith link (commandCode c) a u := by
  rw [exec_commandRow, command_row h, e]

theorem answered_of_eq {link : Console} {code : Byte} {a b : Answer} {t u : State} (h : a = b) (k : t = u) :
    answeredWith link code a t = answeredWith link code b u := by rw [h, k]

/-! ## READ_TIME, READ_MOVE, READ_FLOOR, READ_PORT and READ_TEST -/

/-- R56: the rank of an entry by its class. -/
theorem rank_eq (now : Time) (ageStep : Nat) (e : Entry) : rank now ageStep e = match e.cls with
    | .routine => min 15 (elapsed now e.arrival / ageStep)
    | .work => 10 + min 15 (elapsed now e.arrival / ageStep)
    | .urgent => 30 + min 15 (elapsed now e.arrival / ageStep)
    | .emergency => 60 := by
  unfold rank
  cases e.cls <;> simp [TalkClass.base, ageCredit]

theorem filter_own (a : Option Chan) : allChans.filter (fun ch => a == some ch) = a.toList := by revert a; decide

/-- R152: a port that at most one channel has is reported with that channel. -/
theorem assigned_eq {s : State} {p : Port} {a : Option Chan} (h : ∀ ch, (s.chan ch).port = some p ↔ a = some ch) : assigned s p = a := by
  have own : assignedTo s p = a.toList := by
    rw [← filter_own a]
    refine List.filter_congr fun ch _ => ?_
    rw [Bool.eq_iff_iff, beq_iff_eq, beq_iff_eq]
    exact h ch
  unfold assigned
  rw [own]
  cases a <;> rfl

theorem namedMove_eq {b : Byte} {i : MoveIx} {m : Move} {s : State} (named : b.toNat = i.val + 1) (hm : s.move i = some m) :
    (moveOf b).bind (fun i => (s.move i).map (fun m => (i, m))) = some (i, m) := by
  simp [moveOf_eq named, hm]

/-- Settles O11: each command reads the fields that it reports. -/
theorem readsReportAndChangeNothing : Obligations.ReadsReportAndChangeNothing := by
  intro link s listening
  refine ⟨?time, fun b i m named hm => ?move, fun b ch named => ?floor, fun b p a named own => ?port, fun b p t named ht => ?test⟩
  case time => exact exec_listening (c := .readTime) listening (by simp [runCommand, cmdReadTime, look_apply, accept_apply])
  case move =>
    refine exec_listening (c := .readMove b) listening ?_
    rw [runCommand, cmdReadMove, look_apply, namedMove_eq named (by simpa using hm), need_some, accept_apply]
    rfl
  case floor =>
    refine exec_listening (c := .readFloor b) listening ?_
    rw [runCommand, cmdReadFloor, look_apply, chanOf_eq named, need_some, accept_apply]
    simp only [hunt_floor, hunt_time, hunt_chan, id, funext (rank_eq s.time (s.chan ch).ageStep)] <;> rfl
  case port =>
    refine exec_listening (c := .readPort b) listening ?_
    rw [runCommand, cmdReadPort, look_apply, portOf_eq named, need_some, accept_apply, assigned_eq (a := a) (by simpa using own)]
    simp only [hunt_port, restorationDue, id]
    rfl
  case test =>
    refine exec_listening (c := .readTest b) listening ?_
    rw [runCommand, cmdReadTest, look_apply, portOf_eq named, need_some, hunt_testOf, ht, need_some, accept_apply]
    rfl

/-! ## READ_UNIT -/

theorem mem_allSlots (i : SlotIx) : i ∈ allSlots := by revert i; decide

theorem slotOf_isSome {s : State} {u : UnitId} : (slotOf s u).isSome = true ↔ ∃ i sl, s.slot i = some sl ∧ sl.unit = u := by
  unfold slotOf
  rw [List.findSome?_isSome_iff]
  constructor
  · rintro ⟨i, -, h⟩
    simp only [Option.isSome_map, Option.isSome_filter, Option.any_eq_true, beq_iff_eq] at h
    exact ⟨i, h⟩
  · rintro ⟨i, sl, hsl, own⟩
    exact ⟨i, mem_allSlots i, by simp [hsl, own]⟩

theorem quietExpiry_isSome {s : State} {u : UnitId} : (quietExpiry s u).isSome = true ↔ ∃ q ∈ s.quiet, q.unit = u := by
  simp [quietExpiry, List.find?_isSome]

/-- R121: READ_UNIT on the state without the framer is READ_UNIT on the state. -/
theorem readUnit_hunt (link : Console) (u : UnitId) (s : State) : cmdReadUnit u (hunt link s) =
    check (isUnitId u && ((s.unit u).isSome || (slotOf s u).isSome || (quietExpiry s u).isSome)) .unitUnknown (accept false
      (.unitRecord ((s.unit u).map (fun r => (r, r.agingExpiry s.time s.globals.ageOut))) (slotOf s u) (quietExpiry s u)) id)
      (hunt link s) := by
  have slot : slotOf (hunt link s) u = slotOf s u := by simp [slotOf]
  have quiet : quietExpiry (hunt link s) u = quietExpiry s u := by simp [quietExpiry]
  rw [cmdReadUnit, look_apply, slot, quiet]
  simp

/-! ## LIST_UNITS -/

theorem insertUnit_perm (r : UnitRec) (us : List UnitRec) : (insertUnit r us).Perm (r :: us) := by
  induction us with
  | nil => exact .refl _
  | cons x xs ih =>
    unfold insertUnit
    split
    · exact .refl _
    · exact (ih.cons x).trans (.swap _ _ _)

theorem byUnit_perm (us : List UnitRec) : (byUnit us).Perm us := by
  induction us with
  | nil => exact .refl _
  | cons x xs ih => exact (insertUnit_perm x _).trans (ih.cons x)

theorem insertUnit_pairwise {r : UnitRec} {us : List UnitRec} (h : us.Pairwise (fun a b => a.unit.toNat ≤ b.unit.toNat)) :
    (insertUnit r us).Pairwise (fun a b => a.unit.toNat ≤ b.unit.toNat) := by
  induction us with
  | nil => simp [insertUnit]
  | cons x xs ih =>
    obtain ⟨least, rest⟩ := List.pairwise_cons.1 h
    unfold insertUnit
    split
    · next low =>
      refine List.pairwise_cons.2 ⟨fun y hy => ?_, h⟩
      rcases List.mem_cons.1 hy with rfl | hy
      · exact low
      · exact low.trans (least y hy)
    · next high =>
      refine List.pairwise_cons.2 ⟨fun y hy => ?_, ih rest⟩
      rcases List.mem_cons.1 ((insertUnit_perm r xs).mem_iff.1 hy) with rfl | hy
      · exact (Nat.lt_of_not_le high).le
      · exact least y hy

/-- R119, R120: in ascending order of unit ID. -/
theorem byUnit_pairwise (us : List UnitRec) : (byUnit us).Pairwise (fun a b => a.unit.toNat ≤ b.unit.toNat) := by
  induction us with
  | nil => exact .nil
  | cons x xs ih => exact insertUnit_pairwise ih

/-- R120: the response lists the records that pass, from the starting ID as it was clamped. -/
theorem listFrom_eq (start : UnitId) (f : Filter) (s : State) : ∃ us : List UnitRec,
    us.Pairwise (fun a b => a.unit.toNat ≤ b.unit.toNat) ∧
    us.Perm (s.units.filter (fun r => decide (min 0xFFEF start.toNat ≤ r.unit.toNat) && f.passes r)) ∧
    listFrom start f s = (.accepted (decide (0xFFEF < start.toNat)) (.unitList
      ((us.take 24).map (fun r => ⟨r.unit, r.kind, r.level, r.binding, r.current⟩)) (decide (24 < us.length))
      s.units.length (s.units.filter (fun r => r.binding.isSome)).length), s) := by
  have clamped : clamp 0 0xFFEF start.toNat = (min 0xFFEF start.toNat, decide (0xFFEF < start.toNat)) := by
    unfold clamp
    split
    · omega
    · split
      · next above => simp only [Prod.mk.injEq, decide_eq_true above, and_true]; omega
      · next within => simp only [Prod.mk.injEq, decide_eq_false within, and_true]; omega
  refine ⟨listed s.units (min 0xFFEF start.toNat) f, (byUnit_pairwise _).filter _, (byUnit_perm _).filter _, ?_⟩
  unfold listFrom
  rw [look_apply, accept_apply, clamped]
  rfl

/-- Settles O12: what READ_UNIT finds of a unit, and the records that LIST_UNITS puts in order. -/
theorem registerReadsReportAndChangeNothing : Obligations.RegisterReadsReportAndChangeNothing := by
  intro link s listening
  refine ⟨fun u => ⟨fun valid known => ?report, fun unknown => ?refuse⟩, fun start filter move pass chosen => ?list,
    fun start b bad => ?move⟩
  case report =>
    have found : (isUnitId u && ((s.unit u).isSome || (slotOf s u).isSome || (quietExpiry s u).isSome)) = true := by
      simpa only [Bool.and_eq_true, Bool.or_eq_true, slotOf_isSome, quietExpiry_isSome, or_assoc] using ⟨valid, known⟩
    exact exec_listening (c := .readUnit u) listening (by simp [runCommand, readUnit_hunt, found, check_apply, accept_apply])
  case refuse =>
    have missing : (isUnitId u && ((s.unit u).isSome || (slotOf s u).isSome || (quietExpiry s u).isSome)) = false := by
      rw [← Bool.not_eq_true]
      simp only [Bool.and_eq_true, Bool.or_eq_true, slotOf_isSome, quietExpiry_isSome]
      rintro ⟨valid, (known | ⟨i, sl, hsl, own⟩) | ⟨q, hq, own⟩⟩ <;> rcases unknown with invalid | ⟨none, free, loud⟩
      · simp [invalid] at valid
      · simp [none] at known
      · simp [invalid] at valid
      · exact free i sl hsl own
      · simp [invalid] at valid
      · exact loud q hq own
    exact exec_listening (c := .readUnit u) listening (by simp [runCommand, readUnit_hunt, missing, check_apply])
  case list =>
    obtain ⟨f, agrees, taken⟩ : ∃ f : Filter, (∀ r, f.passes r = pass r) ∧ cmdListUnits start filter move = listFrom start f := by
      rcases chosen with ⟨rfl, rfl, all⟩ | ⟨rfl, rfl, unbound⟩ | ⟨b, i, rfl, rfl, named, bound⟩
      · exact ⟨.all, fun r => (all r).symm, rfl⟩
      · refine ⟨.unbound, fun r => ?_, rfl⟩
        rw [Bool.eq_iff_iff, unbound]
        exact Option.isNone_iff_eq_none
      · refine ⟨.move i, fun r => ?_, ?_⟩
        · rw [Bool.eq_iff_iff, bound]
          exact beq_iff_eq
        · show need (moveOf b) _ _ = _
          rw [moveOf_eq named, need_some]
    obtain ⟨us, order, records, answer⟩ := listFrom_eq start f (hunt link s)
    refine ⟨us, order, by simpa only [hunt_units, agrees] using records, exec_listening (c := .listUnits start filter move) listening ?_⟩
    rw [runCommand, taken, answer]
    simp
  case move =>
    have unknown : moveOf b = none := dif_neg (by omega)
    exact exec_listening (c := .listUnits start 2 (some b)) listening
      (show need (moveOf b) _ _ _ = _ by rw [unknown, need_none, refuse_apply])

end Sys2Proof.Machine

/-! PROOF. The parameters of a channel and of a tone pattern: clamping, rounding and the tone dividers (O14, O41). -/

namespace Sys2Proof.Machine

set_option Elab.async false

/-- R178: the row of an accepted command on a listening link. -/
theorem exec_accepted {link : Console} {c : Command} {clamped : Bool} {r : Result} {s u : State} (h : Listening link s)
    (e : runCommand link c (hunt link s) = (.accepted clamped r, u)) :
    exec (commandRow link c) s = answeredWith link (commandCode c) (.accepted clamped r) u := exec_listening h e

/-! ## Clamping (0.6.4, R190) -/

theorem clamp_fst {lo hi : Nat} (range : lo ≤ hi) (n : Nat) : (clamp lo hi n).1 = min hi (max lo n) := by
  unfold clamp
  split_ifs <;> dsimp only <;> omega

theorem clamp_snd (lo hi n : Nat) : (clamp lo hi n).2 = true ↔ n < lo ∨ hi < n := by
  unfold clamp
  split_ifs <;> simp_all

/-- R190: a field that is present is clamped, and rounded down to a multiple of its step. -/
theorem clampField_fst {α : Type} {lo hi : Nat} (range : lo ≤ hi) (step old : Nat) (f : α → Nat) (v : Option α) :
    (clampField lo hi step old (v.map f)).1 = match v with
      | none => old
      | some x => min hi (max lo (f x)) - min hi (max lo (f x)) % step := by
  cases v with
  | none => rfl
  | some x =>
    show (clamp lo hi (f x)).1 / step * step = _
    rw [clamp_fst range, Nat.div_mul_self_eq_mod_sub_self]

theorem fieldClamped_iff {α : Type} (lo hi : Nat) (f : α → Nat) (v : Option α) :
    fieldClamped lo hi (v.map f) = true ↔ ∃ x, v = some x ∧ (f x < lo ∨ hi < f x) := by
  cases v <;> simp [fieldClamped, clamp_snd]

/-! ## SET_CHANNEL -/

/-- R190: an assigned port is a port's number, or 0xFF for none. -/
theorem assignedPortOf_none : assignedPortOf 0xFF#8 = some none := rfl

theorem assignedPortOf_some {v : Byte} {p : Port} (h : v.toNat = p.val) : assignedPortOf v = some (some p) := by
  have other : v ≠ 0xFF#8 := by
    rintro rfl
    have := p.isLt
    simp at h
    omega
  simp [assignedPortOf, other, portOf_eq h]

theorem assignedPortOf_isSome {v : Byte} (h : v.toNat ≤ 6 ∨ v = 0xFF#8) : (assignedPortOf v).isSome = true := by
  rcases h with port | rfl
  · rw [assignedPortOf_some (p := ⟨v.toNat, by omega⟩) rfl]
    rfl
  · rfl

/-- Settles O14: the fields one by one. -/
theorem setChannelAppliesItsFields : Obligations.SetChannelAppliesItsFields := by
  intro link b ch f s listening named flag port open_
  refine ⟨channelClamped f, (s.chan ch).withFields f, ?taken, ?inUse, ?kept, ?none, ?given, ?freq, ?age, ?hang, ?routine, ?work,
    ?urgent, ?queue, ?clamped⟩
  case taken =>
    refine exec_accepted (c := .setChannel b f) listening ?_
    have flagged : flagOk f.inUse = true := by
      cases h : f.inUse with
      | none => rfl
      | some v => simpa [flagOk] using flag v h
    have assigned : f.port.all (fun p => (assignedPortOf p).isSome) = true := by
      rw [Option.all_eq_true]
      exact fun v h => assignedPortOf_isSome (port v h)
    have allowed : ((hunt link s).part == .config || !structural f) = true := by
      rcases open_ with config | ⟨inUse, port, freq⟩
      · simp [config]
      · simp [structural, inUse, port, freq]
    rw [runCommand, cmdSetChannel, look_apply, check_apply, if_pos flagged, chanOf_eq named, need_some, check_apply,
      if_pos assigned, check_apply, if_pos allowed, accept_apply]
    simp
  case inUse => cases h : f.inUse <;> simp [ChannelConfig.withFields, h]
  case kept => intro h; simp [ChannelConfig.withFields, h]
  case none => intro h; simp [ChannelConfig.withFields, h, assignedPortOf_none]
  case given => intro v p h named; simp [ChannelConfig.withFields, h, assignedPortOf_some named]
  case freq => exact (clampField_fst (by decide : 0 ≤ 4095) ..).trans (by cases f.freq <;> simp [Nat.mod_one])
  case age => exact (clampField_fst (by decide : 500 ≤ 8000) ..).trans (by cases f.ageStep <;> rfl)
  case hang => exact (clampField_fst (by decide : 0 ≤ 10000) ..).trans (by cases f.hangMs <;> simp [Nat.mod_one])
  case routine => exact (clampField_fst (by decide) ..).trans (by cases f.routineLimit <;> simp [Nat.mod_one]; omega)
  case work => exact (clampField_fst (by decide) ..).trans (by cases f.workLimit <;> simp [Nat.mod_one]; omega)
  case urgent => exact (clampField_fst (by decide) ..).trans (by cases f.urgentLimit <;> simp [Nat.mod_one]; omega)
  case queue => exact (clampField_fst (by decide) ..).trans (by cases f.queueTimeout <;> simp [Nat.mod_one])
  case clamped =>
    have byte (v : Byte) : ¬ 255 < v.toNat := by omega
    simp [channelClamped, fieldClamped_iff, byte, or_assoc]

/-! ## LOAD_PATTERN -/

/-- R163: the period count of a clamped frequency lies in the twelve bits of the divider. -/
theorem periodCount_bounds {f : Nat} (low : 300 ≤ f) (high : f ≤ 3000) : 410 ≤ periodCount f ∧ periodCount f ≤ 4096 := by
  unfold periodCount Config.halfToneClock
  constructor
  · rw [Nat.le_div_iff_mul_le (by omega)]
    omega
  · rw [← Nat.lt_succ_iff, Nat.div_lt_iff_lt_mul (by omega)]
    omega

/-- R163: the divider counts the periods. -/
theorem periodCount_of_divider {f : Nat} (low : 300 ≤ f) (high : f ≤ 3000) : 4096 - toneDivider f = periodCount f := by
  have := periodCount_bounds low high
  unfold toneDivider
  omega

/-- R163: the period count is 1,228,800 / f, rounded to the nearest, a half upwards. -/
theorem periodCount_nearest {f : Nat} (positive : 0 < f) :
    2 * periodCount f * f ≤ 2 * 1228800 + f ∧ 2 * 1228800 < 2 * periodCount f * f + f := by
  have whole := Nat.div_add_mod (2 * 1228800 + f) (2 * f)
  have part := Nat.mod_lt (2 * 1228800 + f) (y := 2 * f) (by omega)
  have same : 2 * periodCount f * f = 2 * f * ((2 * 1228800 + f) / (2 * f)) := by
    unfold periodCount Config.halfToneClock
    ring
  omega

/-- R164: the frequency of a step is clamped. -/
theorem stepOf_freq (f : StepField) : 300 ≤ (stepOf f).freq ∧ (stepOf f).freq ≤ 3000 := clamp_bounds (by decide) _

theorem stepClamped_iff (f : StepField) : stepClamped f = true ↔
    f.freq.toNat < 300 ∨ 3000 < f.freq.toNat ∨ f.duration.toNat < 1 ∨ 15 < f.level.toNat := by
  have byte : ¬ 255 < f.duration.toNat := by omega
  simp [stepClamped, clamp_snd, byte, or_assoc]

/-- Settles O41: the steps one by one. -/
theorem loadPatternDefinesThePattern : Obligations.LoadPatternDefinesThePattern := by
  intro link b rep pat steps s listening named some8 most8 unused
  refine ⟨(clamp 1 15 rep.toNat).2 || steps.any stepClamped, patternFrom rep steps, ?taken, clamp_fst (by decide) _, ?steps, ?dividers,
    ?clamped⟩
  case taken =>
    refine exec_accepted (c := .loadPattern b rep steps) listening ?_
    have counted : (decide (1 ≤ steps.length) && decide (steps.length ≤ 8)) = true := by simp [some8, most8]
    have idle : (!patternBusy (hunt link s) pat) = true := by
      rw [patternBusy, Bool.not_eq_true', List.any_eq_false]
      intro ch _
      obtain ⟨playing, waiting⟩ := unused ch
      simpa [Option.any_eq_false] using ⟨playing, waiting⟩
    have reported : (steps.map stepOf).map (fun st => (st.divider, reportedFrequency st.freq)) =
        (steps.map stepOf).map (fun st => (st.divider, 122880000 / (4096 - st.divider))) := by
      simp only [List.map_map]
      refine List.map_congr_left fun f _ => ?_
      have count : 4096 - (stepOf f).divider = _ := periodCount_of_divider (stepOf_freq f).1 (stepOf_freq f).2
      simp only [Function.comp_apply, count]
      rfl
    rw [runCommand, cmdLoadPattern, look_apply, patternOf_eq named, need_some, check_apply, if_pos counted, check_apply, if_pos idle,
      accept_apply, reported]
    simp only [hunt_patterns]
    rfl
  case steps =>
    show (steps.map stepOf).map _ = _
    simp only [List.map_map]
    refine List.map_congr_left fun f _ => ?_
    simp only [Function.comp_apply, stepOf, Prod.mk.injEq, clamp_fst (by decide : 300 ≤ 3000), clamp_fst (by decide : 1 ≤ 255),
      clamp_fst (by decide : 0 ≤ 15), Nat.zero_max, true_and, and_true]
    omega
  case dividers =>
    intro st hst
    obtain ⟨f, -, rfl⟩ := List.mem_map.1 hst
    obtain ⟨low, high⟩ := stepOf_freq f
    have count : 4096 - (stepOf f).divider = periodCount (stepOf f).freq := periodCount_of_divider low high
    have range : 410 ≤ periodCount (stepOf f).freq ∧ _ := periodCount_bounds low high
    exact ⟨by omega, by rw [count]; exact periodCount_nearest (by omega)⟩
  case clamped => simp [clamp_snd, stepClamped_iff, or_assoc]

end Sys2Proof.Machine

/-! PROOF. Supervision: presence, the stop hold, the timers of a running move, resume and handover (O27, O28, O30, O31). -/

namespace Sys2Proof.Machine

set_option Elab.async false

/-! ## The time last heard (R118, R133) -/

@[simp] theorem refresh_time (u : UnitId) (s : State) : (refresh u s).time = s.time := rfl
@[simp] theorem refresh_part (u : UnitId) (s : State) : (refresh u s).part = s.part := rfl
@[simp] theorem refresh_moves (u : UnitId) (s : State) : (refresh u s).moves = s.moves := rfl
@[simp] theorem refresh_floors (u : UnitId) (s : State) : (refresh u s).floors = s.floors := rfl
@[simp] theorem refresh_move (u : UnitId) (s : State) (i : MoveIx) : (refresh u s).move i = s.move i := rfl
@[simp] theorem refresh_floor (u : UnitId) (s : State) (ch : Chan) : (refresh u s).floor ch = s.floor ch := rfl
@[simp] theorem refresh_chan (u : UnitId) (s : State) (ch : Chan) : (refresh u s).chan ch = s.chan ch := rfl
@[simp] theorem refresh_link (u : UnitId) (s : State) (c : Console) : (refresh u s).link c = s.link c := rfl
@[simp] theorem refresh_frames (u : UnitId) (s : State) (ch : Chan) : (refresh u s).frames ch = s.frames ch := rfl
@[simp] theorem refresh_generator (u : UnitId) (s : State) (ch : Chan) : (refresh u s).generator ch = s.generator ch := rfl
@[simp] theorem refresh_port (u : UnitId) (s : State) (p : Port) : (refresh u s).port p = s.port p := rfl

/-- R118: the record of a unit after it was heard. -/
theorem refresh_unit (u x : UnitId) (s : State) :
    (refresh u s).unit x = (s.unit x).map (fun r => if x = u then { r with lastHeard := s.time } else r) := by
  rw [refresh, modUnit_unit]
  split
  · rfl
  · cases s.unit x <;> rfl

theorem refresh_currentOf (u x : UnitId) (s : State) : (refresh u s).currentOf x = s.currentOf x := by
  simp only [State.currentOf, refresh_unit]
  cases s.unit x with
  | none => rfl
  | some r => by_cases h : x = u <;> simp [h]

/-! ## The frames of the members of RC moves (R73) -/

/-- R73: a supervision frame of a member is taken for its move. -/
theorem arrives_sender {p : Port} {ch : Chan} {src : UnitId} {i : MoveIx} {m : Move} {s : State} (at_ : Arrives p ch src s)
    (sends : SendsFor src i m s) (f : MoveIx → Move → State → State) :
    event (arrives p src (fun _ => forMove src f)) s = .next (settle (f i m (refresh src s))) := by
  obtain ⟨bound, hm, rc⟩ := sends
  rw [arrives_event at_]
  have sender : (refresh src s).moveOf src = some (i, m) := by
    simp [State.moveOf, refresh_bindingOf, bound, hm]
  have taken : forMove src f (refresh src s) = f i m (refresh src s) := by
    rw [forMove, sender, whenSome_some]
    exact if_pos rc
  rw [taken]

theorem next_settle_of_eq {t u : State} (h : t = u) : (Host.Outcome.next (settle t) : Host.Outcome State Fault Refusal) =
    .next (settle u) := by rw [h]

/-- Settles O27, by the state of the move. -/
theorem presenceWindow : Obligations.PresenceWindow := by
  intro p ch src mv i m s at_ sends
  have row : exec (.presence p src mv) s = _ := arrives_sender at_ sends _
  rw [row]
  refine ⟨fun own active => ?early, fun own active => ?window, fun own held => ?noted, fun other => ?nothing⟩
  case early =>
    rintro ⟨d, closed, before⟩
    refine next_settle_of_eq ?_
    simp [own, active, Move.tooEarly, closed, before]
  case window =>
    intro after_
    have late : m.tooEarly s.time = false := by
      unfold Move.tooEarly
      split
      · rfl
      · next d closed => simp [after_ d closed]
    refine next_settle_of_eq (Eq.trans (b := setMove i (some (m.newWindow s.time)) (refresh src s)) ?_ rfl)
    simp only [own, if_true, active, refresh_time, late, Bool.false_eq_true, if_false]
  case noted =>
    refine next_settle_of_eq ?_
    simp only [own, if_true, held]
    rfl
  case nothing =>
    refine next_settle_of_eq ?_
    split
    · next own =>
      rcases other with other | ⟨moving, unheld⟩
      · exact absurd own other
      · cases h : m.state <;> simp_all
    · rfl

/-! ## The end of a stop hold (R86, R89, R91) -/

/-- R91: a hold with suspension pending ends in SUSPENDED. -/
theorem endHold_suspends {i : MoveIx} {m : Move} {s : State} (hm : s.move i = some m) (pending : m.suspensionPending = true) :
    endHold i s = notify m.console (.moveSuspended i m.faultCount m.lastFault m.presenceNoted)
      { s with moves := s.moves.put i (some { m with state := .suspended }) } := by
  simp only [endHold, hm, if_pos pending]
  rfl

/-- R86, R89: any other hold ends in RECOVERY, with an offer to the controller. -/
theorem endHold_recovers {i : MoveIx} {m : Move} {c : UnitId} {s : State} (hm : s.move i = some m)
    (pending : m.suspensionPending = false) (control : m.controller = some c) :
    endHold i s = notify m.console (.moveRecovery i m.presenceNoted) (placeFrame (s.currentOf c) ⟨c, .resumeOffer i⟩
      { s with moves := s.moves.put i (some { m with
          state := .recovery, windowStart := some s.time, closedEnd := none, deadline := none, repeats := 0 }) }) := by
  have kept : ¬ m.suspensionPending = true := by simp [pending]
  simp only [endHold, hm, if_neg kept, startOffers, setMove_move_self, control]
  simp only [setMove, Tab.put_put]
  rfl

theorem minimumRun_iff {m : Move} {t0 : Time} (now : Time) (held : m.holdStart = some t0) :
    m.minimumRun now = decide (3000 ≤ elapsed now t0) := by simp [Move.minimumRun, held]

/-- Settles O28: the STOP_ACK is noted in the record, and `endHold` ends a hold that has run for its time. -/
theorem stopHoldEnds : Obligations.StopHoldEnds := by
  intro p ch src mv i m t0 c s at_ sends own held start control
  have row : exec (.stopAck p src mv) s = .next (settle (confirmStop i m (refresh src s))) := by
    refine (arrives_sender at_ sends _).trans (next_settle_of_eq ?_)
    simp [own, held]
  rw [row]
  have stays : (refresh src s).currentOf c = s.currentOf c := refresh_currentOf _ _ _
  refine ⟨fun first short => ?short, fun again => ?again, fun first long pending => ?suspended, fun first long pending => ?recovery⟩ <;>
    refine next_settle_of_eq ?_
  case short =>
    have running : ¬ 3000 ≤ elapsed s.time t0 := by omega
    simp only [confirmStop, first, minimumRun_iff _ start, refresh_time, running, decide_false, Bool.false_eq_true, if_false]
    rfl
  case again => simp [confirmStop, again]
  case suspended =>
    simp only [confirmStop, first, minimumRun_iff _ start, refresh_time, long, decide_true, Bool.false_eq_true, if_false, if_true]
    rw [endHold_suspends (m := { m with stopAckSeen := true }) (setMove_move_self _ _ _) pending]
    simp [setMove]
  case recovery =>
    simp only [confirmStop, first, minimumRun_iff _ start, refresh_time, long, decide_true, Bool.false_eq_true, if_false, if_true]
    rw [endHold_recovers (m := { m with stopAckSeen := true }) (setMove_move_self _ _ _) pending control]
    simp only [setMove_currentOf, stays]
    simp [setMove]

/-! ## The timers -/

theorem moveTimer_next {i : MoveIx} {m : Move} {s : State} (awake : s.resetLine = false) (hm : s.move i = some m)
    (f : Move → State → State) : moveTimer i f s = .next (settle (f m s)) := by
  rw [moveTimer, event_next awake, hm, whenSome_some]

/-- Settles O30, timer by timer. -/
theorem supervisionTimers : Obligations.SupervisionTimers := by
  intro i m t0 s awake hm
  refine ⟨fun active start run => ?clean, fun held unseen start => ⟨fun due => ?order, fun unsent due => ?mark, fun sent => ?once⟩,
    fun d active deadline due => ?window, fun held seen start run => ⟨fun pending => ?suspended, fun c pending control => ?recovery⟩,
    fun h offered due => ?lapse, fun c recovering start control due => ?offer⟩ <;>
    refine (moveTimer_next awake hm _).trans (next_settle_of_eq ?_)
  case clean =>
    rw [if_pos ⟨active, by simp [start, run]⟩]
    rfl
  case order =>
    rw [if_pos ⟨held, unseen⟩, start]
    exact expiry_reached due
  case mark =>
    rw [if_pos ⟨held, unseen, unsent⟩, start]
    exact expiry_reached due
  case once => rw [if_neg (by simp [sent])]
  case window =>
    rw [if_pos active, deadline]
    exact expiry_reached due
  case suspended =>
    rw [if_pos ⟨held, seen, by simp [minimumRun_iff _ start, run]⟩]
    exact endHold_suspends hm pending
  case recovery =>
    rw [if_pos ⟨held, seen, by simp [minimumRun_iff _ start, run]⟩]
    exact endHold_recovers hm pending control
  case lapse =>
    rw [offered, whenSome_some]
    exact expiry_reached due
  case offer =>
    rw [if_pos recovering, start]
    refine (expiry_reached due).trans ?_
    rw [control]
    rfl

/-! ## Resumption and handover -/

/-- R2: CONTROL_ASSIGNED goes to the two controllers in the order of the members. -/
theorem assignControl_eq {i : MoveIx} {m : Move} {former new first second : UnitId} (s : State)
    (hfirst : first = if m.units.idxOf new < m.units.idxOf former then new else former)
    (hsecond : second = if m.units.idxOf new < m.units.idxOf former then former else new) :
    assignControl i m former new s = placeFrame (s.currentOf second) ⟨second, .controlAssigned i new⟩
      (placeFrame (s.currentOf first) ⟨first, .controlAssigned i new⟩ s) := by
  have order : m.controlOrder former new = [first, second] := by
    rw [Move.controlOrder, hfirst, hsecond]
    split <;> rfl
  show forEach _ _ s = _
  rw [order]
  show orderTo second _ (orderTo first _ s) = _
  rw [orderTo, orderTo_currentOf]
  rfl

/-- Settles O31, frame by frame. -/
theorem resumeAndHandover : Obligations.ResumeAndHandover := by
  intro p ch src mv i m c s at_ sends control
  have rc : m.isRC = true := sends.2.2
  refine ⟨fun own recovering => ?resume, fun x own active other joined => ?offer, fun h first second offered target active hfirst hsecond => ?take⟩ <;>
    refine (arrives_sender at_ sends _).trans (next_settle_of_eq ?_)
  case resume =>
    rw [if_pos ⟨by rw [control, own], recovering⟩, Move.becomesActive, if_pos rc]
    rfl
  case offer =>
    have offers : m.offersTo x = true := by
      obtain ⟨e, he, unit, in_⟩ := joined
      simp only [Move.offersTo, control, Bool.and_eq_true, bne_iff_ne, ne_eq, Option.some.injEq, List.any_eq_true, beq_iff_eq]
      exact ⟨fun same => other same.symm, e, he, unit, in_⟩
    rw [if_pos ⟨by rw [control, own], active, offers⟩, orderTo, setMove_currentOf, refresh_currentOf]
    rfl
  case take =>
    have former : m.controller.getD 0 = c := by rw [control]; rfl
    rw [if_pos ⟨active, by simp [offered, target]⟩, former, assignControl_eq _ hfirst hsecond]
    simp only [setMove_currentOf, refresh_currentOf]
    rfl

end Sys2Proof.Machine

/-! PROOF. A party without a claim on a channel (`Unclaimed`): what cancels its claims, and that nothing which frees floors gives it
one again; the release of a move (O23, O29). -/

namespace Sys2Proof.Machine

set_option Elab.async false

/-! ## Records of states -/

/-- What an event of the moves leaves alone, as the statements write it. -/
theorem Only.moveFields_eq {s u : State} (h : Only moveFields s u) : u = { s with
    moves := u.moves, units := u.units, floors := u.floors, downlink := u.downlink, generators := u.generators
    links := u.links, ports := u.ports, sent := u.sent } :=
  State.eq_of_fields h.time h.part h.resetLine h.channels h.globals rfl rfl rfl rfl h.slots h.quiet rfl h.tests h.sequences
    h.patterns rfl rfl rfl h.pending

theorem Only.superviseFields_eq {s u : State} (h : Only superviseFields s u) : u = { s with
    moves := u.moves, floors := u.floors, downlink := u.downlink, generators := u.generators, links := u.links
    ports := u.ports, sent := u.sent } :=
  State.eq_of_fields h.time h.part h.resetLine h.channels h.globals rfl rfl rfl h.units h.slots h.quiet rfl h.tests h.sequences
    h.patterns rfl rfl rfl h.pending

theorem Only.orderFields_eq {s u : State} (h : Only [.moves, .downlink, .links] s u) : u = { s with
    moves := u.moves, downlink := u.downlink, links := u.links } :=
  State.eq_of_fields h.time h.part h.resetLine h.channels h.globals rfl h.floors rfl h.units h.slots h.quiet h.ports h.tests h.sequences
    h.patterns h.generators rfl h.sent h.pending

/-- A step that does its work for each of a list keeps what it has done for those before. -/
theorem forEach_each {α : Type} {I : State → Prop} {Q : α → State → Prop} {f : α → State → State} (xs : List α)
    (stays : ∀ x t, I t → I (f x t)) (does : ∀ x t, I t → Q x (f x t)) (keeps : ∀ x y t, Q y t → Q y (f x t)) :
    ∀ s, I s → ∀ x ∈ xs, Q x (forEach xs f s) := by
  induction xs with
  | nil => exact fun _ _ x h => absurd h (by simp)
  | cons x xs ih =>
    intro s h y hy
    rcases List.mem_cons.1 hy with rfl | hy
    · exact forEach_keeps (Q := Q y) xs (fun z _ t => keeps z y t) _ (does y s h)
    · exact ih _ (stays x s h) y hy

/-! ## Claims (R45) -/

section unclaimed

variable {ch : Chan} {p : Party} {s : State}

theorem unclaimed_iff : Unclaimed ch p s ↔ (s.floor ch).claims.holder ≠ some p ∧ p ∉ (s.floor ch).claims.waiting := by
  simp only [Unclaimed, Floor.claims, List.mem_map, not_exists, not_and, ne_eq, Option.map_eq_some_iff]

/-- R45: a law of one floor is a law of the claims on it. -/
theorem unclaimed_of_frame {c : Chan} {t : State} (frame : TalkFrame c s t)
    (own : Unclaimed c p s → Unclaimed c p t) (h : Unclaimed ch p s) : Unclaimed ch p t := by
  by_cases e : ch = c
  · subst e; exact own h
  · unfold Unclaimed
    rw [(frame.2.1 ch e).1]
    exact h

theorem unclaimed_only {fs : List Field} {t : State} (h : Unclaimed ch p s) (k : Only fs s t) (apart : .floors ∉ fs := by decide) :
    Unclaimed ch p t := by
  unfold Unclaimed
  rw [State.floor_congr (k.floors apart)]
  exact h

theorem endGrant_claims (r : Option AirReason) (next : FloorState) (held : (s.floor ch).grant.isSome = true) :
    ((endGrant ch r next s).floor ch).claims.holder = none ∧
      ((endGrant ch r next s).floor ch).claims.waiting = (s.floor ch).claims.waiting := by
  rw [endGrant_floor_self _ _ _ _ held, Floor.retest_claims]
  simp [Floor.claims]

theorem denyEntry_claims (q : Party) (r : AirReason) :
    ((denyEntry ch q r s).floor ch).claims.holder = (s.floor ch).claims.holder ∧
      ((denyEntry ch q r s).floor ch).claims.waiting = (s.floor ch).claims.waiting.filter (· != q) := by
  unfold denyEntry
  split
  · next none =>
    refine ⟨rfl, (List.filter_eq_self.2 fun x hx => ?_).symm⟩
    have absent := entryOf_eq_none.1 none
    simp only [bne_iff_ne, ne_eq]
    rintro rfl
    exact absent hx
  · rw [answer_floor', modFloor_floor_self]
    exact ⟨rfl, withoutParty_parties _ _⟩

theorem cancelClaim_keeps_unclaimed (c : Chan) (r : AirReason) (q : Party) (h : Unclaimed ch p s) :
    Unclaimed ch p (cancelClaim c r q s) := by
  refine unclaimed_of_frame (cancelClaim_frame c r q s) (fun own => ?_) h
  rw [unclaimed_iff] at own ⊢
  unfold cancelClaim
  split
  · next held =>
    have isSome : (s.floor c).grant.isSome = true := by
      rw [← Floor.claims_holder_isSome, Floor.heldBy_iff.1 held]; rfl
    obtain ⟨holder, waiting⟩ := endGrant_claims (some r) .idle isSome
    exact ⟨by simp [holder], waiting ▸ own.2⟩
  · obtain ⟨holder, waiting⟩ := denyEntry_claims (ch := c) (s := s) q r
    exact ⟨holder ▸ own.1, waiting ▸ fun m => own.2 (List.mem_filter.1 m).1⟩

theorem endHang_keeps_unclaimed (c : Chan) (h : Unclaimed ch p s) : Unclaimed ch p (endHang c s) := by
  refine unclaimed_of_frame (endHang_frame c s) (fun own => ?_) h
  unfold endHang
  split
  · rw [unclaimed_iff, modFloorTested_floor_self, Floor.retest_claims]
    simpa [unclaimed_iff, Floor.claims] using own
  · exact own

theorem discardAlerts_keeps_unclaimed (c : Chan) (i : MoveIx) (h : Unclaimed ch p s) : Unclaimed ch p (discardAlerts c i s) :=
  unclaimed_of_frame (discardAlerts_frame _ _ _) (fun own => by simpa [discardAlerts, unclaimed_iff, Floor.claims] using own) h

/-- What a fold chooses from a list is in the list. -/
theorem foldl_choice_mem {α : Type} {step : Option α → α → Option α} (choice : ∀ o x, step o x = some x ∨ step o x = o)
    {l : List α} {o : Option α} {w : α} (h : l.foldl step o = some w) : w ∈ l ∨ o = some w := by
  induction l generalizing o with
  | nil => exact .inr h
  | cons x l ih =>
    rcases ih h with m | m
    · exact .inl (.tail _ m)
    · rcases choice o x with c | c
      · exact .inl (by simp [Option.some.inj (c.symm.trans m)])
      · exact .inr (c.symm.trans m)

theorem bestEntry_mem {now : Time} {step : Nat} {q : List Entry} {e : Entry} (h : bestEntry now step q = some e) : e ∈ q := by
  refine (foldl_choice_mem (fun o x => ?_) h).resolve_right (by simp)
  cases o with
  | none => exact .inl rfl
  | some y =>
    by_cases better : rank now step y < rank now step x
    · exact .inl (if_pos better)
    · exact .inr (if_neg better)

/-- R58: the service decision grants to a party that waits. -/
theorem serviceDecision_keeps_unclaimed (c : Chan) (h : Unclaimed ch p s) : Unclaimed ch p (serviceDecision c s) := by
  refine unclaimed_of_frame (serviceDecision_frame c s) (fun own => ?_) h
  unfold serviceDecision
  split
  · split
    · split
      · exact own
      · next e best =>
        rw [unclaimed_iff, issueGrant_floor_self, Floor.retest_claims]
        have waits : e ∈ (s.floor c).queue := bestEntry_mem best
        exact ⟨fun same => own.2 e waits (by simpa [Floor.claims, newGrant] using same),
          fun m => (unclaimed_iff.1 own).2 ((withoutParty_sublist _ _).subset m)⟩
    · next alerts =>
      obtain ⟨a, rest, some⟩ := List.exists_cons_of_ne_nil (by simpa using alerts : (s.floor c).alerts ≠ [])
      rw [unclaimed_iff, startSeize_floor_self _ _ a rest some]
      have same (g : Option Party) (f : Floor) : ({ f with gate := g } : Floor).claims.holder = f.claims.holder ∧
        ({ f with gate := g } : Floor).claims.waiting = f.claims.waiting := ⟨rfl, rfl⟩
      rw [(same _ _).1, (same _ _).2, Floor.retest_claims]
      simpa [unclaimed_iff, Floor.claims] using own
  · exact own

theorem closeGate_keeps_unclaimed (c : Chan) (h : Unclaimed ch p s) : Unclaimed ch p (closeGate c s) := by
  refine unclaimed_of_frame (closeGate_frame c s) (fun own => ?_) h
  unfold Unclaimed
  rw [closeGate_floor_self]
  split <;> exact own

/-- R58: the service at the end of an event leaves a party without a claim. -/
theorem serveFreed_keeps_unclaimed (b : State) (h : Unclaimed ch p s) : Unclaimed ch p (serveFreed b s) :=
  forEach_keeps (Q := Unclaimed ch p) _ (fun c _ _ ht =>
    have decided := ite_keeps (c := (b.floor c).state ≠ .idle) (fun _ => serviceDecision_keeps_unclaimed c ht) fun _ => ht
    iteFun_keeps (fun _ => closeGate_keeps_unclaimed c decided) fun _ => decided) _ h

end unclaimed

/-- R45: nothing that an event does before it serves the floors gives a party a claim. -/
theorem unclaimed_law (ch : Chan) (p : Party) :
    TalkLaw (fun _ => True) (fun b s => Unclaimed ch p b → Unclaimed ch p s) where
  reads := fun _ _ _ _ => trivial
  readsWithin := fun b s t agree h k => by
    have floors : t.floors = s.floors := agree .floors (by simp)
    unfold Unclaimed
    rw [State.floor_congr floors]
    exact h k
  starts := fun _ h => h
  cancels := fun c r q h k => cancelClaim_keeps_unclaimed c r q (h k)
  endsHang := fun c h k => endHang_keeps_unclaimed c (h k)
  discards := fun c i h k => discardAlerts_keeps_unclaimed c i (h k)
  serves := fun _ => trivial
  requests := fun _ _ _ _ => trivial
  emergencies := fun _ _ _ => trivial
  talkEnds := fun _ _ _ => trivial
  alerts := fun _ _ _ => trivial
  grantEnds := fun _ _ _ => trivial
  cuts := fun _ _ _ => trivial
  warns := fun _ _ _ _ => trivial
  unlocks := fun _ _ _ => trivial
  hangEnds := fun _ _ => trivial
  detects := fun _ _ => trivial
  quiets := fun _ _ => trivial
  denies := fun _ _ _ _ => trivial
  toneSteps := fun _ _ _ => trivial
  hears := fun _ _ _ _ => trivial

/-- R45, R54: a party that claims a channel once has no claim when it is cancelled. -/
theorem cancelClaim_unclaims {b s : State} (ch : Chan) (r : AirReason) (p : Party) (once : OnFloorsWithin ClaimsOnce b s) :
    Unclaimed ch p (cancelClaim ch r p s) := by
  rw [unclaimed_iff]
  unfold cancelClaim
  split
  · next held =>
    have own := Floor.heldBy_iff.1 held
    have isSome : (s.floor ch).grant.isSome = true := by rw [← Floor.claims_holder_isSome, own]; rfl
    obtain ⟨holder, waiting⟩ := endGrant_claims (some r) .idle isSome
    exact ⟨by simp [holder], waiting ▸ (once ch).1.2 p own⟩
  · next other =>
    obtain ⟨holder, waiting⟩ := denyEntry_claims (ch := ch) (s := s) p r
    exact ⟨by rwa [holder, ne_eq, ← Floor.heldBy_iff], by simp [waiting]⟩

/-- R10, R14, R21: the claims on a unit's channel and on its move's. -/
theorem cancelClaims_unclaims {b s : State} (ch : Chan) (r : AirReason) (u : UnitId) (once : OnFloorsWithin ClaimsOnce b s) :
    Unclaimed ch (.unit u) (cancelClaims ch r u s) ∧ Unclaimed (s.currentOf u) (.unit u) (cancelClaims ch r u s) :=
  ⟨cancelClaim_unclaims _ _ _ (claimsOnce_law.cancels _ _ _ once),
    cancelClaim_keeps_unclaimed _ _ _ (cancelClaim_unclaims _ _ _ once)⟩

theorem oneClaim_within {s t : State} (one : OneClaim s) {fs : List Field} (k : Only fs s t) (apart : .floors ∉ fs := by decide) :
    OnFloorsWithin ClaimsOnce t t := by
  intro ch
  rw [State.floor_congr (k.floors apart)]
  exact ⟨(onFloors_claimsOnce s).2 one ch, id⟩

/-! ## The release of a move (R21 to R24) -/

/-- R21: the claims of the members are cancelled on the move's channel and on their own. -/
theorem freeMove_unclaims {b s : State} (leaves : Member → Bool) (i : MoveIx) (m : Move) (once : OnFloorsWithin ClaimsOnce b s) :
    ∀ x ∈ m.units, Unclaimed m.channel (.unit x) (freeMove leaves i m s) ∧
      Unclaimed (s.currentOf x) (.unit x) (freeMove leaves i m s) := by
  intro x hx
  have within : OnFloorsWithin ClaimsOnce b (discardAlerts m.channel i s) := claimsOnce_law.discards _ _ once
  have cancelled := forEach_each (f := cancelClaims m.channel .released) (xs := m.units)
    (I := fun t => OnFloorsWithin ClaimsOnce b t ∧ t.units = s.units)
    (Q := fun x t => Unclaimed m.channel (.unit x) t ∧ Unclaimed (s.currentOf x) (.unit x) t)
    (fun x t ⟨within, units⟩ => ⟨claimsOnce_law.floorLaw.toTalkLaw.cancelsClaims _ _ _ within,
      (cancelClaims_only _ _ _ _).units.trans units⟩)
    (fun x t ⟨within, units⟩ => by
      have := cancelClaims_unclaims m.channel .released x within
      rwa [State.currentOf_congr units] at this)
    (fun x y t ⟨own, current⟩ => ⟨(unclaimed_law _ _).cancelsClaims (b := t) _ _ _ id own,
      (unclaimed_law _ _).cancelsClaims (b := t) _ _ _ id current⟩)
    _ ⟨within, (discardAlerts_frame _ _ _).only.units⟩ x hx
  have freed (c : Chan) (h : Unclaimed c (.unit x) (forEach m.units (cancelClaims m.channel .released) (discardAlerts m.channel i s))) :
      Unclaimed c (.unit x) (freeMove leaves i m s) := by
    refine unclaimed_only ?_ (setMove_only _ _ _)
    refine unclaimed_only ?_ (Only.forEach (fs := [.units]) _ (fun _ _ _ => unbindUnit_only _ _) _)
    refine unclaimed_only ?_ (Only.forEach (fs := [.downlink, .links]) _ (fun _ _ _ => orderTo_only _ _ _) _)
    exact (unclaimed_law c (.unit x)).endsHangsFor _ _ (fun k => k) h
  exact ⟨freed _ cancelled.1, freed _ cancelled.2⟩

theorem release_unclaims {b s : State} (n : NoticeBody) (i : MoveIx) (m : Move) (once : OnFloorsWithin ClaimsOnce b s) :
    ∀ x ∈ m.units, Unclaimed m.channel (.unit x) (release n i m s) ∧ Unclaimed (s.currentOf x) (.unit x) (release n i m s) := by
  intro x hx
  obtain ⟨own, current⟩ := freeMove_unclaims (fun _ => true) i m once x hx
  exact ⟨serveFreed_keeps_unclaimed _ (unclaimed_only own (notify_only _ _ _)),
    serveFreed_keeps_unclaimed _ (unclaimed_only current (notify_only _ _ _))⟩

/-- R21: what the release of a move leaves. -/
structure Released (i : MoveIx) (m : Move) (s u : State) : Prop where
  only : Only moveFields s u
  freed : u.move i = none
  moves : ∀ j, j ≠ i → u.move j = s.move j
  members : ∀ x ∈ m.units, u.unit x = (s.unit x).map (UnitRec.unbound s.time)
  others : ∀ x, x ∉ m.units → u.unit x = s.unit x

theorem release_released (n : NoticeBody) (i : MoveIx) (m : Move) (s : State) : Released i m s (release n i m s) where
  only := release_only _ _ _ _
  freed := by rw [release_move, if_pos rfl]
  moves := fun j other => by rw [release_move, if_neg other]
  members := fun x hx => by rw [release_unit, if_pos hx]
  others := fun x hx => by rw [release_unit, if_neg hx]

/-- Settles O29: `release` frees the record, by a STOP_ACK of the locomotive that has refreshed its own record, or by the
deadline. -/
theorem releasesEnd : Obligations.ReleasesEnd := by
  refine ⟨fun p ch src mv i m s at_ sends own releasing => ?ack, fun i m d s awake hm releasing deadline => ⟨fun due => ?order, fun due => ?deadline⟩⟩
  case ack =>
    have row : exec (.stopAck p src mv) s = .next (settle (release (.moveReleased i) i m (refresh src s))) := by
      refine (arrives_sender at_ sends _).trans (next_settle_of_eq ?_)
      simp [own, releasing]
    have member : src ∈ m.units := own ▸ .head _
    have done := release_released (.moveReleased i) i m (refresh src s)
    refine ⟨_, row, (((refresh_only _ _).mono (by decide)).trans done.only).moveFields_eq, done.freed, done.moves, fun x hx r hr => ?_,
      fun x hx => ?_⟩
    · rw [done.members x hx, refresh_unit, hr]
      by_cases same : x = src <;> simp [same, UnitRec.unbound]
    · have other : x ≠ src := fun same => hx (same ▸ member)
      rw [done.others x hx, refresh_unit]
      simp [other]
  case order =>
    refine (event_next awake).trans (next_settle_of_eq ?_)
    rw [hm, whenSome_some, deadline, whenSome_some, if_pos ⟨releasing, due⟩]
    rfl
  case deadline =>
    have row : exec (.releaseDeadline i) s = .next (settle (release (.releaseUnconfirmed i m.loco.unit) i m s)) := by
      refine (event_next awake).trans (next_settle_of_eq ?_)
      rw [hm, whenSome_some, deadline]
      exact expiry_reached due
    have done := release_released (.releaseUnconfirmed i m.loco.unit) i m s
    refine ⟨_, row, done.only.moveFields_eq, done.freed, done.moves, fun x hx r hr => ?_, done.others⟩
    rw [done.members x hx, hr]
    rfl

end Sys2Proof.Machine

/-! PROOF. The commands that name a move: its members, its controller, its console, its release (O20, O21, O23). -/

namespace Sys2Proof.Machine

set_option Elab.async false

/-! ## A command on a move (R3) -/

/-- R3: a command that names an occupied move, from its operating console, in a state in which it is taken. -/
theorem moveCommand_taken {link : Console} {b : Byte} {i : MoveIx} {m : Move} {s : State} {admits : MoveState → Bool}
    (c : MoveIx → Move → Cmd) (named : NamesMove link b i m s) (admitted : admits m.state = true) :
    moveCommand link b admits c (hunt link s) = c i m (hunt link s) := by
  obtain ⟨service, number, hm, console⟩ := named
  rw [moveCommand, look_apply, check_apply, if_pos (by simp [service]), namedMove_eq number (by simpa using hm), need_some, check_apply,
    if_pos (by simp [console]), check_apply, if_pos admitted]

/-- R3: the states in which a move can be amended. -/
theorem amendable_of {st : MoveState} (h : st = .active ∨ st = .recovery ∨ st = .suspended) : st.amendable = true := by
  rcases h with rfl | rfl | rfl <;> rfl

theorem moveCommand_amended {link : Console} {b : Byte} {i : MoveIx} {m : Move} {s : State} (c : MoveIx → Move → Cmd)
    (named : NamesMove link b i m s) (state : m.state = .active ∨ m.state = .recovery ∨ m.state = .suspended) :
    moveCommand link b MoveState.amendable c (hunt link s) = c i m (hunt link s) :=
  moveCommand_taken c named (amendable_of state)

/-! ## Frames that are placed (R124) -/

/-- R124, R126: a frame placed in a queue with room waits there. -/
theorem placeFrame_waits {ch : Chan} {new : Frame} {s : State} (takes : takesFrames (s.floor ch) = true)
    (room : (s.frames ch).length < 16) : new ∈ (placeFrame ch new s).frames ch := by
  rw [placeFrame_frames_self, if_pos takes]
  unfold placeIn
  split
  · next any =>
    obtain ⟨old, mem, same⟩ := List.any_eq_true.1 any
    exact List.mem_map.2 ⟨old, mem, if_pos same⟩
  · simp

/-! ## ADD_MEMBER and REMOVE_MEMBER -/

/-- R11, R116: the register with a unit bound to a move. -/
theorem bindUnit_eq (i : MoveIx) (u : UnitId) (s : State) :
    bindUnit i u s = { s with units := s.units.map (fun y => if y.unit = u then { y with binding := some i } else y) } := by
  simp only [bindUnit, modUnit, beq_iff_eq]

theorem bindUnit_currentOf (i : MoveIx) (u x : UnitId) (s : State) : (bindUnit i u s).currentOf x = s.currentOf x := by
  unfold State.currentOf
  rw [bindUnit, modUnit_unit]
  split
  · cases s.unit x <;> rfl
  · rfl

theorem currentOf_eq {u : UnitId} {r : UnitRec} {s : State} (h : s.unit u = some r) : s.currentOf u = r.current := by
  simp [State.currentOf, h]

theorem member_isSome {m : Move} {x : UnitId} (h : x ∈ m.handsets.map (·.unit)) : (m.member x).isSome = true := by
  obtain ⟨e, he, rfl⟩ := List.mem_map.1 h
  exact List.find?_isSome.2 ⟨e, .tail _ he, by simp⟩

/-- R14: the claims of a handset that is removed are cancelled. -/
theorem removeHandset_unclaims {b s : State} {leave : Bool} {i : MoveIx} {m : Move} (x : UnitId) (hm : s.move i = some m)
    (once : OnFloorsWithin ClaimsOnce b s) :
    Unclaimed m.channel (.unit x) (removeHandset leave i x s) ∧ Unclaimed (s.currentOf x) (.unit x) (removeHandset leave i x s) := by
  obtain ⟨own, current⟩ := cancelClaims_unclaims m.channel .released x once
  have kept (c : Chan) (h : Unclaimed c (.unit x) (cancelClaims m.channel .released x s)) :
      Unclaimed c (.unit x) (removeHandset leave i x s) := by
    unfold removeHandset
    simp only [hm]
    refine unclaimed_only ?_ (unbindUnit_only _ _)
    refine unclaimed_only ?_ (modMove_only _ _ _)
    refine unclaimed_only ?_ (Only.iteFun (fs := [.downlink, .links]) _ (orderTo_only _ _ _) (.refl _ _))
    exact unclaimed_only h (Only.iteFun (fs := [.moves, .links]) _ (cancelHandover_only _ _ _) (.refl _ _))
  exact ⟨kept _ own, kept _ current⟩

/-- Settles O20: the member entry that is added, and `removeHandset`. -/
theorem membersAreAddedAndRemoved : Obligations.MembersAreAddedAndRemoved := by
  refine ⟨fun link b x i m r s listening named state room hx free kind supported level => ?add,
    fun link b x i m r s listening named state member other control two hx => ?remove⟩
  case add =>
    refine ⟨_, exec_accepted (c := .addMember b x) listening ?_, rfl⟩
    have leveled : (!m.isRC || r.level == .l3) = true := by
      rcases level with none | top
      · simp [Move.isRC, none]
      · simp [top]
    have placed : addMember i m x (hunt link s) = placeFrame r.current ⟨x, .joinOrder i m.channel⟩ { hunt link s with
        moves := s.moves.put i (some { m with handsets := m.handsets ++
          [{ unit := x, joined := false, sends := 1, roundStart := s.time, addDeadline := some (s.time + 5000) }] })
        units := s.units.map (fun y => if y.unit = x then { y with binding := some i } else y) } := by
      rw [addMember, orderTo, bindUnit_currentOf, setMove_currentOf, hunt_currentOf, currentOf_eq hx, bindUnit_eq]
      rfl
    rw [runCommand, cmdAddMember, look_apply, moveCommand_amended _ named state, check_apply, if_pos (by simpa using room), hunt_unit, hx,
      need_some, check_apply, if_pos (by simp [free]), check_apply, if_pos (by simp [kind]), check_apply, if_pos supported, check_apply,
      if_pos leveled, done_apply, placed]
  case remove =>
    have hm : s.move i = some m := named.2.2.1
    have hm' : (hunt link s).move i = some m := by simpa using hm
    have fields : Only moveFields (hunt link s) (serveFreed (hunt link s) (removeHandset true i x (hunt link s))) :=
      (removeHandset_only _ _ _ _).andThen (serveFreed_only _ _)
    have units (y : UnitId) : (serveFreed (hunt link s) (removeHandset true i x (hunt link s))).unit y =
        if y = x then (s.unit y).map (UnitRec.unbound s.time) else s.unit y := by
      rw [State.unit_congr (serveFreed_only _ _).units, removeHandset_unit hm']
      simp
    have moves (j : MoveIx) : (serveFreed (hunt link s) (removeHandset true i x (hunt link s))).move j =
        if j = i then some (m.withoutHandset x) else s.move j := by
      rw [State.move_congr (serveFreed_only _ _).moves, removeHandset_move, hm']
      simp
    refine ⟨serveFreed (hunt link s) (removeHandset true i x (hunt link s)), exec_accepted (c := .removeMember b x) listening ?_,
      (((hunt_only _ _).mono (by decide)).trans fields).moveFields_eq, ?_, fun j hj => by rw [moves, if_neg hj], ?_, fun one => ?_,
      fun y hy => by rw [units, if_neg hy]⟩
    · rw [runCommand, cmdRemoveMember, moveCommand_amended _ named state, check_apply, if_pos (member_isSome member), check_apply,
        if_pos (by simpa using fun e => other e.symm), check_apply, if_pos (by simpa using control), check_apply,
        if_pos (decide_eq_true (show 1 < m.handsets.length from two)), done_apply]
    · rw [moves, if_pos rfl]
      have others : (fun e : Member => e.unit != x) = fun e => decide (e.unit ≠ x) := by
        funext e
        by_cases same : e.unit = x <;> simp [same]
      rw [Move.withoutHandset, others]
    · rw [units, if_pos rfl, hx]
      rfl
    · have once := oneClaim_within one (hunt_only link s)
      obtain ⟨own, current⟩ := removeHandset_unclaims (leave := true) x hm' once
      rw [hunt_currentOf, currentOf_eq hx] at current
      exact ⟨serveFreed_keeps_unclaimed _ own, serveFreed_keeps_unclaimed _ current⟩

/-! ## SET_CONTROLLER, TAKE_MOVE and REINSTATE -/

/-- R89: the record at the start of an offer cycle. -/
def Move.offering (now : Time) (m : Move) : Move :=
  { m with windowStart := some now, closedEnd := none, deadline := none, repeats := 0 }

theorem startOffers_move (i : MoveIx) (s : State) (j : MoveIx) :
    (startOffers i s).move j = if j = i then (s.move i).map (Move.offering s.time) else s.move j := by
  unfold startOffers
  cases hm : s.move i with
  | none =>
    by_cases e : j = i
    · simp [e, hm]
    · simp [e]
  | some m =>
    have told (t : State) : ((match m.controller with
        | some u => orderTo u (.resumeOffer i)
        | none => id) t).move j = t.move j := by
      cases m.controller with
      | none => rfl
      | some u => exact State.move_congr (orderTo_only _ _ _).moves _
    refine (told _).trans ?_
    rw [setMove_move]
    rfl

/-- R15: the record with a new controller. -/
def Move.controlledBy (new : UnitId) (m : Move) : Move := { m with controller := some new, handover := none }

/-- R15: the record after a change of the controller. -/
theorem setController_move {i : MoveIx} {m : Move} {former new : UnitId} (s : State) (j : MoveIx) :
    (setController i m former new s).move j = if j = i then some
      (match m.state with
        | .active => (m.controlledBy new).longWindow s.time
        | .recovery => (m.controlledBy new).offering s.time
        | _ => m.controlledBy new) else s.move j := by
  have fields : Only [.moves, .downlink, .links] s (assignControl i m former new
      (cancelHandover i .controllerSet (setMove i (some { m with controller := some new }) s))) :=
    ((setMove_only _ _ _).andThen (hs := [.moves, .downlink, .links]) (cancelHandover_only _ _ _)).andThen (assignControl_only _ _ _ _ _)
  have assigned (j : MoveIx) : (assignControl i m former new
      (cancelHandover i .controllerSet (setMove i (some { m with controller := some new }) s))).move j =
        if j = i then some (m.controlledBy new) else s.move j := by
    rw [State.move_congr (assignControl_only _ _ _ _ _).moves, cancelHandover_move, setMove_move_self, setMove_move]
    split <;> rfl
  unfold setController
  revert fields assigned
  generalize assignControl i m former new _ = t
  intro fields assigned
  cases m.state with
  | active =>
    simp only [modMove_move, assigned, if_true, Option.map_some]
    split <;> rfl
  | recovery =>
    simp only [startOffers_move, assigned, if_true, Option.map_some, fields.time]
    split <;> rfl
  | forming | stopHeld | suspended | releasing => exact assigned j

/-- Settles O21, command by command. -/
theorem controllerConsoleAndReinstatement : Obligations.ControllerConsoleAndReinstatement := by
  refine ⟨fun link b x former i m s listening named control joined state => ?set, fun link b i m s listening service number hm => ?console⟩
  case set =>
    obtain ⟨e, found, in_⟩ := joined
    refine ⟨(if former = x then id else setController i m former x) (hunt link s),
      exec_accepted (c := .setController b x) listening ?_, fun same => ?kept, fun other => ?changed⟩
    · rw [runCommand, cmdSetController, moveCommand_amended _ named state, control, need_some, found, need_some, check_apply, if_pos in_,
        done_apply]
    case kept => rw [if_pos same.symm]; rfl
    case changed =>
      rw [if_neg (fun same => other same.symm)]
      have fields := (hunt_only link s).andThen (hs := [.moves, .downlink, .links]) (setController_only i m former x (hunt link s))
      refine ⟨fields.orderFields_eq, fun j hj => ?_, fun active => ?_, fun recovering => ?_, fun suspended => ?_⟩
      · rw [setController_move, if_neg hj, hunt_move]
      · have record : (setController i m former x (hunt link s)).move i = some ((m.controlledBy x).longWindow s.time) := by
          rw [setController_move, if_pos rfl, active, hunt_time]
        exact record
      · have record : (setController i m former x (hunt link s)).move i = some ((m.controlledBy x).offering s.time) := by
          rw [setController_move, if_pos rfl, recovering, hunt_time]
        exact record
      · have record : (setController i m former x (hunt link s)).move i = some (m.controlledBy x) := by
          rw [setController_move, if_pos rfl, suspended]
        exact record
  case console =>
    have taken : cmdTakeMove link b (hunt link s) = done (if m.console = link then id
        else fun s => notify m.console (.moveTaken i link) (setMove i (some { m with console := link }) s)) (hunt link s) := by
      rw [cmdTakeMove, look_apply, check_apply, if_pos (by simp [service]), namedMove_eq number (by simpa using hm), need_some]
    refine ⟨fun own => ?own, fun other => ?other, fun x own suspended control => ?reinstate⟩
    case own => exact exec_accepted (c := .takeMove b) listening (by rw [runCommand, taken, if_pos own]; rfl)
    case other => exact exec_accepted (c := .takeMove b) listening (by rw [runCommand, taken, if_neg other]; rfl)
    case reinstate =>
      refine exec_accepted (c := .reinstate b) listening ?_
      rw [runCommand, cmdReinstate, moveCommand_taken _ ⟨service, number, hm, own⟩ (by simp [suspended]), done_apply]
      simp only [startOffers, setMove_move_self, control]
      rw [orderTo]
      simp only [setMove_currentOf, hunt_currentOf]
      simp [setMove]

/-! ## RELEASE_MOVE -/

/-- R22: the record of a move that enters RELEASING. -/
theorem enterReleasing_move (i : MoveIx) (m : Move) (s : State) (j : MoveIx) : (enterReleasing i m s).move j =
    if j = i then some { m with
      state := .releasing, releaseDeadline := some (s.time + 5000), windowStart := none, closedEnd := none
      deadline := none, handover := none, stopAckSeen := false, repeats := 0 } else s.move j := by
  unfold enterReleasing
  rw [State.move_congr (reportUndeliverable_only _ _ _).moves, State.move_congr (orderTo_only _ _ _).moves, modMove_move]
  simp only [cancelHandover_move, setMove_move_self, setMove_move, if_true, Option.map_some]
  by_cases e : j = i
  · simp only [e, if_true]; rfl
  · simp only [e, if_false]

/-- R22, R23: the STOP_ORDER waits where the locomotive's channel takes it. -/
theorem enterReleasing_orders {i : MoveIx} {m : Move} {s : State} (takes : takesFrames (s.floor (s.currentOf m.loco.unit)) = true)
    (room : (s.frames (s.currentOf m.loco.unit)).length < 16) :
    ⟨m.loco.unit, .stopOrder i⟩ ∈ (enterReleasing i m s).frames (s.currentOf m.loco.unit) := by
  unfold enterReleasing
  rw [State.frames_congr (reportUndeliverable_only _ _ _).downlink]
  have fields : Only [.moves, .links] s (modMove i (fun m => { m with stopAckSeen := false }) (cancelHandover i .releasing
      (setMove i (some { m with
        state := .releasing, releaseDeadline := some (after s.time 5000), windowStart := none, closedEnd := none
        deadline := none, repeats := 0 }) s))) :=
    ((setMove_only _ _ _).andThen (hs := [.moves, .links]) (cancelHandover_only _ _ _)).andThen (modMove_only _ _ _)
  revert fields
  generalize modMove i _ _ = t
  intro fields
  rw [orderTo, State.currentOf_congr fields.units]
  exact placeFrame_waits (by rw [State.floor_congr fields.floors]; exact takes) (by rw [State.frames_congr fields.downlink]; exact room)

/-- Settles O23: `release` and `enterReleasing`. -/
theorem releaseMoveFreesOrStops : Obligations.ReleaseMoveFreesOrStops := by
  intro link b i m s listening named
  refine ⟨fun free stands => ?frees, fun rc running => ?stops⟩
  case frees =>
    have still : m.runs = false := by
      rcases stands with none | ⟨inactive, unheld⟩
      · simp [Move.runs, Move.isRC, none]
      · simp [Move.runs, inactive, unheld]
    have done := release_released (.moveReleased i) i m (hunt link s)
    refine ⟨release (.moveReleased i) i m (hunt link s), exec_accepted (c := .releaseMove b) listening ?_,
      (((hunt_only _ _).mono (by decide)).trans done.only).moveFields_eq, done.freed, fun j hj => by rw [done.moves j hj, hunt_move],
      fun one x hx => ?_, fun x hx r hr => by rw [done.members x hx, hunt_unit, hr]; rfl, fun x hx => by rw [done.others x hx, hunt_unit]⟩
    · rw [runCommand, cmdReleaseMove, moveCommand_taken _ named (by simp [free]), still, done_apply]
      rfl
    · have := release_unclaims (.moveReleased i) i m (oneClaim_within one (hunt_only link s)) x hx
      rwa [hunt_currentOf] at this
  case stops =>
    have runs : m.runs = true := by
      rcases running with active | held
      · simp [Move.runs, Move.isRC, rc, active]
      · simp [Move.runs, Move.isRC, rc, held]
    have stays : m.state ≠ .releasing := by rcases running with active | held <;> simp [*]
    have fields := (hunt_only link s).andThen (hs := [.moves, .downlink, .links]) (enterReleasing_only i m (hunt link s))
    refine ⟨enterReleasing i m (hunt link s), exec_accepted (c := .releaseMove b) listening ?_, fields.orderFields_eq, ?_, fun j hj => ?_,
      fun takes room => ?_⟩
    · rw [runCommand, cmdReleaseMove, moveCommand_taken _ named (by simp [stays]), runs, done_apply]
      rfl
    · rw [enterReleasing_move, if_pos rfl, hunt_time]
    · rw [enterReleasing_move, if_neg hj, hunt_move]
    · have := enterReleasing_orders (i := i) (m := m) (s := hunt link s) (by simpa using takes) (by simpa using room)
      simpa using this

end Sys2Proof.Machine

/-! PROOF. MOVE_CHANNEL and JOINED (O22, O24). -/

namespace Sys2Proof.Machine

set_option Elab.async false

/-! ## MOVE_CHANNEL (R16) -/

/-- R4 check 3: a byte that names a channel a move may be placed on. -/
theorem usableFor_eq {b : Byte} {ch : Chan} {s : State} (named : b.toNat = ch.val) (apart : ch ≠ 0) (inUse : (s.chan ch).inUse = true)
    (isOpen : (s.floor ch).state ≠ .closed) : usableFor s b = some ch := by
  simp [usableFor, chanOf_eq named, apart, inUse, isOpen]

/-- R16: every unit named supports the channel. -/
theorem supported_by_all {us : List UnitId} {ch : Chan} {s : State} (all : ∀ x ∈ us, ∃ r, s.unit x = some r ∧ hasChan r.chans ch = true) :
    us.find? (fun u => !(s.unit u).any (fun r => hasChan r.chans ch)) = none := by
  rw [List.find?_eq_none]
  intro x hx
  obtain ⟨r, hr, supports⟩ := all x hx
  simp [hr, supports]

/-- R16: the record on its new channel. -/
def Move.movedTo (now : Time) (ch : Chan) (m : Move) : Move :=
  { m with
    channel := ch
    loco := m.loco.rejoins now
    handsets := m.handsets.map (Member.rejoins now)
    handover := none
    rechannel := some ⟨ch, Machine.after now 5000⟩ }

theorem moveToChannel_move {i : MoveIx} {m : Move} {s : State} (ch : Chan) (hm : s.move i = some m) (j : MoveIx) :
    (moveToChannel i m ch s).move j = if j = i then some (m.movedTo s.time ch) else s.move j := by
  have talked : Only talkFields s (discardAlerts m.channel i (endHangsFor (.move i) [m.channel]
      (forEach m.units (fun u => cancelClaim m.channel .moved (.unit u)) s))) :=
    ((Only.forEach _ (fun _ _ _ => (cancelClaim_frame _ _ _ _).only) _).trans (endHangsFor_only _ _ _)).trans
      (discardAlerts_frame _ _ _).only
  unfold moveToChannel
  revert talked
  generalize discardAlerts m.channel i _ = t
  intro talked
  have kept (j : MoveIx) : t.move j = s.move j := State.move_congr talked.moves j
  rw [State.move_congr (orderJoins_only _ _ _ _).moves, modMove_move]
  simp only [cancelHandover_move, kept, hm, if_true, Option.map_some]
  by_cases e : j = i
  · simp only [e, if_true]; rfl
  · simp only [e, if_false]

/-- R16: the claims of the members on the channel that the move leaves are cancelled. -/
theorem moveToChannel_unclaims {b s : State} (i : MoveIx) (m : Move) (ch : Chan) (once : OnFloorsWithin ClaimsOnce b s) :
    ∀ x ∈ m.units, Unclaimed m.channel (.unit x) (moveToChannel i m ch s) := by
  intro x hx
  have cancelled := forEach_each (f := fun u => cancelClaim m.channel .moved (.unit u)) (xs := m.units)
    (I := OnFloorsWithin ClaimsOnce b) (Q := fun x => Unclaimed m.channel (.unit x))
    (fun _ _ within => claimsOnce_law.cancels _ _ _ within) (fun _ _ within => cancelClaim_unclaims _ _ _ within)
    (fun _ _ _ own => cancelClaim_keeps_unclaimed _ _ _ own) s once x hx
  refine unclaimed_only ?_ (orderJoins_only _ _ _ _)
  refine unclaimed_only ?_ (modMove_only _ _ _)
  refine unclaimed_only ?_ (cancelHandover_only _ _ _)
  exact discardAlerts_keeps_unclaimed _ _ ((unclaimed_law m.channel (.unit x)).endsHangsFor _ _ (fun k => k) cancelled)

/-- Settles O22: `moveToChannel`. -/
theorem moveChannelRestartsTheJoinRounds : Obligations.MoveChannelRestartsTheJoinRounds := by
  intro link b c ch i m s listening named state target other apart inUse isOpen room supported
  have hm : (hunt link s).move i = some m := by rw [hunt_move]; exact named.2.2.1
  have fields : Only superviseFields (hunt link s) (serveFreed (hunt link s) (moveToChannel i m ch (hunt link s))) :=
    (moveToChannel_only _ _ _ _).trans ((serveFreed_only _ _).mono (by decide))
  have moves (j : MoveIx) : (serveFreed (hunt link s) (moveToChannel i m ch (hunt link s))).move j =
      if j = i then some (m.movedTo s.time ch) else s.move j := by
    rw [State.move_congr (serveFreed_only _ _).moves, moveToChannel_move ch hm, hunt_move, hunt_time]
  refine ⟨serveFreed (hunt link s) (moveToChannel i m ch (hunt link s)), exec_accepted (c := .moveChannel b c) listening ?_,
    (((hunt_only _ _).mono (by decide)).trans fields).superviseFields_eq, by rw [moves, if_pos rfl]; rfl, fun one x hx => ?_,
    fun j hj => by rw [moves, if_neg hj]⟩
  · have elsewhere : (chanOf c != some m.channel) = true := by simp [chanOf_eq target, other]
    have counted : decide (movesOn (hunt link s) ch < Config.movesPerChannel) = true := by
      simpa [movesOn] using room
    have all := supported_by_all (s := hunt link s) (us := m.units) (ch := ch) (by simpa using supported)
    rw [runCommand, cmdMoveChannel, look_apply, moveCommand_amended _ named state, check_apply, if_pos elsewhere,
      usableFor_eq (s := hunt link s) target apart (by simpa using inUse) (by simpa using isOpen), need_some, check_apply, if_pos counted,
      all, noneOf_none, done_apply]
  · exact serveFreed_keeps_unclaimed _ (moveToChannel_unclaims i m ch (oneClaim_within one (hunt_only link s)) x hx)

/-! ## JOINED (R8, R9) -/

/-- R8, R9: the record after the last JOINED. -/
def Move.afterJoined (now : Time) (m : Move) : Move :=
  if m.allJoined then if m.state = .forming then m.becomesActive now else { m with rechannel := none } else m

theorem lastJoined_move (i : MoveIx) (s : State) (j : MoveIx) :
    (lastJoined i s).move j = if j = i then (s.move i).map (Move.afterJoined s.time) else s.move j := by
  unfold lastJoined
  cases hm : s.move i with
  | none =>
    by_cases e : j = i
    · simp [e, hm]
    · simp [e]
  | some m =>
    have unchanged : m.allJoined = false → s.move j = if j = i then some (m.afterJoined s.time) else s.move j := by
      intro missing
      by_cases e : j = i
      · simp [e, hm, Move.afterJoined, missing]
      · simp [e]
    by_cases all : m.allJoined = true
    · by_cases forming : m.state = .forming
      · simp [all, forming, setMove_move, Move.afterJoined]
      · simp [all, forming, setMove_move, Move.afterJoined]
    · simpa [all] using unchanged (by simpa using all)

/-- R8: the register after a unit has come to a channel. -/
theorem comeTo_unit (ch : Chan) (u : UnitId) (s : State) (v : UnitId) :
    (comeTo ch u s).unit v = if v = u then (s.unit v).map (fun r => { r with current := ch }) else s.unit v := by
  unfold comeTo
  split
  · next same =>
    split
    · next own =>
      subst own
      cases hr : s.unit v with
      | none => rfl
      | some r =>
        rw [currentOf_eq hr] at same
        subst same
        rfl
    · rfl
  · rw [modUnit_unit, State.unit_congr (cancelClaim_frame _ _ _ _).only.units]

/-- R8: the unit comes without its claims on the channel that it leaves. -/
theorem comeTo_unclaims {b s : State} {ch : Chan} {u : UnitId} (leaves : s.currentOf u ≠ ch) (once : OnFloorsWithin ClaimsOnce b s) :
    Unclaimed (s.currentOf u) (.unit u) (comeTo ch u s) := by
  unfold comeTo
  rw [if_neg leaves]
  exact unclaimed_only (cancelClaim_unclaims _ _ _ once) (modUnit_only _ _ _)

/-- R8: the joined flag of a member. -/
theorem modMember_eq (u : UnitId) (g : Member → Member) (m : Move) : m.modMember u g = { m with
    loco := if m.loco.unit = u then g m.loco else m.loco
    handsets := m.handsets.map (fun e => if e.unit = u then g e else e) } := by
  simp only [Move.modMember, beq_iff_eq]

/-- R8: a JOINED of a member that had not joined. -/
theorem joinedBy_eq {u : UnitId} {mv c : Byte} {i : MoveIx} {m : Move} {e : Member} {s : State} (named : mv.toNat = i.val + 1)
    (hm : s.move i = some m) (he : m.member u = some e) (state : m.state ≠ .releasing) (at_ : c.toNat = m.channel.val)
    (first : e.joined = false) :
    joinedBy u mv c s = serveFreed s (lastJoined i (comeTo m.channel u
      (setMove i (some (m.modMember u (fun e => { e with joined := true, addDeadline := none }))) s))) := by
  unfold joinedBy
  rw [moveOf_eq named, whenSome_some, hm, whenSome_some, he, whenSome_some, if_pos ⟨state, chanOf_eq at_, first⟩]

/-- Settles O24: `comeTo` and `lastJoined`. -/
theorem joinedSetsTheFlag : Obligations.JoinedSetsTheFlag := by
  intro p ch0 src mv c i m m1 e r s at_ hr named hm state he first chan hm1
  have flagged : m.modMember src (fun e => { e with joined := true, addDeadline := none }) = m1 := by rw [hm1, modMember_eq]
  have row : exec (.joined p src mv c) s = .next (settle (serveFreed (refresh src s) (lastJoined i (comeTo m.channel src
      (setMove i (some m1) (refresh src s)))))) := by
    refine (arrives_event at_).trans (next_settle_of_eq ?_)
    rw [joinedBy_eq (s := refresh src s) named hm he state chan first, flagged]
  have before : Only moveFields s (comeTo m.channel src (setMove i (some m1) (refresh src s))) :=
    ((refresh_only _ _).andThen (hs := moveFields) (setMove_only _ _ _)).trans ((comeTo_only _ _ _).mono (by decide))
  have all : Only moveFields s (serveFreed (refresh src s) (lastJoined i (comeTo m.channel src (setMove i (some m1) (refresh src s))))) :=
    (before.trans ((lastJoined_only _ _).mono (by decide))).trans ((serveFreed_only _ _).mono (by decide))
  have moves (j : MoveIx) : (serveFreed (refresh src s) (lastJoined i (comeTo m.channel src
      (setMove i (some m1) (refresh src s))))).move j = if j = i then some (m1.afterJoined s.time) else s.move j := by
    rw [State.move_congr (serveFreed_only _ _).moves, lastJoined_move, before.time, State.move_congr (comeTo_only _ _ _).moves,
      State.move_congr (comeTo_only _ _ _).moves, setMove_move_self, setMove_move]
    split <;> rfl
  have units (v : UnitId) : (serveFreed (refresh src s) (lastJoined i (comeTo m.channel src
      (setMove i (some m1) (refresh src s))))).unit v =
        if v = src then (s.unit v).map (fun r => { r with lastHeard := s.time, current := m.channel }) else s.unit v := by
    rw [State.unit_congr (serveFreed_only _ _).units, State.unit_congr (lastJoined_only _ _).units, comeTo_unit, setMove_unit, refresh_unit]
    by_cases own : v = src
    · simp [own, Function.comp_def]
    · simp [own]
  refine ⟨_, row, all.moveFields_eq, fun j hj => by rw [moves, if_neg hj], fun x hx => by rw [units, if_neg hx],
    by rw [units, if_pos rfl, hr]; rfl, fun leaves one => ?claims, fun missing => ?some, fun joined => ?all⟩
  case claims =>
    have cur : (setMove i (some m1) (refresh src s)).currentOf src = r.current := by
      rw [setMove_currentOf, refresh_currentOf, currentOf_eq hr]
    have come := comeTo_unclaims (ch := m.channel) (cur.symm ▸ leaves)
      (oneClaim_within one ((refresh_only src s).andThen (hs := [.units, .moves]) (setMove_only i (some m1) _)))
    rw [cur] at come
    exact serveFreed_keeps_unclaimed _ (unclaimed_only come (lastJoined_only _ _))
  case some =>
    have notAll : m1.allJoined = false := by
      obtain ⟨e', mem, out⟩ := missing
      exact Bool.eq_false_iff.2 fun all => by simp [List.all_eq_true.1 all e' mem] at out
    rw [moves, if_pos rfl, Move.afterJoined, notAll]
    rfl
  case all =>
    have everyone : m1.allJoined = true := List.all_eq_true.2 joined
    have same : m1.state = m.state := by rw [hm1]
    have control : m1.controller = m.controller := by rw [hm1]
    have interval : m1.interval = m.interval := by rw [hm1]
    rw [moves, if_pos rfl, Move.afterJoined, if_pos everyone, same, ← interval]
    refine ⟨fun forming none => ?_, fun forming some => ?_, fun formed => by rw [if_neg formed]⟩
    · rw [if_pos forming, Move.becomesActive, if_neg (by simp [Move.isRC, control, none])]
    · rw [if_pos forming, Move.becomesActive, if_pos (by rw [Move.isRC, control]; exact some)]
      rfl

end Sys2Proof.Machine

/-! PROOF. The deadlines of forming and joining, and the creation of a move (O19, O25). -/

namespace Sys2Proof.Machine

set_option Elab.async false

/-! ## The forming deadline (R10) -/

/-- R10: a move fails where its locomotive is missing, or its controller. -/
theorem formingFails_of {m : Move}
    (h : m.loco.joined = false ∨ ∃ c, m.controller = some c ∧ ∀ e ∈ m.members, e.unit = c → e.joined = false) :
    m.formingFails = true := by
  unfold Move.formingFails
  rcases h with loco | ⟨c, control, missing⟩
  · simp [loco]
  · have none : (m.member c).any (·.joined) = false := by
      rw [Option.any_eq_false]
      intro e found
      simpa using missing e (List.mem_of_find?_eq_some found) (by simpa using List.find?_some found)
    simp [control, none]

/-- In a list without a key twice, the entry found by its key is the entry. -/
theorem find?_of_nodup {m : Move} {e : Member} (nodup : m.units.Nodup) (mem : e ∈ m.members) : m.member e.unit = some e := by
  obtain ⟨x, found⟩ := Option.isSome_iff_exists.1 (List.find?_isSome.2 ⟨e, mem, by simp⟩ :
    (m.members.find? (fun x => x.unit == e.unit)).isSome = true)
  have key : x.unit = e.unit := by simpa using List.find?_some found
  rw [Move.member, found, List.inj_on_of_nodup_map nodup (List.mem_of_find?_eq_some found) mem key]

theorem not_formingFails_of {m : Move} (nodup : m.units.Nodup) (loco : m.loco.joined = true)
    (control : ∀ c, m.controller = some c → ∃ e ∈ m.members, e.unit = c ∧ e.joined = true) : m.formingFails = false := by
  unfold Move.formingFails
  cases hc : m.controller with
  | none => simp [loco]
  | some c =>
    obtain ⟨e, mem, rfl, joined⟩ := control c hc
    simp [loco, find?_of_nodup nodup mem, joined]

/-- R10: the handsets that are dropped. -/
theorem dropped_eq {m : Move} {dropped : List UnitId}
    (h : (∃ e ∈ m.handsets, e.joined = true) ∧ dropped = (m.handsets.filter (fun e => !e.joined)).map (·.unit) ∨
      (∀ e ∈ m.handsets, e.joined = false) ∧ dropped = m.handsets.tail.map (·.unit)) : m.dropped = dropped := by
  unfold Move.dropped
  rcases h with ⟨some, rfl⟩ | ⟨none, rfl⟩
  · rw [if_pos (List.any_eq_true.2 some)]
  · rw [if_neg (by simpa using none), List.drop_one]

/-- R10: the record of a move that has become ACTIVE without the handsets that are dropped. -/
theorem becomesActive_fields (now : Time) (m : Move) : (m.becomesActive now).state = .active ∧
    (m.becomesActive now).formingDeadline = none ∧ (m.becomesActive now).loco = m.loco ∧
    (m.becomesActive now).controller = m.controller ∧ (m.becomesActive now).handsets = m.handsets ∧
    (m.controller.isSome = true → (m.becomesActive now).windowStart = some now ∧
      (m.becomesActive now).deadline = some (now + BitVec.ofNat 32 (4 * m.interval))) := by
  unfold Move.becomesActive
  split
  · exact ⟨rfl, rfl, rfl, rfl, rfl, fun _ => ⟨rfl, rfl⟩⟩
  · next conventional => exact ⟨rfl, rfl, rfl, rfl, rfl, fun rc => absurd rc conventional⟩

/-- R10: the register after the forming deadline. -/
theorem formingEnds_unit {i : MoveIx} {m : Move} {s : State} (hm : s.move i = some m) (v : UnitId) :
    (formingEnds i m s).unit v = if v ∈ (if m.formingFails then m.units else m.dropped) then (s.unit v).map (UnitRec.unbound s.time)
      else s.unit v := by
  unfold formingEnds
  split
  · rw [State.unit_congr (notify_only _ _ _).units, freeMove_unit]
  · rw [State.unit_congr (notify_only _ _ _).units, State.unit_congr (modMove_only _ _ _).units, removeHandsets_unit _ hm]

theorem missing_of_not_joined {m : Move} (h : ∃ e ∈ m.members, e.joined = false) : m.allJoined = false := by
  obtain ⟨e, mem, out⟩ := h
  exact Bool.eq_false_iff.2 fun all => by simp [List.all_eq_true.1 all e mem] at out

theorem dropped_subset {m : Move} {x : UnitId} (h : x ∈ m.dropped) : x ∈ m.units := by
  unfold Move.dropped at h
  split at h
  · obtain ⟨e, he, rfl⟩ := List.mem_map.1 h
    exact List.mem_map_of_mem (.tail _ (List.mem_filter.1 he).1)
  · obtain ⟨e, he, rfl⟩ := List.mem_map.1 h
    exact List.mem_map_of_mem (.tail _ (List.mem_of_mem_drop he))

/-- Settles O25: `formingEnds`, and the fields that the other expiries change. -/
theorem formingAndJoiningTimers : Obligations.FormingAndJoiningTimers := by
  refine ⟨fun i m d s awake hm _ _ deadline due nodup missing => ?forming, fun i m s awake hm =>
    ⟨fun x e state he out low high start stop => ?repetition, fun x e d he out deadline due => ?added, fun r moved due missing => ?channel⟩⟩
  case forming =>
    have row : exec (.formingDeadline i) s = .next (settle (serveFreed s (formingEnds i m s))) := by
      refine (event_next awake).trans (next_settle_of_eq ?_)
      rw [hm, whenSome_some, deadline, expiry_reached due, missing_of_not_joined missing]
      rfl
    have moves (j : MoveIx) : (serveFreed s (formingEnds i m s)).move j = (formingEnds i m s).move j :=
      State.move_congr (serveFreed_only _ _).moves j
    have units (x : UnitId) : (serveFreed s (formingEnds i m s)).unit x = (formingEnds i m s).unit x :=
      State.unit_congr (serveFreed_only _ _).units x
    refine ⟨serveFreed s (formingEnds i m s), row, ((formingEnds_only _ _ _).trans ((serveFreed_only _ _).mono (by decide))).moveFields_eq,
      fun j hj => by rw [moves, formingEnds_move, if_neg hj], fun x hx => ?_, fun fails => ?_, fun dropped loco control which => ?_⟩
    · rw [units, formingEnds_unit hm, if_neg]
      split
      · exact hx
      · exact fun h => hx (dropped_subset h)
    · have failed := formingFails_of fails
      refine ⟨by rw [moves, formingEnds_move, if_pos rfl, if_pos failed], fun x hx r hr => ?_⟩
      rw [units, formingEnds_unit hm, if_pos failed, if_pos hx, hr]
      rfl
    · have stands := not_formingFails_of nodup loco control
      have own := dropped_eq which
      have record : (serveFreed s (formingEnds i m s)).move i =
          some ((m.dropped.foldl (fun n u => n.withoutHandset u) m).becomesActive s.time) := by
        rw [moves, formingEnds_move, if_pos rfl, stands, hm]
        rfl
      rw [foldl_withoutHandset, own] at record
      obtain ⟨active, none, loco', control', handsets, supervised⟩ := becomesActive_fields s.time { m with
        handsets := m.handsets.filter (fun e => decide (e.unit ∉ dropped))
        handover := if m.handover.any (fun h => decide (h.target ∈ dropped)) then none else m.handover }
      refine ⟨⟨_, record, active, none, loco', control', handsets, supervised⟩, fun x hx r hr => ?_⟩
      rw [units, formingEnds_unit hm, stands, own, hr]
      rfl
  case repetition =>
    refine (event_next awake).trans (next_settle_of_eq ?_)
    have due : e.joinDue s.time = true := by
      have sent : e.sends < 5 := by omega
      simp [Member.joinDue, out, low, sent, start, stop]
    rw [repeatJoin, hm, whenSome_some, Move.member, he, whenSome_some, if_pos ⟨state, due⟩]
    rfl
  case added =>
    refine (event_next awake).trans (next_settle_of_eq ?_)
    rw [hm, whenSome_some, Move.member, he, whenSome_some, deadline, expiry_reached due, out]
    rfl
  case channel =>
    refine (event_next awake).trans (next_settle_of_eq ?_)
    rw [hm, whenSome_some, moved, whenSome_some, expiry_reached due, missing_of_not_joined missing]
    rfl

/-! ## CREATE_MOVE (R4 to R6) -/

/-- The lowest number of an ascending list that passes a test. -/
theorem find?_lowest {n : Nat} {l : List (Fin n)} {p : Fin n → Bool} {i : Fin n} (ascending : l.Pairwise (· < ·)) (mem : i ∈ l)
    (passes : p i = true) (below : ∀ j, j < i → p j = false) : l.find? p = some i := by
  induction l with
  | nil => exact absurd mem (by simp)
  | cons x l ih =>
    obtain ⟨least, rest⟩ := List.pairwise_cons.1 ascending
    rcases List.mem_cons.1 mem with rfl | mem
    · simp [passes]
    · simp [below x (least i mem), ih rest mem]

theorem allMoves_ascending : allMoves.Pairwise (· < ·) := by decide

theorem mem_allMoves (i : MoveIx) : i ∈ allMoves := by revert i; decide

/-- R6, R116: the register with several units bound to a move. -/
theorem bindEach_unit (i : MoveIx) (us : List UnitId) (s : State) (v : UnitId) : (forEach us (bindUnit i) s).unit v =
    if v ∈ us then (s.unit v).map (fun r => { r with binding := some i }) else s.unit v := by
  induction us generalizing s with
  | nil => simp [forEach]
  | cons u us ih =>
    show (forEach us (bindUnit i) (bindUnit i u s)).unit v = _
    rw [ih, bindUnit, modUnit_unit]
    by_cases head : v = u <;> by_cases tail : v ∈ us <;> simp [head, tail, Function.comp_def]

theorem createMove_unit (link : Console) (i : MoveIx) (ch : Chan) (f : MoveFields) (s : State) (v : UnitId) :
    (createMove link i ch f s).unit v =
      if v ∈ named f then (s.unit v).map (fun r => { r with binding := some i }) else s.unit v := by
  unfold createMove
  rw [State.unit_congr (orderJoins_only _ _ _ _).units, bindEach_unit, setMove_unit]

/-- R4: what CREATE_MOVE checks of the units that it names. -/
structure Creatable (f : MoveFields) (ch : Chan) (s : State) : Prop where
  units : ∀ u ∈ named f, ∃ r, s.unit u = some r ∧ r.binding = none ∧ hasChan r.chans ch = true
  handsets : ∀ u ∈ f.handsets, s.kindOf u = some .handset
  control : s.kindOf f.loco = some .loco ∧ f.controller = none ∨
    s.kindOf f.loco = some .locoRc ∧ (∃ c ∈ f.handsets, f.controller = some c) ∧ ∀ u ∈ named f, ∀ r, s.unit u = some r → r.level = .l3

/-- R4 checks 11 to 14. -/
theorem checkController_passes {f : MoveFields} {ch : Chan} {s : State} (h : Creatable f ch s) (c : Cmd) :
    checkController s f c = c := by
  unfold checkController
  rcases h.control with ⟨loco, none⟩ | ⟨rc, ⟨u, mem, control⟩, levels⟩
  · rw [if_neg (by simp [loco]), none]
    rfl
  · have top : (named f).find? (fun v => (s.unit v).map (·.level) != some .l3) = none := by
      rw [List.find?_eq_none]
      intro v hv
      obtain ⟨r, hr, -⟩ := h.units v hv
      simp [hr, levels v hv r hr]
    rw [if_pos rc, control, need_some, top, noneOf_none]
    simp [check, mem]

/-- R4: CREATE_MOVE that passes every check. -/
theorem cmdCreateMove_passes {link : Console} {f : MoveFields} {i : MoveIx} {ch : Chan} {s : State} (service : s.part = .service)
    (free : s.move i = none) (below : ∀ j : MoveIx, j.val < i.val → (s.move j).isSome = true) (usable : usableFor s f.channel = some ch)
    (room : movesOn s ch < 6) (some : 1 ≤ f.handsets.length) (few : f.handsets.length ≤ 4) (nodup : (named f).Nodup)
    (h : Creatable f ch s) : cmdCreateMove link f s =
      (.accepted ((settledInterval s f).2 || (settledLimit s f).2) (.move i), createMove link i ch f s) := by
  have lowest : allMoves.find? (fun i => (s.move i).isNone) = .some i :=
    find?_lowest allMoves_ascending (mem_allMoves i) (by simp [free]) fun j hj => by
      have occupied := below j hj
      cases hj : s.move j <;> simp_all
  have known : (named f).find? (fun u => (s.unit u).isNone) = none := by
    rw [List.find?_eq_none]
    intro u hu
    obtain ⟨r, hr, -⟩ := h.units u hu
    simp [hr]
  have unbound : (named f).find? (fun u => (s.bindingOf (.unit u)).isSome) = none := by
    rw [List.find?_eq_none]
    intro u hu
    obtain ⟨r, hr, none, -⟩ := h.units u hu
    simp [State.bindingOf, hr, none]
  have kinds : kindOffender s f = none := by
    unfold kindOffender
    rw [if_pos (h.control.imp (·.1) (·.1)), List.find?_eq_none]
    intro u hu
    simp [h.handsets u hu]
  have supported : (named f).find? (fun u => !(s.unit u).any (fun r => hasChan r.chans ch)) = none :=
    supported_by_all fun u hu => by
      obtain ⟨r, hr, -, supports⟩ := h.units u hu
      exact ⟨r, hr, supports⟩
  rw [cmdCreateMove, look_apply, check_apply, if_pos (by simp [service]), lowest, need_some, usable, need_some, check_apply,
    if_pos (by simpa using room), check_apply, if_pos (by simp [some, few]), check_apply, if_pos (by simp [nodup]), known, noneOf_none,
    unbound, noneOf_none, kinds, noneOf_none, supported, noneOf_none, checkController_passes h, accept_apply]

/-- Settles O19: `createMove`. -/
theorem createMoveFillsTheRecord : Obligations.CreateMoveFillsTheRecord := by
  intro link f i ch s listening service free below target apart inUse isOpen room some few nodup units handsets control
  have creatable : Creatable f ch (hunt link s) :=
    ⟨by simpa [named] using units, by simpa using handsets, by simpa [named] using control⟩
  have passes := cmdCreateMove_passes (link := link) (f := f) (i := i) (ch := ch) (s := hunt link s) (by simpa using service)
    (by simpa using free) (by simpa using below) (usableFor_eq target apart (by simpa using inUse) (by simpa using isOpen))
    (by simpa [movesOn] using room) some few nodup creatable
  have record (x : UnitId) := createMove_unit link i ch f (hunt link s) x
  refine ⟨_, newMove link ch f (hunt link s), createMove link i ch f (hunt link s),
    exec_accepted (c := .createMove f) listening passes, ?fields, ?own, fun j hj => ?moves, fun x hx => ?bound, fun x hx => ?others,
    fun x => ?current, rfl, rfl, rfl, ?interval, ?limit, ?clamped⟩
  case fields =>
    have fields : Only [.moves, .units, .downlink, .links] s (createMove link i ch f (hunt link s)) :=
      ((hunt_only _ _).mono (by decide)).trans (createMove_only _ _ _ _ _)
    exact State.eq_of_fields fields.time fields.part fields.resetLine fields.channels fields.globals rfl fields.floors rfl rfl fields.slots
      fields.quiet fields.ports fields.tests fields.sequences fields.patterns fields.generators rfl fields.sent fields.pending
  case own => rw [createMove_move, if_pos rfl]
  case moves => rw [createMove_move, if_neg hj, hunt_move]
  case bound =>
    obtain ⟨r, hr, -⟩ := units x hx
    rw [State.bindingOf, record, if_pos (show x ∈ named f from hx), hunt_unit, hr]
    rfl
  case others => rw [record, if_neg (show x ∉ named f from hx), hunt_unit]
  case current =>
    rw [State.currentOf, State.currentOf, record, hunt_unit]
    split
    · cases s.unit x <;> rfl
    · rfl
  case interval => exact (clampField_fst (by decide : 500 ≤ 5000) ..).trans (by cases f.interval <;> simp)
  case limit => exact (clampField_fst (by decide : 1 ≤ 7) ..).trans (by cases f.faultLimit <;> simp [Nat.mod_one])
  case clamped =>
    have field {α : Type} (lo hi step old : Nat) (g : α → Nat) (v : Option α) :
        (clampField lo hi step old (v.map g)).2 = fieldClamped lo hi (v.map g) := by cases v <;> rfl
    simp only [settledInterval, settledLimit, field, Bool.or_eq_true, fieldClamped_iff]

end Sys2Proof.Machine

/-! PROOF. The service decision and the requests that a floor takes at once, queues or denies (O32, O33, O34). -/

namespace Sys2Proof.Machine

set_option Elab.async false

/-! ## The queue (R53 to R63) -/

/-- What a fold chooses, when one of the list is chosen over what stands before it and kept against what stands behind it. -/
theorem foldl_chooses {α : Type} {step : Option α → α → Option α} {before behind : List α} {e : α}
    (choice : ∀ o x, step o x = some x ∨ step o x = o) (first : step none e = some e)
    (front : ∀ y ∈ before, step (some y) e = some e) (back : ∀ y ∈ behind, step (some e) y = some e) :
    (before ++ e :: behind).foldl step none = some e := by
  have reached : step (before.foldl step none) e = some e := by
    cases h : before.foldl step none with
    | none => exact first
    | some y => exact front y ((foldl_choice_mem choice h).resolve_right (by simp))
  have kept : ∀ l : List α, (∀ y ∈ l, step (some e) y = some e) → l.foldl step (some e) = some e := by
    intro l
    induction l with
    | nil => exact fun _ => rfl
    | cons y l ih => exact fun h => by rw [List.foldl_cons, h y (.head _), ih fun z hz => h z (.tail _ hz)]
  rw [List.foldl_append, List.foldl_cons, reached]
  exact kept behind back

/-- R57: the entry that the statements call weakest is the one that a newcomer is compared with. -/
theorem IsWeakest.weakestEntry {ch : Chan} {e : Entry} {s : State} (h : IsWeakest ch e s) :
    Machine.weakestEntry s.time (s.chan ch).ageStep (s.floor ch).queue = some e := by
  obtain ⟨before, behind, queue, front, back⟩ := h
  rw [queue]
  refine foldl_chooses (fun o x => ?_) rfl (fun y hy => if_pos (front y hy)) (fun y hy => if_neg (Nat.not_le.2 (back y hy)))
  cases o with
  | none => exact .inl rfl
  | some y =>
    by_cases weaker : rank s.time (s.chan ch).ageStep x ≤ rank s.time (s.chan ch).ageStep y
    · exact .inl (if_pos weaker)
    · exact .inr (if_neg weaker)

theorem withoutParty_eq (p : Party) (q : List Entry) : withoutParty p q = q.filter (fun e => decide (e.party ≠ p)) := by
  refine List.filter_congr fun e _ => ?_
  by_cases h : e.party = p <;> simp [h]

theorem withoutParty_of_absent {p : Party} {q : List Entry} (h : ∀ e ∈ q, e.party ≠ p) : withoutParty p q = q :=
  List.filter_eq_self.2 fun e he => by simpa using h e he

theorem entryOf_of_absent {p : Party} {q : List Entry} (h : ∀ e ∈ q, e.party ≠ p) : entryOf p q = none :=
  List.find?_eq_none.2 fun e he => by simpa using h e he

theorem queueRefuses_of_room {now : Time} {step : Nat} {cls : TalkClass} {q : List Entry} (h : q.length < 8) :
    queueRefuses now step cls q = false := by
  simp [queueRefuses, h]

/-- R55: a queue with room takes an entry at the end. -/
theorem enterQueue_of_room {ch : Chan} {p : Party} {cls : TalkClass} {s : State} (h : (s.floor ch).queue.length < 8) :
    enterQueue ch p cls s = modFloor ch (fun f => { f with queue := f.queue ++ [newEntry s ch p cls] }) s := by
  have nobody : displacedBy s.time (s.chan ch).ageStep cls (s.floor ch).queue = none := if_pos h
  rw [enterQueue, makeRoom, nobody]

/-- An answer does not read what a floor holds, but whether it takes frames. -/
theorem modFloor_answer {ch c : Chan} {p : Party} {a : TalkAnswer} {s : State} {g : Floor → Floor} (same : ∀ f, (g f).state = f.state) :
    modFloor ch g (answer c p a s) = answer c p a (modFloor ch g s) := by
  cases p with
  | console k => rfl
  | unit u =>
    show modFloor ch g (placeFrame c _ s) = placeFrame c _ (modFloor ch g s)
    have takes : takesFrames ((modFloor ch g s).floor c) = takesFrames (s.floor c) := by
      by_cases e : c = ch
      · subst e; simp [takesFrames, same]
      · simp [e]
    have frames : (modFloor ch g s).frames c = s.frames c := rfl
    unfold placeFrame
    rw [takes, frames]
    split
    · split <;> rfl
    · rfl

/-! ## The service decision (R58, R59) -/

/-- R165: a pattern that plays from its first step. -/
theorem startPlay_starts {ch : Chan} {mode : PlayMode} {k : PatternIx} {t : Pattern} {st : ToneStep} {sts : List ToneStep} {s : State}
    (defined : s.patterns.get k = some t) (steps : t.steps = st :: sts) : startPlay ch mode k s = setGenerator ch (some {
      mode := mode, pattern := k, start := s.time, rep := 1, step := 0
      stepEnd := s.time + BitVec.ofNat 32 (10 * st.duration), output := ⟨st.divider, st.level⟩ }) s := by
  cases t
  cases steps
  rw [startPlay, defined]
  rfl

/-- R169: the generator after an alert begins to play. -/
theorem startSeize_generator {ch : Chan} {a : Alert} {rest : List Alert} {t : Pattern} {st : ToneStep} {sts : List ToneStep} {s : State}
    (alerts : (s.floor ch).alerts = a :: rest) (defined : s.patterns.get a.pattern = some t) (steps : t.steps = st :: sts) :
    (startSeize ch s).generator ch = some {
      mode := .seize, pattern := a.pattern, start := s.time, rep := 1, step := 0
      stepEnd := s.time + BitVec.ofNat 32 (10 * st.duration), output := ⟨st.divider, st.level⟩ } := by
  unfold startSeize
  rw [alerts]
  dsimp only
  have gated : Only talkFields s (setGenerator ch none (setGate ch none (modFloorTested ch
      (fun f => { f.takes .alert with hang := none, alerts := { a with playing := true } :: rest }) s))) :=
    (((modFloorTested_frame _ _ _).trans (setGate_frame _ _ _)).trans (setGenerator_frame _ _ _)).only
  revert gated
  generalize setGenerator ch none _ = u
  intro gated
  rw [startPlay_starts (by rw [gated.patterns]; exact defined) steps, gated.time]
  exact Tab.get_put_self _ _ _

/-- Settles O32: `serviceDecision` grants by `issueGrant` and plays by `startSeize`. -/
theorem serviceDecisionPlaysOrGrants : Obligations.ServiceDecisionPlaysOrGrants := by
  intro ch s
  refine ⟨serviceDecision_of_ne, fun _ none empty => serviceDecision_empty none empty, fun e idle none best => ?grants,
    fun a rest pat st sts idle alerts defined steps => ?plays⟩
  case grants =>
    rw [serviceDecision_grants idle none best]
    refine ⟨issueGrant_granted _ _ _ _ _ (by simp [idle]), issueGrant_frame _ _ _ _ _, ?_⟩
    rw [issueGrant_floor_self, Floor.retest_queue]
    exact withoutParty_eq _ _
  case plays =>
    have frame := serviceDecision_frame ch s
    rw [serviceDecision_plays idle (by simp [alerts])] at frame ⊢
    refine ⟨frame, ?_, ?_, ?_, ?_, startSeize_generator alerts defined steps⟩
    all_goals rw [startSeize_floor_self ch s a rest alerts]
    · simp [Floor.takes_state, idle]
    · simp
    · simp

/-! ## The request of a unit or of a console (R29, R32) -/

/-- R29, R32: the outcome of a request that has passed its checks: of a party that is locked out, and of any other. -/
def requested (ch : Chan) (p : Party) (cls : TalkClass) (s : State) : State :=
  if (s.floor ch).lockedOut p then answer ch p (.denied cls .lockedOut) s else talkOutcome ch p cls s

theorem lockedOut_iff {f : Floor} {p : Party} : f.lockedOut p = true ↔ ∃ l ∈ f.lockouts, l.party = p := by
  simp [Floor.lockedOut]

theorem classOf_eq {b : Byte} {cls : TalkClass} (h : b.toNat = cls.order) : classOf b = some cls := by
  cases cls <;> simp [classOf, h, TalkClass.order]

/-- R29: a unit's request on its current channel. -/
theorem talkReqBy_eq {ch : Chan} {u : UnitId} {b : Byte} {cls : TalkClass} {s : State} (class_ : b.toNat = cls.order)
    (below : cls ≠ .emergency) (at_ : s.currentOf u = ch) : talkReqBy ch u b s = requested ch (.unit u) cls s := by
  have here : ¬ s.currentOf u ≠ ch := fun h => h at_
  rw [talkReqBy, classOf_eq class_]
  cases cls with
  | emergency => exact absurd rfl below
  | routine | work | urgent =>
    dsimp only
    rw [if_neg here]
    rfl

theorem exec_talkReq {p : Port} {ch : Chan} {src : UnitId} {b : Byte} {cls : TalkClass} {s : State} (at_ : Arrives p ch src s)
    (here : s.currentOf src = ch) (class_ : b.toNat = cls.order) (below : cls ≠ .emergency) :
    exec (.talkReq p src b) s = .next (settle (requested ch (.unit src) cls (refresh src s))) :=
  (arrives_event at_).trans (next_settle_of_eq (talkReqBy_eq class_ below ((refresh_currentOf _ _ _).trans here)))

/-- R32: the checks of a console's request. -/
theorem cmdTalkRequest_passes {link : Console} {b k : Byte} {ch : Chan} {cls : TalkClass} {s : State} (service : s.part = .service)
    (named : NamesChannel b ch s) (carried : uncarried s ch = false) (class_ : k.toNat = cls.order) :
    cmdTalkRequest link b k s = (.accepted false .none, consoleRequest link ch cls s) := by
  have inUse : inUseChan s b = some ch := by simp [inUseChan, chanOf_eq named.1, named.2]
  rw [cmdTalkRequest, look_apply, check_apply, if_pos (by simp [service]), classOf_eq class_, need_some, inUse, need_some, check_apply,
    if_pos (by simp [carried]), done_apply]

theorem exec_talkRequest {link : Console} {b k : Byte} {ch : Chan} {cls : TalkClass} {s : State} (listening : Listening link s)
    (service : s.part = .service) (named : NamesChannel b ch s) (untransferred : (s.floor ch).state ≠ .transfer)
    (unclosed : (s.floor ch).state ≠ .closed) (class_ : k.toNat = cls.order) :
    exec (.talkRequest link b k) s =
      answeredWith link 0x20#8 (.accepted false .none) (consoleRequest link ch cls (hunt link s)) := by
  refine exec_accepted (c := .talkRequest b k) listening (cmdTalkRequest_passes (by simpa using service)
    ⟨named.1, by simpa using named.2⟩ ?_ class_)
  simp [uncarried, untransferred, unclosed]

theorem consoleRequest_eq {link : Console} {ch : Chan} {cls : TalkClass} {s : State} (below : cls ≠ .emergency) :
    consoleRequest link ch cls s = requested ch (.console link) cls s := by
  cases cls with
  | emergency => exact absurd rfl below
  | routine | work | urgent => rfl

/-! ## A free floor (R30, R33) -/

/-- R27: a grant as the statements write it depends on the party's binding, the time, the channel's parameters and the floor. -/
theorem Granted.congr {ch : Chan} {p : Party} {cls : TalkClass} {s t u : State} (h : Granted ch p cls t u) (time : t.time = s.time)
    (chan : t.chan ch = s.chan ch) (heard : (t.floor ch).heard = (s.floor ch).heard) (move : t.bindingOf p = s.bindingOf p) :
    Granted ch p cls s u := by
  have taken : takenUpAtIssue (t.floor ch) p = takenUpAtIssue (s.floor ch) p := by
    cases p with
    | console c => rfl
    | unit x => simp [takenUpAtIssue, heard]
  unfold Granted at h ⊢
  rwa [taken, time, chan, move] at h

/-- What makes a floor free for a party (R30). -/
structure FreeFor (ch : Chan) (x : Party) (s : State) : Prop where
  ungranted : (s.floor ch).grant = none
  unlocked : ∀ l ∈ (s.floor ch).lockouts, l.party ≠ x
  absent : ∀ e ∈ (s.floor ch).queue, e.party ≠ x
  state : (s.floor ch).state = .idle ∧ (s.floor ch).queue = [] ∧ (s.floor ch).alerts = [] ∨
    (s.floor ch).state = .hang ∧ (∀ e ∈ (s.floor ch).queue, e.cls ≠ .emergency) ∧ ∃ h, (s.floor ch).hang = some h ∧
      h.reservation = (match s.bindingOf x with | some i => .move i | none => .party x)

theorem matchesHang_iff (s : State) (x : Party) (h : Hang) : matchesHang s x h = true ↔
    h.reservation = (match s.bindingOf x with | some i => .move i | none => .party x) := by
  unfold matchesHang
  cases s.bindingOf x <;> exact beq_iff_eq

theorem hasEmergency_eq_false {q : List Entry} : hasEmergency q = false ↔ ∀ e ∈ q, e.cls ≠ .emergency := by
  simp [hasEmergency]

/-- R30 outcome 3: the one entry of a queue is granted. -/
theorem requestInIdle_grants {ch : Chan} {x : Party} {cls : TalkClass} {s : State} (idle : (s.floor ch).state = .idle)
    (queue : (s.floor ch).queue = []) (alerts : (s.floor ch).alerts = []) :
    Granted ch x cls s (requestInIdle ch x cls s) ∧ ((requestInIdle ch x cls s).floor ch).queue = [] := by
  have room : (s.floor ch).queue.length < 8 := by simp [queue]
  have entered := enterQueue_of_room (p := x) (cls := cls) room
  have own : ((enterQueue ch x cls s).floor ch) = { s.floor ch with queue := [newEntry s ch x cls] } := by
    rw [entered, modFloor_floor_self, queue]; rfl
  have best : IsBest ch (newEntry s ch x cls) (enterQueue ch x cls s) :=
    ⟨[], [], by rw [own]; rfl, by simp, by simp⟩
  have granted := serviceDecision_grants (by rw [own]; exact idle) (by rw [own]; exact alerts) best
  have left : ((serviceDecision ch (enterQueue ch x cls s)).floor ch).queue = [] := by
    rw [granted, issueGrant_floor_self, Floor.retest_queue, own]
    show withoutParty x [newEntry s ch x cls] = []
    simp [withoutParty, newEntry]
  have result : requestInIdle ch x cls s = serviceDecision ch (enterQueue ch x cls s) := by
    rw [requestInIdle, queueRefuses_of_room room]
    simp [left, entryOf]
  rw [result]
  refine ⟨?_, left⟩
  rw [granted]
  exact (issueGrant_granted _ ch x cls _ (by rw [own]; simp [idle])).congr (by rw [entered]; rfl) (by rw [entered]; rfl)
    (by rw [own]) (by rw [entered]; rfl)

/-- R30: a request on a free floor is granted. -/
theorem FreeFor.grants {ch : Chan} {x : Party} {s : State} (h : FreeFor ch x s) (cls : TalkClass) :
    Granted ch x cls s (requested ch x cls s) ∧ ((requested ch x cls s).floor ch).queue = (s.floor ch).queue ∧
      TalkFrame ch s (requested ch x cls s) := by
  have unlocked : ¬ (s.floor ch).lockedOut x = true := by
    rw [lockedOut_iff]
    rintro ⟨l, hl, own⟩
    exact h.unlocked l hl own
  have unheld : (s.floor ch).heldBy x = false := by simp [Floor.heldBy, h.ungranted]
  rw [requested, if_neg unlocked]
  have frame := talkOutcome_frame ch x cls s
  have outcome : Granted ch x cls s (talkOutcome ch x cls s) ∧ ((talkOutcome ch x cls s).floor ch).queue = (s.floor ch).queue := by
    rcases h.state with ⟨idle, queue, alerts⟩ | ⟨hangs, calm, hang, some, reserved⟩
    · have taken : talkOutcome ch x cls s = requestInIdle ch x cls s := by
        rw [talkOutcome, unheld, entryOf_of_absent h.absent, idle]; rfl
      rw [taken, queue]
      exact requestInIdle_grants idle queue alerts
    · have matched : (s.floor ch).hang.any (matchesHang s x) ∧ hasEmergency (s.floor ch).queue = false :=
        ⟨by rw [some]; exact (matchesHang_iff s x hang).2 reserved, hasEmergency_eq_false.2 calm⟩
      have taken : talkOutcome ch x cls s = issueGrant (s.floor ch).isForeign ch x cls s := by
        rw [talkOutcome, unheld, entryOf_of_absent h.absent, hangs]
        exact if_pos matched
      rw [taken]
      refine ⟨issueGrant_granted _ _ _ _ _ (by simp [hangs]), ?_⟩
      rw [issueGrant_floor_self, Floor.retest_queue]
      exact withoutParty_of_absent h.absent
  exact ⟨outcome.1, outcome.2, frame⟩

theorem class_of_word {b : Byte} {cls : TalkClass} (low : b.toNat ≤ 2)
    (class_ : b.toNat = (match cls with | .routine => 0 | .work => 1 | .urgent => 2 | .emergency => 3)) :
    b.toNat = cls.order ∧ cls ≠ .emergency := by
  cases cls <;> simp_all [TalkClass.order]

theorem talkFrame_of_hunt {ch : Chan} {link : Console} {s u : State} (h : TalkFrame ch (hunt link s) u) : TalkFrame ch s u :=
  TalkFrame.trans (.of_only ((hunt_only link s).mono (by decide)) (fun _ _ => by simp) (fun _ => by simp)) h

/-- Settles O33: a floor that is free for a party grants its request. -/
theorem talkRequestOnAFreeFloorIsGranted : Obligations.TalkRequestOnAFreeFloorIsGranted := by
  intro ch x cls s ungranted unlocked absent state
  have free : FreeFor ch x s := ⟨ungranted, unlocked, absent, state⟩
  refine ⟨fun p src b own at_ here low class_ => ?unit, fun link b k own listening service named low class_ => ?console⟩
  case unit =>
    obtain ⟨class_, below⟩ := class_of_word low class_
    subst own
    have free' : FreeFor ch (.unit src) (refresh src s) :=
      ⟨ungranted, unlocked, absent, by rw [refresh_bindingOf]; exact state⟩
    obtain ⟨granted, queue, frame⟩ := free'.grants cls
    exact ⟨_, exec_talkReq at_ here class_ below, granted.congr rfl rfl rfl (refresh_bindingOf _ _ _), frame, queue⟩
  case console =>
    obtain ⟨class_, below⟩ := class_of_word low class_
    subst own
    have free' : FreeFor ch (.console link) (hunt link s) :=
      ⟨ungranted, unlocked, absent, by rw [hunt_bindingOf]; exact state⟩
    obtain ⟨granted, queue, frame⟩ := free'.grants cls
    have carried : (s.floor ch).state ≠ .transfer ∧ (s.floor ch).state ≠ .closed := by
      rcases state with ⟨idle, -⟩ | ⟨hangs, -⟩ <;> simp [*]
    refine ⟨_, (exec_talkRequest listening service named carried.1 carried.2 class_).trans
      (answered_of_eq rfl (consoleRequest_eq below)), granted.congr ?_ ?_ ?_ ?_, talkFrame_of_hunt frame, queue⟩ <;> simp

end Sys2Proof.Machine

/-! PROOF. The requests that a busy floor ignores, queues, renews or denies (O34). -/

namespace Sys2Proof.Machine

set_option Elab.async false

/-! ## Entries that are renewed and that wait (R55, R61 to R63) -/

/-- Two states with the same floors, times, parameters and bindings: what a request reads. -/
structure Alike (s t : State) : Prop where
  floors : t.floors = s.floors
  time : t.time = s.time
  channels : t.channels = s.channels
  binding : ∀ p, t.bindingOf p = s.bindingOf p

namespace Alike

variable {s t : State}

theorem refresh (u : UnitId) (s : State) : Alike s (refresh u s) := ⟨rfl, rfl, rfl, refresh_bindingOf u s⟩

theorem hunt (link : Console) (s : State) : Alike s (hunt link s) := ⟨rfl, rfl, rfl, hunt_bindingOf link s⟩

theorem floor (h : Alike s t) (ch : Chan) : t.floor ch = s.floor ch := State.floor_congr h.floors ch

theorem chan (h : Alike s t) (ch : Chan) : t.chan ch = s.chan ch := State.chan_congr h.channels ch

theorem modFloor_eq (h : Alike s t) (ch : Chan) (g : Floor → Floor) :
    modFloor ch g t = { t with floors := s.floors.put ch (g (s.floor ch)) } := by
  rw [← h.floors, ← h.floor ch]
  rfl

end Alike

variable {ch : Chan} {x : Party} {cls : TalkClass} {s s0 : State} {asked : Host.Outcome State Fault Refusal}
  {taken : State → Host.Outcome State Fault Refusal}

/-- R63: the entry of a party that asks again. -/
theorem renewEntry_eq (alike : Alike s s0) (ch : Chan) (x : Party) (cls : TalkClass) : renewEntry ch x cls s0 = { s0 with
    floors := s.floors.put ch { s.floor ch with queue := (s.floor ch).queue.map (fun e =>
      if e.party = x then { e with cls := if e.cls.order < cls.order then cls else e.cls, move := s.bindingOf x } else e) } } := by
  refine (alike.modFloor_eq ch _).trans ?_
  simp only [alike.binding, higherClass, beq_iff_eq]

theorem renews_of {t : State} (alike : Alike s s0) (result : asked = taken t)
    (renewed : ∀ e, entryOf x (s0.floor ch).queue = some e → t = answer ch x (.queued (higherClass e.cls cls)) (renewEntry ch x cls s0)) :
    Renews ch x cls s s0 asked taken := by
  intro e found
  rw [result, renewed e (by rw [alike.floor]; exact found), renewEntry_eq alike]
  rfl

/-- R55: a queue with room takes the newcomer. -/
theorem enqueue_of_room (room : (s.floor ch).queue.length < 8) : enqueue ch x cls s = answer ch x (.queued cls)
    (modFloor ch (fun f => { f with queue := f.queue ++ [newEntry s ch x cls] }) s) := by
  rw [enqueue, queueRefuses_of_room room, enterQueue_of_room room]
  rfl

theorem modFloor_modFloor (ch : Chan) (f g : Floor → Floor) (s : State) :
    modFloor ch g (modFloor ch f s) = modFloor ch (fun x => g (f x)) s := by
  simp [modFloor, setFloor, State.floor]

/-- R61, R62: at a full queue the newcomer takes the place of the weakest entry, where it outranks it. -/
theorem enqueue_displaces {w : Entry} (full : 8 ≤ (s.floor ch).queue.length) (weakest : IsWeakest ch w s)
    (above : rank s.time (s.chan ch).ageStep w < cls.base) : enqueue ch x cls s = answer ch x (.queued cls)
      (answer ch w.party (.denied w.cls .queueFull)
        (modFloor ch (fun f => { f with queue := withoutParty w.party f.queue ++ [newEntry s ch x cls] }) s)) := by
  have displaced : displacedBy s.time (s.chan ch).ageStep cls (s.floor ch).queue = some w := by
    rw [displacedBy, if_neg (Nat.not_lt.2 full), weakest.weakestEntry]
    exact if_pos (decide_eq_true above)
  have admits : queueRefuses s.time (s.chan ch).ageStep cls (s.floor ch).queue = false := by simp [queueRefuses, displaced]
  rw [enqueue, admits, enterQueue, makeRoom, displaced]
  refine congrArg (answer ch x (.queued cls)) ?_
  exact (modFloor_answer (g := fun f => { f with queue := f.queue ++ [newEntry s ch x cls] }) (fun _ => rfl)).trans
    (congrArg (answer ch w.party _) (modFloor_modFloor _ _ _ _))

theorem enqueue_refuses {w : Entry} (full : 8 ≤ (s.floor ch).queue.length) (weakest : IsWeakest ch w s)
    (below : cls.base ≤ rank s.time (s.chan ch).ageStep w) : enqueue ch x cls s = answer ch x (.denied cls .queueFull) s := by
  have nobody : displacedBy s.time (s.chan ch).ageStep cls (s.floor ch).queue = none := by
    rw [displacedBy, if_neg (Nat.not_lt.2 full), weakest.weakestEntry]
    exact if_neg (by simpa using below)
  have refuses : queueRefuses s.time (s.chan ch).ageStep cls (s.floor ch).queue = true := by
    simp only [queueRefuses, nobody, Bool.and_eq_true]
    exact ⟨decide_eq_true full, rfl⟩
  rw [enqueue, refuses]
  rfl

theorem IsWeakest.alike {w : Entry} (alike : Alike s s0) (h : IsWeakest ch w s) : IsWeakest ch w s0 := by
  unfold IsWeakest
  rw [alike.floor, alike.time, alike.chan]
  exact h

/-- R55, R61, R62: a party that must wait. -/
theorem waits_of {base : Nat} (alike : Alike s s0) (renews : Renews ch x cls s s0 asked taken) (isBase : base = cls.base)
    (queues : (∀ e ∈ (s.floor ch).queue, e.party ≠ x) → asked = taken (enqueue ch x cls s0)) :
    Waits ch x cls base s s0 asked taken := by
  refine ⟨renews, fun new absent made => ?_⟩
  have entry : newEntry s0 ch x cls = new := by
    rw [made, newEntry, alike.time, alike.chan, alike.binding]
    rfl
  subst isBase
  rw [queues absent]
  refine ⟨fun room => ?_, fun w full weakest => ⟨fun above => ?_, fun below => ?_⟩⟩
  · rw [enqueue_of_room (by rw [alike.floor]; exact room), alike.modFloor_eq, entry]
  · rw [enqueue_displaces (by rw [alike.floor]; exact full) (weakest.alike alike) (by rw [alike.time, alike.chan]; exact above),
      alike.modFloor_eq, entry, withoutParty_eq]
  · rw [enqueue_refuses (by rw [alike.floor]; exact full) (weakest.alike alike) (by rw [alike.time, alike.chan]; exact below)]

/-! ## The request on a busy floor (R30) -/

theorem heldBy_of {f : Floor} {g : Grant} (granted : f.grant = some g) (own : g.holder = x) : f.heldBy x = true := by
  simp [Floor.heldBy, granted, own]

theorem not_heldBy_of {f : Floor} (h : ∀ g, f.grant = some g → g.holder ≠ x) : f.heldBy x = false := by
  rw [Bool.eq_false_iff, Ne, Floor.heldBy]
  cases granted : f.grant with
  | none => simp
  | some g => simpa using h g granted

theorem talkOutcome_renews {e : Entry} (unheld : (s.floor ch).heldBy x = false) (found : entryOf x (s.floor ch).queue = some e) :
    talkOutcome ch x cls s = answer ch x (.queued (higherClass e.cls cls)) (renewEntry ch x cls s) := by
  rw [talkOutcome, unheld, found]
  rfl

/-- R30: the floors on which a newcomer must wait. -/
def BusyFor (ch : Chan) (x : Party) (s : State) : Prop :=
  (s.floor ch).state = .granted ∨ (s.floor ch).state = .alert ∨
    (s.floor ch).state = .hang ∧ ((∃ e ∈ (s.floor ch).queue, e.cls = .emergency) ∨
      ∀ h, (s.floor ch).hang = some h → h.reservation ≠ (match s.bindingOf x with | some i => .move i | none => .party x))

theorem talkOutcome_waits (unheld : (s.floor ch).heldBy x = false) (absent : ∀ e ∈ (s.floor ch).queue, e.party ≠ x)
    (busy : BusyFor ch x s) : talkOutcome ch x cls s = enqueue ch x cls s := by
  rw [talkOutcome, unheld, entryOf_of_absent absent]
  rcases busy with granted | alert | ⟨hangs, other⟩
  · rw [granted]; rfl
  · rw [alert]; rfl
  · rw [hangs]
    have unfree : ¬ ((s.floor ch).hang.any (matchesHang s x) ∧ hasEmergency (s.floor ch).queue = false) := by
      rintro ⟨matched, calm⟩
      rcases other with ⟨e, he, emergency⟩ | apart
      · exact hasEmergency_eq_false.1 calm e he emergency
      · obtain ⟨h, some, own⟩ : ∃ h, (s.floor ch).hang = some h ∧ matchesHang s x h = true := by
          simpa [Option.any_eq_true] using matched
        exact apart h some ((matchesHang_iff s x h).1 own)
    exact if_neg unfree

theorem BusyFor.alike (alike : Alike s s0) (h : BusyFor ch x s) : BusyFor ch x s0 := by
  unfold BusyFor
  rw [alike.floor, alike.binding]
  exact h

/-- R30: what the two ways of asking have in common: the request is taken in `s0`, and `taken` completes the event. -/
theorem requested_of_asked {n : Nat} (order : n = cls.order) (below : cls ≠ .emergency)
    (way : (∃ (p : Port) (src : UnitId) (b : Byte), x = .unit src ∧ Arrives p ch src s ∧ s.currentOf src = ch ∧ b.toNat = n ∧
        asked = exec (.talkReq p src b) s ∧ s0 = refresh src s ∧ taken = fun u => .next (settle u)) ∨
      ∃ (link : Console) (b k : Byte), x = .console link ∧ Listening link s ∧ s.part = .service ∧ NamesChannel b ch s ∧
        (s.floor ch).state ≠ .transfer ∧ (s.floor ch).state ≠ .closed ∧ k.toNat = n ∧
        asked = exec (.talkRequest link b k) s ∧ s0 = hunt link s ∧ taken = answeredWith link 0x20#8 (.accepted false .none)) :
    Alike s s0 ∧ asked = taken (requested ch x cls s0) := by
  rcases way with ⟨p, src, b, rfl, at_, here, class_, rfl, rfl, rfl⟩ |
    ⟨link, b, k, rfl, listening, service, named, untransferred, unclosed, class_, rfl, rfl, rfl⟩
  · exact ⟨.refresh _ _, exec_talkReq at_ here (class_.trans order) below⟩
  · exact ⟨.hunt _ _, (exec_talkRequest listening service named untransferred unclosed (class_.trans order)).trans
      (answered_of_eq rfl (consoleRequest_eq below))⟩

/-- Settles O34: `talkOutcome` on a floor that the request does not free. -/
theorem talkRequestOnABusyFloor : Obligations.TalkRequestOnABusyFloor := by
  refine ⟨fun p ch src b s at_ => ⟨fun high => ?noClass, fun low elsewhere => ?offChannel⟩,
    fun link b k ch s listening service => ⟨fun high => ?badClass, fun low named state => ?uncarried⟩,
    fun ch x cls n base s s0 asked taken classes way => ?busy⟩
  case noClass =>
    refine (arrives_event at_).trans (next_settle_of_eq ?_)
    unfold talkReqBy
    split
    · rfl
    · rfl
    · next c notEmergency class_ =>
      unfold classOf at class_
      split at class_ <;> first | omega | simp_all
  case offChannel =>
    refine (arrives_event at_).trans (next_settle_of_eq ?_)
    obtain ⟨c, class_, below⟩ : ∃ c, classOf b = some c ∧ c ≠ .emergency := by
      have cases_ : b.toNat = 0 ∨ b.toNat = 1 ∨ b.toNat = 2 := by omega
      rcases cases_ with h | h | h
      · exact ⟨.routine, classOf_eq h, by simp⟩
      · exact ⟨.work, classOf_eq h, by simp⟩
      · exact ⟨.urgent, classOf_eq h, by simp⟩
    have away : (refresh src s).currentOf src ≠ ch := by rwa [refresh_currentOf]
    rw [talkReqBy, class_]
    cases c with
    | emergency => exact absurd rfl below
    | routine | work | urgent =>
      dsimp only
      rw [if_pos away]
      rfl
  case badClass =>
    have unknown : classOf k = none := by
      unfold classOf
      split <;> first | omega | rfl
    refine exec_listening (c := .talkRequest b k) listening ?_
    rw [runCommand, cmdTalkRequest, look_apply, check_apply, if_pos (by simp [service]), unknown, need_none, refuse_apply]
  case uncarried =>
    obtain ⟨cls, class_⟩ : ∃ cls, classOf k = some cls := by
      have cases_ : k.toNat = 0 ∨ k.toNat = 1 ∨ k.toNat = 2 ∨ k.toNat = 3 := by omega
      rcases cases_ with h | h | h | h
      · exact ⟨.routine, classOf_eq h⟩
      · exact ⟨.work, classOf_eq h⟩
      · exact ⟨.urgent, classOf_eq h⟩
      · exact ⟨.emergency, classOf_eq h⟩
    have inUse : inUseChan (hunt link s) b = some ch := by simp [inUseChan, chanOf_eq named.1, named.2]
    have lost : (!uncarried (hunt link s) ch) = false := by rcases state with h | h <;> simp [uncarried, h]
    refine exec_listening (c := .talkRequest b k) listening ?_
    rw [runCommand, cmdTalkRequest, look_apply, check_apply, if_pos (by simp [service]), class_, need_some, inUse, need_some, check_apply,
      lost]
    rfl
  case busy =>
    obtain ⟨order, isBase, below⟩ : n = cls.order ∧ base = cls.base ∧ cls ≠ .emergency := by
      simp only [List.mem_cons, Prod.mk.injEq, List.not_mem_nil, or_false] at classes
      rcases classes with ⟨rfl, rfl, rfl⟩ | ⟨rfl, rfl, rfl⟩ | ⟨rfl, rfl, rfl⟩ <;> exact ⟨rfl, rfl, by simp⟩
    obtain ⟨alike, result⟩ := requested_of_asked order below way
    refine ⟨fun locked => ?_, fun unlocked => ?_⟩
    · rw [result, requested, if_pos (by rw [alike.floor]; exact lockedOut_iff.2 locked)]
    · have free : ¬ (s0.floor ch).lockedOut x = true := by
        rw [alike.floor, lockedOut_iff]
        rintro ⟨l, hl, own⟩
        exact unlocked l hl own
      rw [requested, if_neg free] at result
      refine ⟨fun g granted own => ?_, fun others => ?_⟩
      · rw [result, talkOutcome, heldBy_of (f := s0.floor ch) (by rw [alike.floor]; exact granted) own]
        rfl
      · have unheld : (s0.floor ch).heldBy x = false := by rw [alike.floor]; exact not_heldBy_of others
        have renews : Renews ch x cls s s0 asked taken := renews_of alike result fun e found => talkOutcome_renews unheld found
        refine ⟨renews, fun busy => waits_of alike renews isBase fun absent => ?_⟩
        rw [result, talkOutcome_waits unheld (by rw [alike.floor]; exact absent) (BusyFor.alike alike busy)]

end Sys2Proof.Machine

/-! PROOF. The ends of a grant and the deadlines of a floor (O36, O37). -/

namespace Sys2Proof.Machine

set_option Elab.async false

/-! ## Lists that an entry enters (R41, R111) -/

/-- R41, R111: the earliest expiry is the one that lies furthest before the latest possible one. -/
theorem earliestIndex_eq {α : Type} {expiry : α → Time} {now : Time} {span : Nat} {before behind : List α} {x : α}
    (front : ∀ y ∈ before, elapsed (after now span) (expiry y) < elapsed (after now span) (expiry x))
    (back : ∀ y ∈ behind, elapsed (after now span) (expiry y) ≤ elapsed (after now span) (expiry x)) :
    earliestIndex now span ((before ++ x :: behind).map expiry) = before.length := by
  have forward : ∀ (l : List α) (i k best : Nat), (∀ y ∈ l, elapsed (after now span) (expiry y) < elapsed (after now span) (expiry x)) →
      best < elapsed (after now span) (expiry x) ∨ best = 0 ∧ l = [] ∧ k = i →
      ∃ k' best', (l.map expiry).foldl (fun (acc : Nat × Nat × Nat) t =>
        if acc.2.2 < elapsed (after now span) t then (acc.1 + 1, acc.1, elapsed (after now span) t)
        else (acc.1 + 1, acc.2)) (i, k, best) = (i + l.length, k', best') ∧
        (best' < elapsed (after now span) (expiry x) ∨ best' = 0 ∧ k' = i + l.length) := by
    intro l
    induction l with
    | nil => exact fun i k best _ h => ⟨k, best, rfl, h.imp id fun ⟨zero, _, same⟩ => ⟨zero, by simpa using same⟩⟩
    | cons y l ih =>
      intro i k best low h
      have least : best < elapsed (after now span) (expiry x) := h.resolve_right (by simp)
      rw [List.map_cons, List.foldl_cons, List.length_cons, Nat.add_comm l.length 1, ← Nat.add_assoc]
      split
      · exact ih _ _ _ (fun z hz => low z (.tail _ hz)) (.inl (low y (.head _)))
      · exact ih _ _ _ (fun z hz => low z (.tail _ hz)) (.inl least)
  have rest : ∀ (l : List α) (i k : Nat), (∀ y ∈ l, elapsed (after now span) (expiry y) ≤ elapsed (after now span) (expiry x)) →
      ((l.map expiry).foldl (fun (acc : Nat × Nat × Nat) t =>
        if acc.2.2 < elapsed (after now span) t then (acc.1 + 1, acc.1, elapsed (after now span) t)
        else (acc.1 + 1, acc.2)) (i, k, elapsed (after now span) (expiry x))).2.1 = k := by
    intro l
    induction l with
    | nil => exact fun _ _ _ => rfl
    | cons y l ih =>
      intro i k low
      rw [List.map_cons, List.foldl_cons, if_neg (Nat.not_lt.2 (low y (.head _)))]
      exact ih _ _ fun z hz => low z (.tail _ hz)
  have start : 0 < elapsed (after now span) (expiry x) ∨ 0 = 0 ∧ before = [] ∧ 0 = 0 := by
    cases before with
    | nil => exact .inr ⟨rfl, rfl, rfl⟩
    | cons y l => exact .inl (Nat.zero_lt_of_lt (front y (.head _)))
  obtain ⟨k, best, reached, less⟩ := forward before 0 0 0 front start
  unfold earliestIndex
  rw [List.map_append, List.foldl_append, reached, List.map_cons, List.foldl_cons]
  split
  · exact (rest behind _ _ back).trans (Nat.zero_add _)
  · next notLess =>
    obtain ⟨rfl, rfl⟩ := less.resolve_left notLess
    have zero : elapsed (after now span) (expiry x) = 0 := Nat.eq_zero_of_not_pos notLess
    have same := rest behind (0 + before.length + 1) (0 + before.length) back
    rw [zero] at same
    exact same.trans (Nat.zero_add _)

/-- R41, R111: how an entry enters a list of 8. -/
theorem enters_of {α β : Type} [DecidableEq β] {holder : α → β} {expiry : α → Time} {new : α} {xs out : List α} {now : Time} {span : Nat}
    (latest : expiry new = after now span)
    (h : out = if xs.any (fun x => holder x == holder new) then xs.map (fun x => if holder x == holder new then new else x)
      else if xs.length < 8 then xs ++ [new]
      else xs.eraseIdx (earliestIndex now span (xs.map expiry)) ++ [new]) : Enters holder expiry new xs out := by
  refine ⟨fun own => ?renewed, fun others room => ?added, fun before x behind others full split_ front back => ?displaced⟩
  case renewed =>
    rw [h, if_pos (by simpa using own)]
    simp only [beq_iff_eq]
  case added => rw [h, if_neg (by simpa using others), if_pos room]
  case displaced =>
    rw [latest] at front back
    rw [h, if_neg (by simpa using others), if_neg (Nat.not_lt.2 full), split_, earliestIndex_eq front back,
      List.eraseIdx_append_of_length_le (Nat.le_refl _), Nat.sub_self]
    rfl

theorem lockOut_enters (now : Time) (p : Party) (ls : List Lockout) :
    Enters (·.party) (·.expiry) ⟨p, now + 10000⟩ ls (lockOut now p ls) := enters_of rfl rfl

/-! ## Frames that stay (R126) -/

/-- R126: a placement displaces no frame of a class that is not above the newcomer's. -/
theorem placeFrame_keeps {ch c : Chan} {new f : Frame} {s : State} (below : f.priority ≤ new.priority) (apart : new.collapsesOnto f = false)
    (mem : f ∈ s.frames ch) : f ∈ (placeFrame c new s).frames ch := by
  by_cases e : ch = c
  · subst e
    rw [placeFrame_frames_self]
    split
    · unfold placeIn
      split
      · exact List.mem_map.2 ⟨f, mem, by simp [apart]⟩
      · split
        · exact List.mem_append_left _ mem
        · split
          · next above =>
            refine List.mem_append_left _ (List.mem_reverse.2 ?_)
            have other : ¬ (f.priority == highestClass (s.frames ch)) = true := by
              rw [beq_iff_eq]
              omega
            exact (List.mem_eraseP_of_neg (p := fun g => g.priority == highestClass (s.frames ch)) other).2 (List.mem_reverse.2 mem)
          · exact mem
    · exact mem
  · rw [placeFrame_frames_ne _ _ _ e]
    exact mem

/-- An answer to a unit keeps the answers before it. -/
theorem answer_keeps {ch c : Chan} {p : Party} {a : TalkAnswer} {f : Frame} {s : State} (class_ : f.priority ≤ 1)
    (mem : f ∈ s.frames ch) : f ∈ (answer c p a s).frames ch := by
  cases p with
  | console k => exact mem
  | unit u => exact placeFrame_keeps (class_.trans (by cases a <;> exact Nat.le_refl 1)) (by cases a <;> simp [Frame.collapsesOnto, TalkAnswer.frame]) mem

/-! ## The floor after a grant or a hang has ended (R40, R58) -/

/-- R40, R58: the service decision on a floor that an event has left IDLE. -/
theorem serviceDecision_freed {ch : Chan} {s t : State} (fields : Only talkFields s t) (idle : (t.floor ch).state = .idle)
    (ungranted : (t.floor ch).grant = none) (queue : (t.floor ch).queue = (s.floor ch).queue)
    (alerts : (t.floor ch).alerts = (s.floor ch).alerts) (heard : (t.floor ch).heard = (s.floor ch).heard) :
    Freed ch s (serviceDecision ch t) := by
  refine ⟨fun none empty => ?_, fun none e best => ?_⟩
  · rw [serviceDecision_empty (alerts.trans none) (queue.trans empty)]
    exact ⟨idle, ungranted⟩
  · have best' : IsBest ch e t := by
      unfold IsBest
      rw [queue, fields.time, State.chan_congr fields.channels]
      exact best
    rw [serviceDecision_grants idle (alerts.trans none) best']
    exact (issueGrant_granted _ _ _ _ _ (by simp [idle])).congr fields.time (State.chan_congr fields.channels ch) heard
      (State.bindingOf_congr fields.units _)

/-- R40 step 3: closing the gate leaves a floor as freed as it was. -/
theorem Freed.closeGate {ch : Chan} {s u : State} (h : Freed ch s u) : Freed ch s (closeGate ch u) := by
  refine ⟨fun none empty => ?_, fun none e best => ?_⟩
  · have own := h.1 none empty
    rw [closeGate_floor_self]
    split <;> exact own
  · have own := h.2 none e best
    unfold Granted at own ⊢
    rw [closeGate_floor_self, if_neg (by rw [own.2.2.2.2]; simp)]
    exact own

/-- R34: after a service decision and the closing of the gate, the gate is open for a holder alone. -/
theorem closeGate_gate {ch : Chan} {s : State} (ungranted : (s.floor ch).grant = none) :
    ((closeGate ch (serviceDecision ch s)).floor ch).gate = ((closeGate ch (serviceDecision ch s)).floor ch).grant.map (·.holder) := by
  have closed (t : State) (none : (t.floor ch).grant = none) :
      ((closeGate ch t).floor ch).gate = ((closeGate ch t).floor ch).grant.map (·.holder) := by
    rw [closeGate_floor_self, if_pos (by simp [none])]
    simp [none]
  unfold serviceDecision
  split
  · split
    · split
      · exact closed _ ungranted
      · rw [closeGate_floor_self, issueGrant_floor_self]
        simp [newGrant]
    · refine closed _ ?_
      unfold startSeize
      split
      · exact ungranted
      · simp [ungranted]
  · exact closed _ ungranted

/-- R40: the end of a grant with a floor that goes IDLE; the event may have changed the lockout list before. -/
theorem endGrantIdle_freed {ch : Chan} {ls : List Lockout} {s t : State} (r : Option AirReason) (before : Only talkFields s t)
    (same : t.floor ch = { s.floor ch with lockouts := ls }) (granted : (s.floor ch).state = .granted)
    (held : (s.floor ch).grant.isSome = true) : Freed ch s (endGrantIdle ch r t) ∧
      ((endGrantIdle ch r t).floor ch).gate = ((endGrantIdle ch r t).floor ch).grant.map (·.holder) := by
  have isSome : (t.floor ch).grant.isSome = true := by rw [same]; exact held
  have own := endGrant_floor_self ch r .idle t isSome
  have fields := before.trans (endGrant_frame ch r .idle t).only
  rw [endGrantIdle, if_pos isSome]
  exact ⟨(serviceDecision_freed fields (by rw [own]; simp [Floor.takes_state, same, granted]) (by simp [own]) (by simp [own, same])
    (by simp [own, same]) (by simp [own, same])).closeGate, closeGate_gate (by simp [own])⟩

theorem serviceDecision_lockouts (ch : Chan) (s : State) : ((serviceDecision ch s).floor ch).lockouts = (s.floor ch).lockouts := by
  unfold serviceDecision
  split
  · split
    · split
      · rfl
      · rw [issueGrant_floor_self]; simp
    · unfold startSeize
      split
      · rfl
      · simp
  · rfl

theorem endGrantIdle_lockouts (ch : Chan) (r : Option AirReason) (s : State) :
    ((endGrantIdle ch r s).floor ch).lockouts = (s.floor ch).lockouts := by
  unfold endGrantIdle
  split
  · next some =>
    have gated (t : State) : ((closeGate ch t).floor ch).lockouts = (t.floor ch).lockouts := by
      rw [closeGate_floor_self]; split <;> rfl
    rw [gated, serviceDecision_lockouts, endGrant_floor_self _ _ _ _ some]
    simp
  · rfl

/-- R33: the frames of a channel after a grant: the answer is the one that is placed. -/
theorem issueGrant_frames (was : Bool) (ch : Chan) (p : Party) (cls : TalkClass) (s : State) (c : Chan) :
    (issueGrant was ch p cls s).frames c = (answer ch p (.granted cls) (fillGrant ch p cls s)).frames c := by
  have after_ : Only [.floors, .ports, .sent, .generators] (answer ch p (.granted cls) (fillGrant ch p cls s)) (issueGrant was ch p cls s) := by
    refine Only.andThen (fs := [.floors, .ports, .sent, .generators]) ?_ (modFloor_only _ _ _)
    exact (setGate_only _ _ _).andThen (Only.iteFun (fs := [.generators]) _ (Only.ite _ (startPlay_only _ _ _ _) (.refl _ _)) (.refl _ _))
  exact State.frames_congr after_.downlink c

/-- R33: the service decision answers a party, and keeps the answers before it. -/
theorem serviceDecision_keeps_answer {ch : Chan} {f : Frame} {s : State} (class_ : f.priority ≤ 1) (mem : f ∈ s.frames ch) :
    f ∈ (serviceDecision ch s).frames ch := by
  have seized : (startSeize ch s).frames ch = s.frames ch := by
    unfold startSeize
    split
    · rfl
    · rw [State.frames_congr (startPlay_only _ _ _ _).downlink]
      exact State.frames_congr (setGate_only _ _ _).downlink ch
  unfold serviceDecision
  split
  · split
    · split
      · exact mem
      · next e _ =>
        have answered : f ∈ (answer ch e.party (.granted e.cls) (fillGrant ch e.party e.cls s)).frames ch :=
          answer_keeps class_ mem
        rw [issueGrant_frames]
        exact answered
    · rw [seized]; exact mem
  · exact mem

/-- R40 step 1: a unit whose grant ends is sent REVOKE. -/
theorem endGrantIdle_revokes {ch : Chan} {g : Grant} {x : UnitId} {r : AirReason} {s : State} (granted : (s.floor ch).state = .granted)
    (held : (s.floor ch).grant = some g) (own : g.holder = .unit x) (room : (s.frames ch).length < 16) :
    ⟨x, .revoke ch r⟩ ∈ (endGrantIdle ch (some r) s).frames ch := by
  have isSome : (s.floor ch).grant.isSome = true := by simp [held]
  have told : ⟨x, .revoke ch r⟩ ∈ (answer ch g.holder (.revoked g.cls r) s).frames ch := by
    rw [own]
    exact placeFrame_waits (by simp [takesFrames, granted]) room
  have dropped : ⟨x, .revoke ch r⟩ ∈ (endGrant ch (some r) .idle s).frames ch := by
    rw [endGrant, if_pos isSome, State.frames_congr (modFloor_only _ _ _).downlink, dropGrant, held]
    exact told
  rw [endGrantIdle, if_pos isSome, closeGate,
    State.frames_congr (Only.ite _ (setGate_only _ _ _) (.refl [.floors, .ports, .sent] _)).downlink]
  exact serviceDecision_keeps_answer (Nat.le_refl 1) dropped

/-- R39: a hang that ends, and the service decision after it. -/
theorem endHang_freed {ch : Chan} {s : State} (hangs : (s.floor ch).state = .hang) (ungranted : (s.floor ch).grant = none) :
    Freed ch s (serviceDecision ch (endHang ch s)) ∧ ((serviceDecision ch (endHang ch s)).floor ch).hang = none := by
  have own : (endHang ch s).floor ch = Floor.retest (s.floor ch).isForeign s.time { (s.floor ch).takes .idle with hang := none } := by
    rw [endHang, if_pos (by simp [Floor.effective, hangs]), modFloorTested_floor_self]
  have cleared (t : State) (gone : (t.floor ch).hang = none) : ((serviceDecision ch t).floor ch).hang = none := by
    unfold serviceDecision
    split
    · split
      · split
        · exact gone
        · rw [issueGrant_floor_self]; simp
      · unfold startSeize
        split
        · exact gone
        · simp
    · exact gone
  exact ⟨serviceDecision_freed (endHang_frame _ _).only (by rw [own]; simp [Floor.takes_state, hangs]) (by simp [own, ungranted])
    (by simp [own]) (by simp [own]) (by simp [own]), cleared _ (by simp [own])⟩

/-! ## The deadlines (R35, R37, R39, R41, R50, R51, R65) -/

/-- R171: the warning's MIX play. -/
theorem requestMix_eq {ch : Chan} {k : PatternIx} {pat : Pattern} {st : ToneStep} {sts : List ToneStep} {s : State}
    (defined : s.patterns.get k = some pat) (steps : pat.steps = st :: sts) : requestMix ch k s = { s with
      generators := if (s.floor ch).effective = .granted ∧ s.generator ch = none then
          s.generators.put ch (some {
            mode := .mix, pattern := k, start := s.time, rep := 1, step := 0
            stepEnd := s.time + BitVec.ofNat 32 (10 * st.duration), output := ⟨st.divider, st.level⟩ })
        else s.generators } := by
  rw [requestMix, startPlay_starts defined steps]
  simp only [Option.isNone_iff_eq_none]
  split <;> rfl

/-- Settles O37, deadline by deadline. -/
theorem floorExpiries : Obligations.FloorExpiries := by
  refine ⟨fun ch g c r s awake granted held timers => ?ends, fun ch s awake => ⟨fun g d pat st sts held warning due unwarned defined steps => ?warning,
    fun x => ?lockout, fun h hangs ungranted set due => ?hang, fun t0 h since heard due => ⟨fun episode => ?again, fun first => ?first⟩,
    fun d quiet due => ?quiet, fun x e found due => ?timeout⟩⟩
  case ends =>
    have isSome : (s.floor ch).grant.isSome = true := by simp [held]
    have plain : s.floor ch = { s.floor ch with lockouts := (s.floor ch).lockouts } := rfl
    rcases timers with ⟨rfl, rfl, d, set, due⟩ | ⟨rfl, rfl, d, set, due⟩ | ⟨rfl, rfl, d, set, due⟩
    case inl =>
      obtain ⟨freed, gate⟩ := endGrantIdle_freed (some .notTaken) (.refl _ s) plain granted isSome
      refine ⟨endGrantIdle ch (some .notTaken) s, (event_next awake).trans (next_settle_of_eq ?_), endGrantIdle_frame _ _ _, freed, gate,
        fun x own room => endGrantIdle_revokes granted held own room, fun _ => endGrantIdle_lockouts _ _ _, by simp⟩
      rw [grantTimer, held, whenSome_some, set]
      exact expiry_reached due
    case inr.inl =>
      obtain ⟨freed, gate⟩ := endGrantIdle_freed (some .silent) (.refl _ s) plain granted isSome
      refine ⟨endGrantIdle ch (some .silent) s, (event_next awake).trans (next_settle_of_eq ?_), endGrantIdle_frame _ _ _, freed, gate,
        fun x own room => endGrantIdle_revokes granted held own room, fun _ => endGrantIdle_lockouts _ _ _, by simp⟩
      rw [grantTimer, held, whenSome_some, set]
      exact expiry_reached due
    case inr.inr =>
      have frame := modFloor_frame ch (fun f => { f with lockouts := lockOut s.time g.holder f.lockouts }) s
      have same := modFloor_floor_self ch (fun f => { f with lockouts := lockOut s.time g.holder f.lockouts }) s
      obtain ⟨freed, gate⟩ := endGrantIdle_freed (some .overtalk) frame.only same granted isSome
      refine ⟨cutOvertalk ch g s, (event_next awake).trans (next_settle_of_eq ?_), frame.trans (endGrantIdle_frame _ _ _), freed, gate,
        fun x own room => endGrantIdle_revokes (by rw [same]; exact granted) (by rw [same]; exact held) own room, by simp, fun _ => ?_⟩
      · rw [held, whenSome_some, set]
        exact expiry_reached due
      · rw [cutOvertalk, endGrantIdle_lockouts, same]
        exact lockOut_enters _ _ _
  case warning =>
    refine (event_next awake).trans (next_settle_of_eq (Eq.trans (b := warn ch g s) ?_ ?_))
    · rw [held, whenSome_some, unwarned, warning]
      exact expiry_reached due
    · refine (requestMix_eq (k := overtalkPattern)
        (s := modFloor ch (fun f => { f with grant := some { g with warned := true } }) s) defined steps).trans ?_
      rw [modFloor_floor_self]
      rfl
  case lockout => exact event_next awake
  case hang =>
    have ended := endHang_freed hangs ungranted
    refine ⟨serviceDecision ch (endHang ch s), (event_next awake).trans (next_settle_of_eq ?_),
      (endHang_frame _ _).trans (serviceDecision_frame _ _), ended.1, ended.2⟩
    rw [set]
    exact expiry_reached due
  case again =>
    refine (event_next awake).trans (next_settle_of_eq ?_)
    rw [since]
    refine (expiry_reached due).trans ?_
    rw [detect, if_pos episode]
    rfl
  case first =>
    refine (event_next awake).trans (next_settle_of_eq ?_)
    rw [since]
    refine (expiry_reached due).trans ?_
    rw [detect, if_neg (by simp [first]), heard]
    rfl
  case quiet =>
    refine (event_next awake).trans (next_settle_of_eq ?_)
    rw [quiet]
    exact expiry_reached due
  case timeout =>
    refine (event_next awake).trans (next_settle_of_eq ?_)
    rw [entryOf, found]
    refine (expiry_reached due).trans ?_
    rw [denyEntry, entryOf, found]
    refine congrArg (answer ch x _) ?_
    simp only [withoutParty_eq]
    rfl

end Sys2Proof.Machine

/-! PROOF. TALK_END and the carrier report (O36, O38). -/

namespace Sys2Proof.Machine

set_option Elab.async false

/-! ## TALK_END (R38) -/

theorem Freed.alike {ch : Chan} {s t u : State} (alike : Alike s t) (h : Freed ch t u) : Freed ch s u := by
  unfold Freed IsBest at h ⊢
  rw [alike.floor, alike.time, alike.chan] at h
  exact ⟨h.1, fun none e best => (h.2 none e best).congr alike.time (alike.chan _) (by rw [alike.floor]) (alike.binding _)⟩

theorem TalkEnded.alike {ch : Chan} {g : Grant} {s t u : State} (alike : Alike s t) (h : TalkEnded ch g t u) : TalkEnded ch g s u := by
  unfold TalkEnded at h ⊢
  rw [alike.floor, alike.time, alike.chan] at h
  exact ⟨h.1, h.2.1, fun idle => (h.2.2 idle).alike alike⟩

/-- R38: a grant that ends into HANG. -/
theorem endGrant_hangs {ch : Chan} {hang : Hang} {s : State} (granted : (s.floor ch).state = .granted)
    (held : (s.floor ch).grant.isSome = true) :
    ((modFloor ch (fun f => { f with hang := some hang }) (endGrant ch none .hang s)).floor ch).state = .hang ∧
    ((modFloor ch (fun f => { f with hang := some hang }) (endGrant ch none .hang s)).floor ch).grant = none ∧
    ((modFloor ch (fun f => { f with hang := some hang }) (endGrant ch none .hang s)).floor ch).queue = (s.floor ch).queue ∧
    ((modFloor ch (fun f => { f with hang := some hang }) (endGrant ch none .hang s)).floor ch).hang = some hang := by
  rw [modFloor_floor_self, endGrant_floor_self _ _ _ _ held]
  simp [Floor.takes_state, granted]

/-- R38: the holder's TALK_END. -/
theorem endTalk_ends {ch : Chan} {g : Grant} {s : State} (granted : (s.floor ch).state = .granted) (held : (s.floor ch).grant = some g) :
    TalkEnded ch g s (endTalk ch s) := by
  have isSome : (s.floor ch).grant.isSome = true := by simp [held]
  by_cases follows : hangFollows (s.chan ch) (s.floor ch) = true
  · obtain ⟨state, ungranted, queue, hang⟩ :=
      endGrant_hangs (hang := ⟨g.reservation, after s.time (s.chan ch).hangMs⟩) granted isSome
    have own : (endTalk ch s).floor ch = { (modFloor ch (fun f => { f with hang := some ⟨g.reservation, after s.time (s.chan ch).hangMs⟩ })
        (endGrant ch none .hang s)).floor ch with gate := none } := by
      rw [endTalk, held]
      dsimp only
      rw [if_pos follows, closeGate_floor_self]
      exact if_pos (by rw [ungranted]; rfl)
    have positive : 0 < (s.chan ch).hangMs := by
      simp only [hangFollows, Bool.and_eq_true, decide_eq_true_eq] at follows
      exact follows.2
    have calm : hasEmergency (s.floor ch).queue = false := by
      simp only [hangFollows, Bool.and_eq_true, Bool.not_eq_true'] at follows
      exact follows.1.1
    have gate : ((endTalk ch s).floor ch).gate = ((endTalk ch s).floor ch).grant.map (·.holder) := by
      refine (congrArg Floor.gate own).trans (Eq.trans ?_ (congrArg (fun f => f.grant.map (·.holder)) own).symm)
      exact (congrArg (Option.map (·.holder)) ungranted).symm
    refine ⟨gate, fun _ _ _ => by rw [own]; exact ⟨state, ungranted, queue, hang⟩, fun idle => ?_⟩
    rcases idle with zero | ⟨e, he, emergency⟩
    · omega
    · exact absurd emergency (hasEmergency_eq_false.1 calm e he)
  · have ends : endTalk ch s = endGrantIdle ch none s := by
      rw [endTalk, held]
      exact if_neg follows
    have plain : s.floor ch = { s.floor ch with lockouts := (s.floor ch).lockouts } := rfl
    obtain ⟨freed, gate⟩ := endGrantIdle_freed none (.refl _ s) plain granted isSome
    rw [ends]
    refine ⟨gate, fun positive calm quiet => absurd ?_ follows, fun _ => freed⟩
    simpa [hangFollows, positive, hasEmergency_eq_false] using ⟨calm, quiet⟩

theorem talkEndBy_held {ch : Chan} {x : Party} {s : State} (held : (s.floor ch).heldBy x = true) : talkEndBy ch x s = endTalk ch s :=
  if_pos held

/-- R38, R64: a TALK_END of a party that does not hold the grant withdraws its entry. -/
theorem talkEndBy_waiting {ch : Chan} {x : Party} {s t : State} (alike : Alike s t) (others : ∀ g, (s.floor ch).grant = some g → g.holder ≠ x) :
    talkEndBy ch x t = { t with
      floors := s.floors.put ch { s.floor ch with queue := (s.floor ch).queue.filter (fun e => e.party ≠ x) } } := by
  have unheld : (t.floor ch).heldBy x = false := by rw [alike.floor]; exact not_heldBy_of others
  rw [talkEndBy, unheld, if_neg Bool.false_ne_true]
  refine (alike.modFloor_eq ch _).trans ?_
  simp only [withoutParty_eq]

/-- Settles O36: `endTalk`, and an entry that is withdrawn. -/
theorem talkEndReleasesTheFloor : Obligations.TalkEndReleasesTheFloor := by
  intro ch s
  refine ⟨fun p src at_ => ⟨fun g granted held own => ?unitEnds, fun others => ?unitWithdraws⟩,
    fun link b listening service named => ⟨fun g granted held own => ?consoleEnds, fun others => ⟨fun waits => ?consoleWithdraws, fun absent => ?refused⟩⟩⟩
  case unitEnds =>
    have row : exec (.talkEndFrame p src) s = .next (settle (endTalk ch (refresh src s))) :=
      (arrives_event at_).trans (next_settle_of_eq (talkEndBy_held (heldBy_of held own)))
    exact ⟨_, row, endTalk_frame _ _, (endTalk_ends (s := refresh src s) granted held).alike (.refresh _ _)⟩
  case unitWithdraws => exact (arrives_event at_).trans (next_settle_of_eq (talkEndBy_waiting (.refresh src s) others))
  all_goals
    have inUse : inUseChan (hunt link s) b = some ch := by simp [inUseChan, chanOf_eq named.1, named.2]
    have taken (claim : ((s.floor ch).heldBy (.console link) || (entryOf (.console link) (s.floor ch).queue).isSome) = true) :
        cmdTalkEnd link b (hunt link s) = (.accepted false .none, talkEndBy ch (.console link) (hunt link s)) := by
      rw [cmdTalkEnd, look_apply, check_apply, if_pos (by simp [service]), inUse, need_some, check_apply, if_pos (by simpa using claim), done_apply]
  case consoleEnds =>
    have own := heldBy_of held own
    refine ⟨endTalk ch (hunt link s), exec_accepted (c := .talkEnd b) listening ?_, talkFrame_of_hunt (endTalk_frame _ _),
      (endTalk_ends (s := hunt link s) granted held).alike (.hunt _ _)⟩
    rw [runCommand, taken (by rw [own]; rfl), talkEndBy_held (s := hunt link s) own]
  case consoleWithdraws =>
    refine exec_accepted (c := .talkEnd b) listening ?_
    have entry : (entryOf (.console link) (s.floor ch).queue).isSome = true := List.find?_isSome.2 (by simpa using waits)
    rw [runCommand, taken (by rw [entry, Bool.or_true]), talkEndBy_waiting (.hunt link s) others]
  case refused =>
    refine exec_listening (c := .talkEnd b) listening ?_
    have noClaim : ((s.floor ch).heldBy (.console link) || (entryOf (.console link) (s.floor ch).queue).isSome) = false := by
      rw [not_heldBy_of others, entryOf_of_absent absent]; rfl
    rw [runCommand, cmdTalkEnd, look_apply, check_apply, if_pos (by simp [service]), inUse, need_some, check_apply, hunt_floor, noClaim]
    rfl

/-! ## The carrier report (R36, R50) -/

theorem isForeign_iff (f : Floor) : f.isForeign = true ↔ Foreign f := by
  unfold Floor.isForeign Foreign
  cases f.heard with
  | none => simp
  | some h => simp [or_assoc]

/-- R50: the foreign-carrier test changes two times alone. -/
theorem Floor.retest_eq (was : Bool) (now : Time) (f : Floor) : f.retest was now =
    { f with foreignSince := (f.retest was now).foreignSince, quiet := (f.retest was now).quiet } := by
  unfold Floor.retest
  split
  · rfl
  · split <;> rfl

theorem Floor.retest_isForeign (was : Bool) (now : Time) (f : Floor) : (f.retest was now).isForeign = f.isForeign := by
  rw [Floor.retest_eq]
  rfl

/-- R50: the two times, by whether the carrier was foreign and whether it is. -/
theorem Floor.retest_becomes {now : Time} {f : Floor} (is : f.isForeign = true) :
    (f.retest false now).foreignSince = some (f.foreignSince.getD now) ∧
      (f.retest false now).quiet = if f.episodeOpen then none else f.quiet := by
  simp [Floor.retest, is]

theorem Floor.retest_stops {now : Time} {f : Floor} (is : f.isForeign = false) :
    (f.retest true now).foreignSince = none ∧
      (f.retest true now).quiet = if f.episodeOpen then some (now + 2000) else f.quiet := by
  simp [Floor.retest, is, Machine.after]

theorem Floor.retest_stays {now : Time} {f : Floor} : f.retest f.isForeign now = f := by
  cases h : f.isForeign <;> simp [Floor.retest, h]

/-- R36: the heard carrier of a report. -/
theorem heardAfter_present (now : Time) (src : UnitId) (old : Option Heard) : ∃ h, heardAfter now true src old = some h ∧
    h.source = (if 0xFFF0 ≤ src.toNat then 0 else src) ∧
    h.time = (match old with | some old => if old.source = h.source then old.time else now | none => now) := by
  cases old with
  | none => exact ⟨_, rfl, rfl, rfl⟩
  | some old =>
    by_cases same : old.source = carrierSource src
    · exact ⟨old, if_pos same, same, by simp⟩
    · exact ⟨⟨carrierSource src, now⟩, if_neg same, rfl, by simp [same]⟩

theorem heardAfter_source (now : Time) (src : UnitId) (old : Option Heard) :
    (heardAfter now true src old).map (·.source) = some (carrierSource src) := by
  obtain ⟨h, heard, source, -⟩ := heardAfter_present now src old
  rw [heard, Option.map_some, source]
  rfl

theorem isHeard_iff {g : Grant} {x : UnitId} {heard : Option Heard} (own : g.holder = .unit x) :
    g.isHeard heard = true ↔ heard.map (·.source) = some x := by
  cases heard <;> simp [Grant.isHeard, own]

theorem carrierSource_of_lt {u : UnitId} (h : u.toNat < 0xFFF0) : carrierSource u = u := if_neg (Nat.not_le.2 h)

/-- R36: the grant of a unit whose carrier is not the one heard. -/
theorem hears_other {g : Grant} {x : UnitId} {now : Time} {old new : Option Heard} (own : g.holder = .unit x)
    (other : new.map (·.source) ≠ some x) : g.hears now old new =
      if g.takenUp ∧ old.map (·.source) = some x then { g with silent := some (now + 5000) } else g := by
  have unheard : ¬ g.isHeard new = true := fun h => other ((isHeard_iff own).1 h)
  rw [Grant.hears, if_neg unheard]
  simp only [isHeard_iff own, and_comm]
  rfl

/-- R36: the grant of the holder whose carrier is heard. -/
theorem hears_own {g : Grant} {x : UnitId} {now : Time} {old : Option Heard} (own : g.holder = .unit x) (low : x.toNat < 0xFFF0) :
    g.hears now old (heardAfter now true x old) =
      if g.takenUp then { g with silent := none } else { g with takenUp := true, takeUp := none } := by
  have heard : g.isHeard (heardAfter now true x old) = true := by
    rw [isHeard_iff own, heardAfter_source, carrierSource_of_lt low]
  rw [Grant.hears, if_pos heard]

/-- R36: a carrier report takes no part of a console's grant. -/
theorem hears_console {g : Grant} {c : Console} {now : Time} {old new : Option Heard} (own : g.holder = .console c) :
    g.hears now old new = g := by
  have never (heard : Option Heard) : g.isHeard heard = false := by cases heard <;> simp [Grant.isHeard, own]
  simp [Grant.hears, never]

/-- R36: after a report without a carrier, or with another unit's, the holder's is not the one heard. -/
theorem heardAfter_other {now : Time} {present : Bool} {src x : UnitId} {old : Option Heard}
    (off : present = false ∨ (src ≠ x ∧ src.toNat < 0xFFF0)) : (heardAfter now present src old).map (·.source) ≠ some x := by
  cases present with
  | false => simp [heardAfter]
  | true =>
    rcases off with absurd | ⟨apart, low⟩
    · cases absurd
    · rw [heardAfter_source, carrierSource_of_lt low]
      simpa using apart

/-- R36: the grant of a floor that hears a report. -/
theorem hears_retest_grant {f : Floor} {g : Grant} (was : Bool) (now : Time) (present : Bool) (src : UnitId) (held : f.grant = some g) :
    ((f.hears now present src).retest was now).grant = some (g.hears now f.heard (heardAfter now present src f.heard)) := by
  rw [Floor.retest_grant]
  show f.grant.map _ = _
  rw [held]
  rfl

/-- R36, R50: what a report changes on a floor. -/
theorem hears_retest_eq (f : Floor) (was : Bool) (now : Time) (present : Bool) (src : UnitId) :
    (f.hears now present src).retest was now = { f with
      heard := ((f.hears now present src).retest was now).heard, grant := ((f.hears now present src).retest was now).grant,
      foreignSince := ((f.hears now present src).retest was now).foreignSince, quiet := ((f.hears now present src).retest was now).quiet } := by
  refine (Floor.retest_eq was now _).trans ?_
  rw [Floor.retest_heard, Floor.retest_grant]
  rfl

/-- R50: a change of a floor with the foreign-carrier test. -/
theorem modFloorTested_eq (ch : Chan) (g : Floor → Floor) (s : State) : modFloorTested ch g s = { s with
    floors := s.floors.put ch ((g (s.floor ch)).retest (s.floor ch).isForeign s.time) } := rfl

/-- R36: the row of a carrier report. -/
theorem exec_carrierReport {p : Port} {present : Bool} {src : UnitId} {s : State} (awake : s.resetLine = false) :
    exec (.carrierReport p present src) s =
      .next (settle (whenSome (s.carriedBy p) (fun ch => modFloorTested ch (Floor.hears s.time present src)) s)) := by
  have row : exec (.carrierReport p present src) s = event
      (fun s => whenSome (s.carriedBy p) (fun ch => modFloorTested ch (Floor.hears s.time present src)) s) s := rfl
  rw [row, event_next awake]

/-- R50: the two times of the foreign-carrier test on a floor that hears a report. -/
theorem hears_foreign {f : Floor} {now : Time} {present : Bool} {src : UnitId} {t : Floor}
    (tested : t = (f.hears now present src).retest f.isForeign now) :
    (¬ Foreign f → Foreign t → t.foreignSince = some (f.foreignSince.getD now) ∧
      t.quiet = if f.episodeOpen then none else f.quiet) ∧
    (Foreign f → ¬ Foreign t → t.foreignSince = none ∧ t.quiet = if f.episodeOpen then some (now + 2000) else f.quiet) ∧
    ((Foreign f ↔ Foreign t) → t.foreignSince = f.foreignSince ∧ t.quiet = f.quiet) := by
  have is : t.isForeign = (f.hears now present src).isForeign := by rw [tested, Floor.retest_isForeign]
  simp only [← isForeign_iff, is]
  subst tested
  cases was : f.isForeign <;> cases foreign : (f.hears now present src).isForeign
  case false.true => exact ⟨fun _ _ => Floor.retest_becomes foreign, by simp, by simp⟩
  case true.false => exact ⟨by simp, fun _ _ => Floor.retest_stops foreign, by simp⟩
  all_goals
    have stays := Floor.retest_stays (now := now) (f := f.hears now present src)
    rw [foreign] at stays
    rw [stays]
    exact ⟨by simp, by simp, fun _ => ⟨rfl, rfl⟩⟩

/-- Settles O38: the heard carrier, the holder's grant, and the foreign-carrier test on the changed floor. -/
theorem carrierReportMovesTheGrant : Obligations.CarrierReportMovesTheGrant := by
  intro p ch present src s awake
  rw [exec_carrierReport awake]
  refine ⟨fun idle => ?ignored, fun active carries => ?heard⟩
  case ignored => rw [State.carriedBy, if_neg idle, whenSome_none]
  case heard =>
    have carried : s.carriedBy p = some ch := by rw [State.carriedBy, if_pos active, carries]
    obtain ⟨becomes, stops, stays⟩ := hears_foreign (f := s.floor ch) (now := s.time) (present := present) (src := src) rfl
    refine ⟨_, by rw [carried, whenSome_some, modFloorTested_eq], hears_retest_eq _ _ _ _ _, ?absent, ?present,
      fun g x held own low => ⟨?takeUp, ?speaks, fun off => ?silent⟩, fun g c held own => ?console, becomes, stops, stays⟩
    case absent => rintro rfl; rw [Floor.retest_heard]; rfl
    case present =>
      rintro rfl
      obtain ⟨h, heard, source, time⟩ := heardAfter_present s.time src (s.floor ch).heard
      exact ⟨h, by rw [Floor.retest_heard]; exact heard, source, time⟩
    case takeUp =>
      rintro rfl rfl first
      rw [hears_retest_grant _ _ _ _ held, hears_own own low, if_neg (by simp [first])]
    case speaks =>
      rintro rfl rfl again
      rw [hears_retest_grant _ _ _ _ held, hears_own own low, if_pos again]
    case silent => rw [hears_retest_grant _ _ _ _ held, hears_other own (heardAfter_other off)]
    case console => rw [hears_retest_grant _ _ _ _ held, hears_console own]

end Sys2Proof.Machine

/-! PROOF. The Tone Unit: PLAY, the pending alert list, and the steps of a play (O42). -/

namespace Sys2Proof.Machine

set_option Elab.async false

/-! ## Admission to a pending alert list (R167) -/

theorem collapses_iff (new : Alert) (l : List Alert) : l.any new.sameRequest = true ↔ Collapses new l := by
  simp [Collapses, Alert.sameRequest, and_assoc]

theorem not_collapses_iff (new : Alert) (l : List Alert) : l.any new.sameRequest = false ↔ ¬ Collapses new l := by
  rw [← collapses_iff, Bool.not_eq_true]

theorem displaceable_iff (a : Alert) : a.displaceable = true ↔ a.mode = .nextFree ∧ a.playing = false := by
  simp [Alert.displaceable]

theorem Collapses.alertFate {new : Alert} {l : List Alert} (h : Collapses new l) : alertFate new l = .collapsed :=
  if_pos ((collapses_iff _ _).2 h)

/-- R167 case 3: what is displaced from a list is found from its end. -/
theorem Displaced.find {a : Alert} {l rest : List Alert} (h : Displaced a l rest) :
    l.any Alert.displaceable = true ∧ l.reverse.find? Alert.displaceable = some a ∧
      (l.reverse.eraseP Alert.displaceable).reverse = rest := by
  obtain ⟨before, behind, rfl, rfl, mode, silent, newest⟩ := h
  have own : a.displaceable = true := (displaceable_iff a).2 ⟨mode, silent⟩
  have others : ∀ b ∈ behind.reverse, ¬ b.displaceable = true := by
    intro b hb displaceable
    obtain ⟨nextFree, unplayed⟩ := (displaceable_iff b).1 displaceable
    rcases newest b (List.mem_reverse.1 hb) with other | playing
    · exact other nextFree
    · simp [unplayed] at playing
  refine ⟨by simp [own], ?_, ?_⟩
  · rw [List.reverse_append, List.reverse_cons, List.append_assoc, List.find?_append, List.find?_eq_none.2 others]
    simp [own]
  · rw [List.reverse_append, List.reverse_cons, List.append_assoc, List.eraseP_append_right _ others]
    simp [own]

theorem Admits.alertFate {new : Alert} {l list : List Alert} (h : Admits new l list) : alertFate new l = .admitted := by
  obtain ⟨apart, room | ⟨full, preempt, a, rest, displaced, -⟩⟩ := h
  · rw [Machine.alertFate, (not_collapses_iff new l).2 apart, if_neg Bool.false_ne_true, if_pos room.1]
  · rw [Machine.alertFate, (not_collapses_iff new l).2 apart, if_neg Bool.false_ne_true, if_neg (Nat.not_lt.2 full),
      if_pos ⟨preempt, displaced.find.1⟩]

theorem TurnsAway.alertFate {new : Alert} {l : List Alert} (h : TurnsAway new l) : alertFate new l = .notAdmitted := by
  obtain ⟨apart, full, kept⟩ := h
  have stays : ¬ (new.mode = .preempt ∧ l.any Alert.displaceable = true) := by
    rintro ⟨preempt, displaceable⟩
    obtain ⟨a, ha, own⟩ := List.any_eq_true.1 displaceable
    obtain ⟨nextFree, unplayed⟩ := (displaceable_iff a).1 own
    rcases kept with free | kept
    · simp [preempt] at free
    · rcases kept a ha with other | playing
      · exact other nextFree
      · simp [unplayed] at playing
  rw [Machine.alertFate, (not_collapses_iff new l).2 apart, if_neg Bool.false_ne_true, if_neg (Nat.not_lt.2 full), if_neg stays]

/-- R167 case 2: a list with room displaces nothing. -/
theorem displaceAlert_of_room {ch : Chan} {s : State} (room : (s.floor ch).alerts.length < 4) : displaceAlert ch s = s := if_pos room

/-- R167: an alert of a console that is admitted stands at the end of a list with room. -/
theorem requestAlert_nextFree {ch : Chan} {new : Alert} {list : List Alert} {s : State} (mode : new.mode = .nextFree)
    (admits : Admits new (s.floor ch).alerts list) :
    requestAlert ch new s = serviceDecision ch (modFloor ch (fun f => { f with alerts := list }) s) := by
  rcases admits.2 with ⟨room, rfl⟩ | preempt
  · rw [requestAlert, if_pos admits.alertFate, if_neg (by simp [mode]), displaceAlert_of_room room]
    rfl
  · simp [mode] at preempt

/-! ## PLAY (R173) -/

/-- R173: the checks of PLAY. -/
theorem cmdPlay_passes {link : Console} {b k m : Byte} {ch : Chan} {pat : PatternIx} {s : State} (service : s.part = .service)
    (named : NamesChannel b ch s) (pattern : k.toNat = pat.val) (defined : (s.patterns.get pat).isSome = true) :
    cmdPlay link b k m s = (if m = 1 then playNextFree link ch pat else if m = 2 then playMix ch pat else refuse .badMode) s := by
  have inUse : inUseChan s b = some ch := by simp [inUseChan, chanOf_eq named.1, named.2]
  rw [cmdPlay, look_apply, check_apply, if_pos (by simp [service]), inUse, need_some, patternOf_eq pattern, need_some, check_apply, if_pos defined]

/-! ## The steps of a play (R165, R166) -/

theorem exec_toneStepEnd {ch : Chan} {g : Play} {s : State} (awake : s.resetLine = false) (plays : s.generator ch = some g)
    (due : reached s.time g.stepEnd = true) : exec (.toneStepEnd ch) s = .next (settle (stepEnds ch g s)) := by
  have row : exec (.toneStepEnd ch) s =
      event (fun s => whenSome (s.generator ch) (fun g => expiry (some g.stepEnd) (stepEnds ch g)) s) s := rfl
  rw [row, event_next awake, plays, whenSome_some, expiry_reached due]

theorem stepEnds_begins {ch : Chan} {g : Play} {t : Pattern} {rep step : Nat} {st : ToneStep} {s : State}
    (defined : s.patterns.get g.pattern = some t) (next : g.next t = some (rep, step, st)) : stepEnds ch g s = { s with
      generators := s.generators.put ch (some { g with
        rep := rep, step := step, stepEnd := g.stepEnd + BitVec.ofNat 32 (10 * st.duration), output := ⟨st.divider, st.level⟩ }) } := by
  rw [stepEnds, defined, Option.bind_some, next]
  rfl

theorem stepEnds_mix {ch : Chan} {g : Play} {t : Pattern} {s : State} (defined : s.patterns.get g.pattern = some t)
    (next : g.next t = none) (mode : g.mode = .mix) : stepEnds ch g s = setGenerator ch none s := by
  rw [stepEnds, defined, Option.bind_some, next]
  dsimp only
  rw [mode]

theorem stepEnds_seize {ch : Chan} {g : Play} {t : Pattern} {s : State} (defined : s.patterns.get g.pattern = some t)
    (next : g.next t = none) (mode : g.mode = .seize) : stepEnds ch g s = completeSeize ch (setGenerator ch none s) := by
  rw [stepEnds, defined, Option.bind_some, next]
  dsimp only
  rw [mode]

theorem Play.next_none {g : Play} {t : Pattern} (last : t.steps[g.step + 1]? = none) (repeats : t.repeatCount ≤ g.rep) : g.next t = none := by
  rw [Play.next, last]
  exact if_neg (Nat.not_lt.2 repeats)

/-- R169: the floor that an alert has kept, as the end of its play leaves it to the service decision. -/
theorem completeSeize_eq {ch : Chan} {a : Alert} {s : State} (alert : (s.floor ch).state = .alert) (alerts : (s.floor ch).alerts = [a])
    (playing : a.playing = true) : ∃ t, completeSeize ch s = serviceDecision ch t ∧ Only talkFields s t ∧ (t.floor ch).state = .idle ∧
      (t.floor ch).alerts = [] ∧ (t.floor ch).queue = (s.floor ch).queue ∧ (t.floor ch).heard = (s.floor ch).heard ∧
      t.generator ch = s.generator ch := by
  have effective : (s.floor ch).effective = .alert := by simp [Floor.effective, alert]
  refine ⟨_, rfl, (modFloorTested_frame _ _ _).only, ?_⟩
  rw [modFloorTested_floor_self, if_pos effective]
  simp only [Floor.retest_state, Floor.retest_alerts, Floor.retest_queue, Floor.retest_heard]
  exact ⟨Floor.takes_state _ _ (by simp [alert]), by simp [alerts, playing], by simp, by simp, rfl⟩

theorem serviceDecision_alerts {ch : Chan} {s : State} (none : (s.floor ch).alerts = []) : ((serviceDecision ch s).floor ch).alerts = [] := by
  unfold serviceDecision
  split
  · rw [none]
    dsimp only [List.isEmpty_nil]
    rw [if_pos rfl]
    split
    · exact none
    · rw [issueGrant_floor_self]; simp [none]
  · exact none

/-- Settles O42: the tone line, PLAY in its two modes, and the steps of a play. -/
theorem tonesPlayByTheirSteps : Obligations.TonesPlayByTheirSteps := by
  intro ch s
  refine ⟨fun p feeds => ⟨fun idle => ?silent, fun g plays => ?line⟩,
    fun link b k pat t st sts listening service named pattern defined steps => ⟨fun granted idle => ?mix, fun new isNew =>
      ⟨fun list u admits entered => ?admitted, fun collapses => ?collapsed, fun full => ?refused⟩⟩,
    fun g t awake plays due defined => ⟨fun st next => ?step, fun st sts steps last more => ?repeats, fun mode last done_ => ?mixEnds,
      fun mode last done_ alert => ?seizeEnds⟩⟩
  case silent => simp [State.toneLine, State.toneOutput, feeds, idle]
  case line =>
    rw [State.toneLine, feeds, Option.bind_some, State.toneOutput, plays, Option.map_some]
    by_cases silent : g.output.level = 0 <;> simp [Option.filter, silent]
  case mix =>
    refine exec_accepted (c := .play b k 2) listening ?_
    rw [runCommand, cmdPlay_passes (s := hunt link s) (by simpa using service) named pattern (by simp [defined]), if_neg (by decide), if_pos rfl, playMix, look_apply,
      check_apply, if_pos (by simpa using granted), check_apply, if_pos (by simp [idle]), done_apply,
      startPlay_starts (s := hunt link s) defined steps]
    rfl
  case admitted =>
    refine exec_accepted (c := .play b k 1) listening ?_
    have alert : new = consoleAlert (hunt link s).time link pat := isNew
    have fate : alertFate new ((hunt link s).floor ch).alerts = .admitted := admits.alertFate
    have joins := requestAlert_nextFree (s := hunt link s) (congrArg Alert.mode isNew) admits
    have waits : serviceDecision ch u = if (s.floor ch).state = .idle then serviceDecision ch u else u := by
      split
      · rfl
      · next busy => exact serviceDecision_of_ne (by rw [entered]; simpa [State.floor] using busy)
    rw [runCommand, cmdPlay_passes (s := hunt link s) (by simpa using service) named pattern (by simp [defined]), if_pos rfl, playNextFree, look_apply, ← alert,
      check_apply, fate, if_pos (by decide), accept_apply, joins, ← waits, entered]
    rfl
  case collapsed =>
    refine exec_accepted (c := .play b k 1) listening ?_
    have alert : new = consoleAlert (hunt link s).time link pat := isNew
    have fate : alertFate new ((hunt link s).floor ch).alerts = .collapsed := collapses.alertFate
    rw [runCommand, cmdPlay_passes (s := hunt link s) (by simpa using service) named pattern (by simp [defined]), if_pos rfl, playNextFree, look_apply, ← alert,
      check_apply, fate, if_pos (by decide), accept_apply, requestAlert, fate, if_neg (by decide)]
  case refused =>
    refine exec_listening (c := .play b k 1) listening ?_
    have alert : new = consoleAlert (hunt link s).time link pat := isNew
    have fate : alertFate new ((hunt link s).floor ch).alerts = .notAdmitted := full.alertFate
    rw [runCommand, cmdPlay_passes (s := hunt link s) (by simpa using service) named pattern (by simp [defined]), if_pos rfl, playNextFree, look_apply, ← alert,
      check_apply, fate, if_neg (by decide)]
  case step =>
    rw [exec_toneStepEnd awake plays due, stepEnds_begins defined (by rw [Play.next, next])]
  case repeats =>
    rw [exec_toneStepEnd awake plays due, stepEnds_begins defined (by rw [Play.next, last]; exact (if_pos more).trans (by rw [steps]; rfl))]
  case mixEnds =>
    rw [exec_toneStepEnd awake plays due, stepEnds_mix defined (Play.next_none last done_) mode]
    rfl
  case seizeEnds =>
    have frame := stepEnds_frame ch g s
    have row := exec_toneStepEnd awake plays due
    rw [stepEnds_seize defined (Play.next_none last done_) mode] at frame row
    refine ⟨fun a alerts playing queue => ⟨_, row, frame, ?_⟩, fun a e alerts playing best => ⟨_, row, frame, ?_⟩⟩
    · obtain ⟨t', decision, -, idle, none_, same, -, generator⟩ := completeSeize_eq (s := setGenerator ch none s) alert alerts playing
      rw [decision, serviceDecision_empty none_ (same.trans queue)]
      exact ⟨generator.trans (Tab.get_put_self _ _ _), none_, idle⟩
    · obtain ⟨t', decision, fields, idle, none_, same, heard, -⟩ := completeSeize_eq (s := setGenerator ch none s) alert alerts playing
      have fields : Only talkFields s t' := (setGenerator_frame ch none s).only.trans fields
      have best : IsBest ch e t' := by
        unfold IsBest
        rw [same, fields.time, State.chan_congr fields.channels]
        exact best
      rw [decision]
      refine ⟨serviceDecision_alerts none_, ?_⟩
      rw [serviceDecision_grants idle none_ best]
      exact (issueGrant_granted _ _ _ _ _ (by simp [idle])).congr fields.time (State.chan_congr fields.channels ch) heard
        (State.bindingOf_congr fields.units _)

end Sys2Proof.Machine

/-! PROOF. Supervision faults and their STOP alerts (O26). -/

namespace Sys2Proof.Machine

set_option Elab.async false

/-! ## Notices that stay (R181, R182) -/

/-- R182: the notices of a link in `s` are still there in `t`, and at most `k` more. -/
def KeepsNotices (c : Console) (k : Nat) (s t : State) : Prop :=
  (∀ n ∈ (s.link c).notices, n ∈ (t.link c).notices) ∧ (t.link c).notices.length ≤ (s.link c).notices.length + k

namespace KeepsNotices

variable {c : Console} {k l : Nat} {s t u : State}

theorem of_notices (h : (t.link c).notices = (s.link c).notices) : KeepsNotices c 0 s t := by
  unfold KeepsNotices
  rw [h]
  exact ⟨fun _ hn => hn, Nat.le_refl _⟩

theorem of_links (h : t.links = s.links) : KeepsNotices c 0 s t := of_notices (by rw [State.link, h]; rfl)

theorem trans (h : KeepsNotices c k s t) (g : KeepsNotices c l t u) : KeepsNotices c (k + l) s u :=
  ⟨fun n hn => g.1 n (h.1 n hn), by have := h.2; have := g.2; omega⟩

theorem mono (h : KeepsNotices c k s t) (le : k ≤ l) : KeepsNotices c l s t := ⟨h.1, h.2.trans (by omega)⟩

theorem told (h : KeepsNotices c k s t) {b : NoticeBody} (some : ∃ n ∈ (s.link c).notices, n.body = b) :
    ∃ n ∈ (t.link c).notices, n.body = b := by
  obtain ⟨n, hn, body⟩ := some
  exact ⟨n, h.1 n hn, body⟩

theorem notify (d : Console) (b : NoticeBody) (s : State) : KeepsNotices c 1 s (notify d b s) := by
  unfold KeepsNotices
  rw [notify_link]
  split
  · next own =>
    rw [own.1, Link.deliver]
    split
    · exact ⟨fun n hn => List.mem_append_left _ hn, by simp⟩
    · exact ⟨fun n hn => hn, Nat.le_succ _⟩
  · exact ⟨fun n hn => hn, Nat.le_succ _⟩

theorem placeFrame (ch : Chan) (f : Frame) (s : State) : KeepsNotices c 0 s (placeFrame ch f s) := by
  have latched (t : State) : KeepsNotices c 0 t (latchAll ch .downlinkOverflow t) :=
    of_notices (by rw [latchAll_link]; split <;> rfl)
  unfold Machine.placeFrame
  split
  · split
    · exact (of_links rfl : KeepsNotices c 0 s (setFrames ch (placeIn f (s.frames ch)) s)).trans (latched _)
    · exact of_links rfl
  · exact of_links rfl

theorem answer (ch : Chan) (p : Party) (a : TalkAnswer) (s : State) : KeepsNotices c 1 s (answer ch p a s) := by
  cases p with
  | unit u => exact (placeFrame _ _ _).mono (Nat.zero_le _)
  | console d => exact notify _ _ _

end KeepsNotices

/-- R181, R182: a notice to a link whose buffer has room enters it. -/
theorem notify_told {c : Console} {b : NoticeBody} {s : State} (service : s.part = .service) (room : (s.link c).notices.length < 32) :
    ∃ n ∈ ((notify c b s).link c).notices, n.body = b := by
  rw [notify_link, if_pos ⟨rfl, by simp [produced, service]⟩, Link.deliver, if_pos room]
  exact ⟨_, List.mem_append_right _ (List.mem_singleton.2 rfl), rfl⟩

/-- R124: a queue with room grows by one frame at most. -/
theorem placeFrame_length {ch : Chan} {f : Frame} {s : State} {c : Chan} (room : (s.frames c).length < 16) :
    ((placeFrame ch f s).frames c).length ≤ (s.frames c).length + 1 := by
  by_cases h : c = ch
  · subst h
    rw [placeFrame_frames_self]
    split
    · rw [placeIn, if_pos (show (s.frames c).length < Config.downlinkRoom from room)]
      split <;> simp
    · exact Nat.le_succ _
  · rw [placeFrame_frames_ne _ _ _ h]
    exact Nat.le_succ _

/-! ## The alert on the floor (R44, R169) -/

/-- R44: a PREEMPT alert that is admitted takes the floor. -/
def Yields (f : Floor) : Prop :=
  f.state = .idle ∨ f.state = .hang ∨ f.state = .granted ∧ ∀ g, f.grant = some g → g.cls ≠ .emergency

/-- R44: the grant, if there was one, has ended; the alert does not play yet. -/
def outOfTalk (ch : Chan) (s : State) : State :=
  if (s.floor ch).state = .granted then endGrant ch (some .alert) .alert s else s

theorem Yields.preemptAlert {ch : Chan} {s : State} (h : Yields (s.floor ch)) (some : (s.floor ch).alerts ≠ []) :
    preemptAlert ch s = startSeize ch (outOfTalk ch s) := by
  rcases h with idle | hangs | ⟨granted, low⟩
  · rw [Machine.preemptAlert, idle]
    dsimp only
    rw [serviceDecision_plays idle some, outOfTalk, if_neg (by simp [idle])]
  · rw [Machine.preemptAlert, hangs]
    dsimp only
    rw [outOfTalk, if_neg (by simp [hangs])]
  · rw [Machine.preemptAlert, granted]
    dsimp only
    rw [if_neg (by simpa using low), outOfTalk, if_pos granted]

theorem preemptAlert_waits {ch : Chan} {s : State} (idle : (s.floor ch).state ≠ .idle) (hangs : (s.floor ch).state ≠ .hang)
    (granted : (s.floor ch).state = .granted → ∃ g, (s.floor ch).grant = some g ∧ g.cls = .emergency) : preemptAlert ch s = s := by
  unfold preemptAlert
  split
  · next h => exact absurd h idle
  · next h =>
    obtain ⟨g, held, emergency⟩ := granted h
    exact if_pos (by simp [held, emergency])
  · next h => exact absurd h hangs
  all_goals rfl

theorem yields_or (f : Floor) : Yields f ∨ f.state ≠ .idle ∧ f.state ≠ .hang ∧
    (f.state = .granted → ∃ g, f.grant = some g ∧ g.cls = .emergency) := by
  by_cases h : Yields f
  · exact .inl h
  · simp only [Yields, not_or, not_and, not_forall, not_not] at h
    obtain ⟨idle, hangs, granted⟩ := h
    exact .inr ⟨idle, hangs, fun g => by obtain ⟨x, held, emergency⟩ := granted g; exact ⟨x, held, emergency⟩⟩

/-- R169: an alert that begins to play changes no queue and no link. -/
theorem startSeize_keeps (ch : Chan) (s : State) :
    (startSeize ch s).links = s.links ∧ (startSeize ch s).downlink = s.downlink := by
  unfold startSeize
  split
  · exact ⟨rfl, rfl⟩
  · have played (t : State) (a : Alert) := startPlay_only ch .seize a.pattern t
    rw [(played _ _).links, (played _ _).downlink]
    exact ⟨(setGate_only _ _ _).links, (setGate_only _ _ _).downlink⟩

/-- R40: the end of a grant answers the holder, and does no more to the queues and the links. -/
theorem endGrant_answers {ch : Chan} {r : AirReason} {next : FloorState} {g : Grant} {s : State} (held : (s.floor ch).grant = some g) :
    (endGrant ch (some r) next s).links = (answer ch g.holder (.revoked g.cls r) s).links ∧
      (endGrant ch (some r) next s).downlink = (answer ch g.holder (.revoked g.cls r) s).downlink := by
  rw [endGrant, if_pos (by simp [held]), dropGrant, held]
  exact ⟨rfl, rfl⟩

theorem endGrant_of_none {ch : Chan} {r : Option AirReason} {next : FloorState} {s : State} (none : (s.floor ch).grant = none) :
    endGrant ch r next s = s := if_neg (by simp [none])

theorem outOfTalk_frame (ch : Chan) (s : State) : TalkFrame ch s (outOfTalk ch s) := TalkFrame.ite _ (endGrant_frame _ _ _ _) (.refl _ _)

/-- R44: the floor before its alert plays. -/
theorem outOfTalk_floor {ch : Chan} {s : State} (carried : (s.floor ch).state ≠ .transfer) :
    ((outOfTalk ch s).floor ch).state ≠ .transfer ∧ ((outOfTalk ch s).floor ch).alerts = (s.floor ch).alerts ∧
      ((outOfTalk ch s).floor ch).queue = (s.floor ch).queue ∧
      ((outOfTalk ch s).floor ch).grant = if (s.floor ch).state = .granted then none else (s.floor ch).grant := by
  unfold outOfTalk
  split
  · cases held : (s.floor ch).grant with
    | none => rw [endGrant_of_none held]; exact ⟨carried, rfl, rfl, held⟩
    | some g =>
      rw [endGrant_floor_self _ _ _ _ (by simp [held])]
      simp [Floor.takes_state _ _ carried]
  · exact ⟨carried, rfl, rfl, rfl⟩

theorem outOfTalk_notices {c : Console} (ch : Chan) (s : State) : KeepsNotices c 1 s (outOfTalk ch s) := by
  unfold outOfTalk
  split
  · cases held : (s.floor ch).grant with
    | none => rw [endGrant_of_none held]; exact (KeepsNotices.of_links rfl).mono (Nat.zero_le _)
    | some g => exact (KeepsNotices.answer ch g.holder _ s).trans (.of_links (endGrant_answers held).1)
  · exact (KeepsNotices.of_links rfl).mono (Nat.zero_le _)

/-- R44: what the holder of a grant is told when an alert takes the floor. -/
theorem outOfTalk_tells {ch : Chan} {g : Grant} {s : State} (granted : (s.floor ch).state = .granted) (held : (s.floor ch).grant = some g) :
    (∀ x, g.holder = .unit x → (s.frames ch).length < 16 → ⟨x, .revoke ch .alert⟩ ∈ (outOfTalk ch s).frames ch) ∧
    ∀ c, g.holder = .console c → s.part = .service → (s.link c).notices.length < 32 →
      ∃ n ∈ ((outOfTalk ch s).link c).notices, n.body = .talkRevoked ch g.cls .alert := by
  obtain ⟨links, downlink⟩ := endGrant_answers (r := .alert) (next := .alert) held
  rw [outOfTalk, if_pos granted]
  refine ⟨fun x own room => ?_, fun c own service room => ?_⟩
  · rw [State.frames_congr downlink, own]
    exact placeFrame_waits (by simp [takesFrames, granted]) room
  · rw [State.link, links, own]
    exact notify_told service room

/-- R169: the head of a list plays. -/
theorem startSeize_plays {ch : Chan} {head : Alert} {rest : List Alert} {s : State} (carried : (s.floor ch).state ≠ .transfer)
    (alerts : (s.floor ch).alerts = head :: rest) :
    ((startSeize ch s).floor ch).state = .alert ∧ ((startSeize ch s).floor ch).gate = none ∧ ((startSeize ch s).floor ch).hang = none ∧
      ((startSeize ch s).floor ch).queue = (s.floor ch).queue ∧ ((startSeize ch s).floor ch).grant = (s.floor ch).grant ∧
      ((startSeize ch s).floor ch).alerts = { head with playing := true } :: rest := by
  rw [startSeize_floor_self _ _ _ _ alerts]
  simp [Floor.takes_state _ _ carried]

/-- R44: what the holder of a grant of `s` is told in `u`, where its queue or its notice buffer has room. -/
def TellsHolder (ch : Chan) (g : Grant) (s u : State) : Prop :=
  (∀ x, g.holder = .unit x → (s.frames ch).length < 16 → ⟨x, .revoke ch .alert⟩ ∈ u.frames ch) ∧
  ∀ c, g.holder = .console c → s.part = .service → (s.link c).notices.length < 32 →
    ∃ n ∈ (u.link c).notices, n.body = .talkRevoked ch g.cls .alert

theorem preemptAlert_tells {ch : Chan} {g : Grant} {s : State} (some : (s.floor ch).alerts ≠ []) (yields : Yields (s.floor ch))
    (granted : (s.floor ch).state = .granted) (held : (s.floor ch).grant = Option.some g) : TellsHolder ch g s (preemptAlert ch s) := by
  obtain ⟨links, downlink⟩ := startSeize_keeps ch (outOfTalk ch s)
  obtain ⟨unit, console⟩ := outOfTalk_tells granted held
  rw [yields.preemptAlert some, TellsHolder, State.frames_congr downlink]
  refine ⟨unit, fun c own service room => ?_⟩
  rw [State.link, links]
  exact console c own service room

/-- R44: a PREEMPT alert acts on the floor. -/
theorem preemptAlert_acts {ch : Chan} {s : State} (some : (s.floor ch).alerts ≠ []) : AlertActs ch (s.floor ch).alerts s (preemptAlert ch s) := by
  obtain ⟨head, rest, alerts⟩ := List.exists_cons_of_ne_nil some
  refine ⟨fun yields => ?_, fun idle hangs granted => by rw [preemptAlert_waits idle hangs granted]; exact ⟨rfl, rfl⟩⟩
  have carried : (s.floor ch).state ≠ .transfer := by
    rcases yields with idle | hangs | granted <;> simp [*]
  obtain ⟨carried', alerts', queue, grant⟩ := outOfTalk_floor carried
  have fields := (outOfTalk_frame ch s).only
  have tells (g : Grant) := preemptAlert_tells (g := g) some yields
  rw [Yields.preemptAlert yields some] at tells ⊢
  obtain ⟨state, gate, hang, queue', grant', list⟩ := startSeize_plays carried' (alerts'.trans alerts)
  refine ⟨state, gate, hang, queue'.trans queue, grant'.trans grant, fun a r pat st sts is defined steps => ?_, fun g granted held => ?_⟩
  · obtain ⟨rfl, rfl⟩ := List.cons.inj (alerts.symm.trans is)
    rw [startSeize_generator (alerts'.trans alerts) (by rw [fields.patterns]; exact defined) steps, fields.time]
    exact ⟨list, rfl⟩
  · obtain ⟨unit, console⟩ := tells g granted held
    exact ⟨fun x own room => unit x own (by omega), fun c own service room => console c own service (by omega)⟩

theorem preemptAlert_notices {c : Console} {ch : Chan} {s : State} (some : (s.floor ch).alerts ≠ []) : KeepsNotices c 1 s (preemptAlert ch s) := by
  rcases yields_or (s.floor ch) with yields | ⟨idle, hangs, granted⟩
  · rw [yields.preemptAlert some]
    exact (outOfTalk_notices ch s).trans (.of_links (startSeize_keeps ch _).1)
  · rw [preemptAlert_waits idle hangs granted]
    exact (KeepsNotices.of_links rfl).mono (Nat.zero_le _)

/-! ## The alert of an event (R44, R167) -/

theorem requestAlert_of_refused {ch : Chan} {new : Alert} {s : State} (h : alertFate new (s.floor ch).alerts ≠ .admitted) :
    requestAlert ch new s = s := if_neg h

/-- R167: what the admission of a PREEMPT alert leaves to the floor: the list with it at the end, and a console told of the alert
that it displaces. -/
theorem requestAlert_preempts {ch : Chan} {new : Alert} {list : List Alert} {s : State} (mode : new.mode = .preempt)
    (admits : Admits new (s.floor ch).alerts list) : ∃ t, requestAlert ch new s = preemptAlert ch t ∧ Only [.floors, .links] s t ∧
      t.floor ch = { s.floor ch with alerts := list } ∧ (∀ c, KeepsNotices c 1 s t) ∧
      ∀ a rest c, 4 ≤ (s.floor ch).alerts.length → Displaced a (s.floor ch).alerts rest → a.requester = .console c → s.part = .service →
        (s.link c).notices.length < 32 → ∃ n ∈ (t.link c).notices, n.body = .alertDiscarded ch a.pattern := by
  have row : requestAlert ch new s = preemptAlert ch (modFloor ch (fun f => { f with alerts := f.alerts ++ [new] }) (displaceAlert ch s)) := by
    rw [requestAlert, if_pos admits.alertFate, if_pos mode]
  refine ⟨_, row, ?_⟩
  rcases admits.2 with ⟨room, rfl⟩ | ⟨full, -, a, rest, displaced, rfl⟩
  · rw [displaceAlert_of_room room]
    exact ⟨(modFloor_only _ _ _).mono (by decide), modFloor_floor_self _ _ _, fun c => (KeepsNotices.of_links rfl).mono (Nat.zero_le _),
      fun _ _ _ full => absurd room (Nat.not_lt.2 full)⟩
  · obtain ⟨-, found, left⟩ := displaced.find
    have displaces : displaceAlert ch s = (match a.requester with
        | .console c => notify c (.alertDiscarded ch a.pattern)
        | .supervision => id) (modFloor ch (fun f => { f with alerts := (f.alerts.reverse.eraseP Alert.displaceable).reverse }) s) := by
      rw [displaceAlert, if_neg (Nat.not_lt.2 full), found] <;> rfl
    have same (b : Alert) (rest' : List Alert) (other : Displaced b (s.floor ch).alerts rest') : b = a :=
      Option.some.inj (other.find.2.1.symm.trans found)
    rw [displaces]
    cases asked : a.requester with
    | supervision =>
      refine ⟨((modFloor_only _ _ _).trans (modFloor_only _ _ _)).mono (by decide), ?_, fun c => (KeepsNotices.of_links rfl).mono (Nat.zero_le _),
        fun b rest' c _ other own => ?_⟩
      · simp [left]
      · rw [same b rest' other, asked] at own
        cases own
    | console d =>
      refine ⟨((modFloor_only _ _ _).andThen (hs := [.floors, .links]) (notify_only _ _ _)).trans ((modFloor_only _ _ _).mono (by decide)), ?_,
        fun c => ((KeepsNotices.of_links rfl).trans (KeepsNotices.notify d _ _)).trans (.of_links rfl), fun b rest' c _ other own service room => ?_⟩
      · simp [left]
      · rw [same b rest' other] at own ⊢
        obtain rfl : d = c := Requester.console.inj (asked.symm.trans own)
        exact notify_told (s := modFloor ch _ s) service room

/-- R44: the alert of an event that does other things before and after. -/
theorem AlertActs.within {ch : Chan} {list : List Alert} {s t u v : State} (acts : AlertActs ch list t u)
    (tells : ∀ g, Yields (t.floor ch) → (t.floor ch).state = .granted → (t.floor ch).grant = some g → TellsHolder ch g t u)
    (floor : t.floor ch = { s.floor ch with alerts := list }) (before : Only [.moves, .downlink, .floors, .links] s t)
    (frames : (s.frames ch).length < 15 → (t.frames ch).length < 16) (told : ∀ c, KeepsNotices c 1 s t)
    (after : Only [.moves, .links] u v) (kept : ∀ c, KeepsNotices c 3 u v) : AlertActs ch list s v := by
  unfold AlertActs at acts ⊢
  rw [floor] at tells
  rw [floor, before.time, before.patterns, State.generator_congr before.generators, before.part] at acts
  obtain ⟨yields, waits⟩ := acts
  rw [State.floor_congr after.floors, State.generator_congr after.generators, State.frames_congr after.downlink]
  refine ⟨fun free => ?_, waits⟩
  obtain ⟨state, gate, hang, queue, grant, plays, -⟩ := yields free
  refine ⟨state, gate, hang, queue, grant, plays, fun g granted held => ?_⟩
  obtain ⟨unit, console⟩ := tells g free granted held
  refine ⟨fun x own room => unit x own (frames room), fun c own service room => (kept c).told (console c own (before.part.trans service) ?_)⟩
  have := (told c).2
  omega

/-! ## The fault (R79, R80) -/

/-- R79: the fault is counted, and the STOP_ORDER waits; the alert is not raised yet. -/
def faultOrdered (i : MoveIx) (k : FaultKind) (m : Move) (s : State) : State :=
  orderTo m.loco.unit (.stopOrder i) (setMove i (some (m.faulted s.time k)) s)

theorem faultOrdered_only (i : MoveIx) (k : FaultKind) (m : Move) (s : State) : Only [.moves, .downlink, .links] s (faultOrdered i k m s) :=
  (setMove_only _ _ _).andThen (hs := [.moves, .downlink, .links]) (orderTo_only _ _ _)

theorem raiseFault_eq {i : MoveIx} {k : FaultKind} {m : Move} {s : State} (occupied : s.move i = some m) :
    raiseFault i k s = reportFault i k m (faultOrdered i k m s) := by
  rw [raiseFault, occupied]
  rfl

/-- R79: what follows the alert changes move records and links alone. -/
theorem reportFault_after {i : MoveIx} {k : FaultKind} {m : Move} (s : State) :
    Only [.moves, .links] (requestAlert m.channel (stopAlert s.time i) s) (reportFault i k m s) :=
  ((cancelHandover_only _ _ _).trans ((notify_only _ _ _).mono (by decide))).trans ((reportUndeliverable_only _ _ _).mono (by decide))

theorem cancelHandover_notices {c : Console} (i : MoveIx) (cause : HandoverCause) (s : State) : KeepsNotices c 1 s (cancelHandover i cause s) := by
  unfold cancelHandover
  split
  · exact (KeepsNotices.of_links rfl).mono (Nat.zero_le _)
  · split
    · exact (KeepsNotices.of_links rfl).mono (Nat.zero_le _)
    · exact (KeepsNotices.of_links rfl : KeepsNotices c 0 s (setMove i _ s)).trans (KeepsNotices.notify _ _ _)

theorem reportUndeliverable_notices {c : Console} (i : MoveIx) (m : Move) (s : State) : KeepsNotices c 1 s (reportUndeliverable i m s) := by
  unfold reportUndeliverable
  split
  · exact KeepsNotices.notify _ _ _
  · exact (KeepsNotices.of_links rfl).mono (Nat.zero_le _)

theorem reportFault_notices {c : Console} {i : MoveIx} {k : FaultKind} {m : Move} (s : State) :
    KeepsNotices c 3 (requestAlert m.channel (stopAlert s.time i) s) (reportFault i k m s) :=
  ((cancelHandover_notices _ _ _).trans (KeepsNotices.notify _ _ _)).trans (reportUndeliverable_notices _ _ _)

/-- R44, R126: an alert keeps the answers and the orders that wait. -/
theorem requestAlert_keeps {ch : Chan} {new : Alert} {f : Frame} {s : State} (mode : new.mode = .preempt) (class_ : f.priority ≤ 1)
    {c : Chan} (mem : f ∈ s.frames c) : f ∈ (requestAlert ch new s).frames c := by
  by_cases other : c = ch
  case neg => rw [((requestAlert_frame ch new s).2.1 c other).2.1]; exact mem
  subst other
  have displaced : f ∈ (displaceAlert c s).frames c := by
    unfold displaceAlert
    split
    · exact mem
    · split
      · exact mem
      · next a _ => generalize a.requester = q; cases q <;> exact mem
  have ended (t : State) (waits : f ∈ t.frames c) : f ∈ (endGrant c (some .alert) .alert t).frames c := by
    cases held : (t.floor c).grant with
    | none => rw [endGrant_of_none held]; exact waits
    | some g =>
      rw [State.frames_congr (endGrant_answers held).2]
      exact answer_keeps class_ waits
  have seized (t : State) (waits : f ∈ t.frames c) : f ∈ (startSeize c t).frames c := by
    rw [State.frames_congr (startSeize_keeps c t).2]
    exact waits
  have acts (t : State) (waits : f ∈ t.frames c) : f ∈ (preemptAlert c t).frames c := by
    unfold preemptAlert
    split
    · exact serviceDecision_keeps_answer class_ waits
    · split
      · exact waits
      · exact seized _ (ended _ waits)
    · exact seized _ waits
    all_goals exact waits
  by_cases fate : alertFate new (s.floor c).alerts = .admitted
  · rw [requestAlert, if_pos fate, if_pos mode]
    exact acts _ displaced
  · rw [requestAlert_of_refused fate]
    exact mem

/-- R79: the record of the move. -/
theorem raiseFault_move {i : MoveIx} {k : FaultKind} {m : Move} {s : State} (occupied : s.move i = some m) (j : MoveIx) :
    (raiseFault i k s).move j = if j = i then some (m.faulted s.time k).withoutHandover else s.move j := by
  have after : (raiseFault i k s).moves = (cancelHandover i .fault
      (requestAlert m.channel (stopAlert (faultOrdered i k m s).time i) (faultOrdered i k m s))).moves := by
    rw [raiseFault_eq occupied, reportFault, (reportUndeliverable_only _ _ _).moves, notify_moves]
  have ordered (x : MoveIx) : (requestAlert m.channel (stopAlert (faultOrdered i k m s).time i) (faultOrdered i k m s)).move x =
      if x = i then some (m.faulted s.time k) else s.move x := by
    rw [State.move_congr (requestAlert_frame _ _ _).only.moves, faultOrdered, State.move_congr (orderTo_only _ _ _).moves, setMove_move]
  rw [State.move_congr after, cancelHandover_move, ordered, ordered, if_pos rfl]
  split <;> rfl

theorem faultOrdered_notices {c : Console} (i : MoveIx) (k : FaultKind) (m : Move) (s : State) : KeepsNotices c 0 s (faultOrdered i k m s) :=
  (KeepsNotices.of_links rfl : KeepsNotices c 0 s (setMove i (some (m.faulted s.time k)) s)).trans (KeepsNotices.placeFrame _ _ _)

/-- R79 step 8: the fault is reported, with the fate of its alert. -/
theorem reportFault_tells {i : MoveIx} {k : FaultKind} {m : Move} {fate : AlertFate} {s : State} (service : s.part = .service)
    (isFate : alertFate (stopAlert s.time i) (s.floor m.channel).alerts = fate)
    (told : KeepsNotices m.console 2 s (requestAlert m.channel (stopAlert s.time i) s)) (room : (s.link m.console).notices.length < 28) :
    ∃ x ∈ ((reportFault i k m s).link m.console).notices, x.body = .supervisionFault i k (m.countAfter k) (m.pendingAfter k) fate := by
  have before := told.trans (cancelHandover_notices i .fault _)
  have length := before.2
  rw [reportFault, isFate]
  refine (reportUndeliverable_notices i m _).told (notify_told ?_ (by omega))
  rw [(cancelHandover_only _ _ _).part, (requestAlert_frame _ _ _).only.part]
  exact service

/-- Settles O26: the record, the order, and the alert in each of its fates. -/
theorem faultOpensAStopHold : Obligations.FaultOpensAStopHold := by
  intro i k m n s occupied isCount
  have ordered := faultOrdered_only i k m s
  have orderedTold (c : Console) := faultOrdered_notices (c := c) i k m s
  have count : m.countAfter k = n := by
    rw [isCount, Move.countAfter]
    cases k <;> rfl
  have pending : m.pendingAfter k = (m.suspensionPending || (k != .crewStop && n == m.faultLimit)) := by rw [Move.pendingAfter, count]
  have alerted := requestAlert_frame m.channel (stopAlert (faultOrdered i k m s).time i) (faultOrdered i k m s)
  have after := reportFault_after (i := i) (k := k) (m := m) (faultOrdered i k m s)
  have afterTold (c : Console) := reportFault_notices (c := c) (i := i) (k := k) (m := m) (faultOrdered i k m s)
  have floors (c : Chan) : (faultOrdered i k m s).floor c = s.floor c := State.floor_congr ordered.floors c
  have generators (c : Chan) : (faultOrdered i k m s).generator c = s.generator c := State.generator_congr ordered.generators c
  rw [← raiseFault_eq occupied] at after
  refine ⟨(raiseFault_only i k s).superviseFields_eq, ?move, fun j other => ?others, fun takes room => ?order, fun c other => ?elsewhere,
    fun new isNew => ?alert⟩
  case move =>
    rw [raiseFault_move occupied, if_pos rfl, ← pending, ← count]
    rfl
  case others => rw [raiseFault_move occupied, if_neg other]
  case order =>
    rw [State.frames_congr after.downlink]
    exact requestAlert_keeps rfl (Nat.zero_le _) (placeFrame_waits (s := setMove i (some (m.faulted s.time k)) s) takes room)
  case elsewhere =>
    obtain ⟨floor, -, generator⟩ := alerted.2.1 c other
    rw [State.floor_congr after.floors, State.generator_congr after.generators, floor, generator, floors, generators]
    exact ⟨rfl, rfl⟩
  case alert =>
    have alert : stopAlert (faultOrdered i k m s).time i = new := by rw [isNew, ordered.time]; rfl
    have mode : new.mode = .preempt := congrArg Alert.mode isNew
    rw [alert] at after alerted afterTold
    have refused (fate : alertFate new (s.floor m.channel).alerts ≠ .admitted) :
        requestAlert m.channel new (faultOrdered i k m s) = faultOrdered i k m s := requestAlert_of_refused (by rw [floors]; exact fate)
    have admitted (list : List Alert) (admits : Admits new (s.floor m.channel).alerts list) :=
      requestAlert_preempts (s := faultOrdered i k m s) mode (by rw [floors]; exact admits)
    have nonempty (list : List Alert) (admits : Admits new (s.floor m.channel).alerts list) : list ≠ [] := by
      rcases admits.2 with ⟨-, rfl⟩ | ⟨-, -, a, rest, -, rfl⟩ <;> simp
    refine ⟨fun fates => ?unadmitted, fun list admits => ?acts, fun a rest c apart full displaced asked service room => ?discards,
      fun fate service room fates => ?reported⟩
    case unadmitted =>
      have stays := refused (by
        rcases fates with collapses | full
        · simp [collapses.alertFate]
        · simp [full.alertFate])
      rw [State.floor_congr after.floors, State.generator_congr after.generators, stays]
      exact ⟨floors _, generators _⟩
    case acts =>
      obtain ⟨t, row, fields, floor, told, -⟩ := admitted list admits
      rw [row] at after
      have waits : (t.floor m.channel).alerts ≠ [] := by rw [floor]; exact nonempty list admits
      have acts := preemptAlert_acts waits
      rw [row] at afterTold
      rw [show (t.floor m.channel).alerts = list by rw [floor]] at acts
      refine acts.within (fun g => preemptAlert_tells waits) (by rw [floor, floors]) ?_ (fun room => ?_) (fun c => ?_) after ?_
      · exact (ordered.mono (by decide)).trans (fields.mono (by decide))
      · rw [State.frames_congr fields.downlink]
        have grows := placeFrame_length (ch := s.currentOf m.loco.unit) (f := ⟨m.loco.unit, .stopOrder i⟩)
          (s := setMove i (some (m.faulted s.time k)) s) (c := m.channel) (Nat.lt_succ_of_lt room)
        exact Nat.lt_of_le_of_lt grows (Nat.succ_lt_succ room)
      · exact (orderedTold c).trans (told c)
      · rw [raiseFault_eq occupied]; exact afterTold
    case discards =>
      obtain ⟨t, row, fields, floor, told, discards⟩ := admitted (rest ++ [new]) ⟨apart, .inr ⟨full, mode, a, rest, displaced, rfl⟩⟩
      have waits : (t.floor m.channel).alerts ≠ [] := by rw [floor]; simp
      rw [row] at afterTold
      rw [raiseFault_eq occupied]
      refine ((preemptAlert_notices waits).trans (afterTold c)).told (discards a rest c ?_ ?_ asked (ordered.part.trans service) ?_)
      · rw [floors]; exact full
      · rw [floors]; exact displaced
      · exact (orderedTold c).2.trans_lt room
    case reported =>
      rw [raiseFault_eq occupied, ← pending, ← count]
      refine reportFault_tells (ordered.part.trans service) ?_ ?_ ((orderedTold _).2.trans_lt room)
      all_goals rw [alert]
      · rw [floors]
        rcases fates with ⟨rfl, collapses⟩ | ⟨rfl, full⟩ | ⟨rfl, list, admits⟩
        · exact collapses.alertFate
        · exact full.alertFate
        · exact admits.alertFate
      · rcases fates with ⟨-, collapses⟩ | ⟨-, full⟩ | ⟨-, list, admits⟩
        · rw [refused (by simp [collapses.alertFate])]
          exact (KeepsNotices.of_links rfl).mono (Nat.zero_le _)
        · rw [refused (by simp [full.alertFate])]
          exact (KeepsNotices.of_links rfl).mono (Nat.zero_le _)
        · obtain ⟨t, row, fields, floor, told, -⟩ := admitted list admits
          rw [row]
          exact (told _).trans (preemptAlert_notices (by rw [floor]; exact nonempty list admits))

end Sys2Proof.Machine

/-! PROOF. The EMERGENCY request and its crew stop (O35). -/

namespace Sys2Proof.Machine

set_option Elab.async false

/-! ## The crew stop (R43, R73, R82) -/

theorem moveOf_of_sendsFor {src : UnitId} {i : MoveIx} {m : Move} {s : State} (h : SendsFor src i m s) : s.moveOf src = some (i, m) := by
  simp [State.moveOf, h.1, h.2.1]

/-- R82: a crew stop in the states in which it is a fault. -/
theorem crewStop_raises {i : MoveIx} {m : Move} {u : State} (occupied : u.move i = some m) (controlled : m.controller.isSome = true)
    (state : m.state = .active ∨ m.state = .stopHeld ∨ m.state = .recovery ∨ m.state = .suspended) :
    crewStop i u = raiseFault i .crewStop u := by
  rw [crewStop, occupied]
  dsimp only
  rw [Move.isRC, if_pos controlled]
  rcases state with h | h | h | h <;> rw [h]

/-- R43, R73: a unit that is bound to no RC move that a crew stop would stop. -/
def StopsNothing (src : UnitId) (s : State) : Prop := ∀ i m, SendsFor src i m s → m.state = .forming ∨ m.state = .releasing

theorem StopsNothing.crewStop {src : UnitId} {s u : State} (h : StopsNothing src s) (moves : u.moves = s.moves) :
    whenSome (s.moveOf src) (fun im => crewStop im.1) u = u := by
  cases sender : s.moveOf src with
  | none => rfl
  | some im =>
    obtain ⟨i, m⟩ := im
    rw [whenSome_some]
    unfold State.moveOf at sender
    split at sender
    · cases sender
    · next j bound =>
      obtain ⟨x, occupied, pair⟩ := Option.map_eq_some_iff.1 sender
      obtain ⟨rfl, rfl⟩ := Prod.mk.inj pair
      rw [Machine.crewStop, (State.move_congr moves j).trans occupied]
      dsimp only
      by_cases controlled : x.controller.isSome = true
      · rw [Move.isRC, if_pos controlled]
        rcases h j x ⟨bound, occupied, controlled⟩ with forming | releasing
        · rw [forming]
        · rw [releasing]
      · rw [Move.isRC, if_neg controlled]

/-- R43: the end of the event of a unit's EMERGENCY. -/
theorem CrewStops.completes {src : UnitId} {s u : State} {taken : State → Host.Outcome State Fault Refusal} (h : CrewStops src s taken)
    (moves : u.moves = s.moves) : Host.Outcome.next (settle (whenSome (s.moveOf src) (fun im => crewStop im.1) u)) = taken u := by
  rcases h with ⟨i, m, sends, state, rfl⟩ | ⟨nothing, rfl⟩
  · rw [moveOf_of_sendsFor sends, whenSome_some, crewStop_raises ((State.move_congr moves i).trans sends.2.1) sends.2.2 state]
  · rw [StopsNothing.crewStop nothing moves]

theorem refresh_moveOf (u x : UnitId) (s : State) : (refresh u s).moveOf x = s.moveOf x := by
  simp only [State.moveOf, refresh_bindingOf]
  rfl

/-- R31, R43: the row of a unit's EMERGENCY on its current channel. -/
theorem exec_emergency {p : Port} {ch : Chan} {src : UnitId} {s : State} (at_ : Arrives p ch src s) (here : s.currentOf src = ch) :
    exec (.emergency p src) s = .next (settle (whenSome (s.moveOf src) (fun im => crewStop im.1)
      (emergencyOutcome ch (.unit src) (refresh src s)))) := by
  have stays : ¬ (refresh src s).currentOf src ≠ ch := fun h => h ((refresh_currentOf _ _ _).trans here)
  have row : emergencyBy ch src (refresh src s) = whenSome (s.moveOf src) (fun im => crewStop im.1)
      (emergencyOutcome ch (.unit src) (refresh src s)) := by
    rw [emergencyBy, refresh_moveOf, if_neg stays]
  exact (arrives_event at_).trans (next_settle_of_eq row)

/-- R32: the row of a console's EMERGENCY. -/
theorem exec_consoleEmergency {link : Console} {b k : Byte} {ch : Chan} {s : State} (listening : Listening link s)
    (service : s.part = .service) (named : NamesChannel b ch s) (untransferred : (s.floor ch).state ≠ .transfer)
    (unclosed : (s.floor ch).state ≠ .closed) (class_ : k.toNat = 3) : exec (.talkRequest link b k) s =
      answeredWith link 0x20#8 (.accepted false .none) (emergencyOutcome ch (.console link) (hunt link s)) :=
  exec_talkRequest (cls := .emergency) listening service named untransferred unclosed class_

/-- R31, R32: what the two ways of asking have in common. -/
theorem AsksEmergency.outcome {ch : Chan} {x : Party} {s s0 : State} {asked : Host.Outcome State Fault Refusal}
    {taken : State → Host.Outcome State Fault Refusal} (h : AsksEmergency ch x s s0 asked taken) :
    Alike s s0 ∧ Only [.units, .links] s s0 ∧ asked = taken (emergencyOutcome ch x s0) := by
  rcases h with ⟨p, src, rfl, at_, here, rfl, rfl, stops⟩ |
    ⟨link, b, k, rfl, listening, service, named, untransferred, unclosed, class_, rfl, rfl, rfl⟩
  · exact ⟨.refresh _ _, (refresh_only _ _).mono (by decide),
      (exec_emergency at_ here).trans (stops.completes (emergencyOutcome_frame _ _ _).only.moves)⟩
  · exact ⟨.hunt _ _, (hunt_only _ _).mono (by decide), exec_consoleEmergency listening service named untransferred unclosed class_⟩

/-! ## The floor's answer (R31, R42) -/

/-- The generators of another state. -/
def withGenerators (t s : State) : State := { s with generators := t.generators }

/-- The generators are not read by an answer. -/
theorem answer_withGenerators (ch : Chan) (p : Party) (a : TalkAnswer) (s t : State) :
    answer ch p a (withGenerators t s) = withGenerators t (answer ch p a s) := by
  cases p with
  | console c => rfl
  | unit u =>
    have floor : (withGenerators t s).floor ch = s.floor ch := rfl
    have frames : (withGenerators t s).frames ch = s.frames ch := rfl
    simp only [answer, placeFrame, floor, frames]
    split
    · split <;> rfl
    · rfl

/-- R171: the generator of a channel plays the emergency tone where it was IDLE. -/
def withEmergencyTone (ch : Chan) (st : ToneStep) (s : State) : State := { s with
  generators := if s.generator ch = none then
      s.generators.put ch (some {
        mode := .mix, pattern := 1, start := s.time, rep := 1, step := 0
        stepEnd := s.time + BitVec.ofNat 32 (10 * st.duration), output := ⟨st.divider, st.level⟩ })
    else s.generators }

/-- R31 outcome 2: the holder's grant is raised. -/
theorem raiseGrant_eq {ch : Chan} {x : Party} {g : Grant} {pat : Pattern} {st : ToneStep} {sts : List ToneStep} {s s0 : State}
    (alike : Alike s s0) (fields : Only [.units, .links] s s0) (granted : (s.floor ch).state = .granted) (held : (s.floor ch).grant = some g)
    (defined : s.patterns.get 1 = some pat) (steps : pat.steps = st :: sts) : raiseGrant ch x s0 =
      answer ch x (.granted .emergency) { s0 with
        floors := s.floors.put ch { s.floor ch with
          grant := some { g with cls := .emergency, overtalk := none, warning := none } }
        generators := if s.generator ch = none then
            s.generators.put ch (some {
              mode := .mix, pattern := 1, start := s.time, rep := 1, step := 0
              stepEnd := s.time + BitVec.ofNat 32 (10 * st.duration), output := ⟨st.divider, st.level⟩ })
          else s.generators } := by
  have raised : modFloor ch (fun f => { f with
      grant := f.grant.map (fun g => { g with cls := .emergency, overtalk := none, warning := none }) }) s0 = { s0 with
        floors := s.floors.put ch { s.floor ch with grant := some { g with cls := .emergency, overtalk := none, warning := none } } } := by
    rw [alike.modFloor_eq, held]
    rfl
  rw [raiseGrant, raised]
  generalize isRaised : ({ s0 with floors := s.floors.put ch { s.floor ch with
    grant := some { g with cls := .emergency, overtalk := none, warning := none } } } : State) = t
  have own : t.floor ch = { s.floor ch with grant := some { g with cls := .emergency, overtalk := none, warning := none } } := by
    rw [← isRaised]
    exact Tab.get_put_self _ _ _
  have effective : ((answer ch x (.granted .emergency) t).floor ch).effective = .granted := by
    rw [answer_floor, own, Floor.effective]
    exact (if_neg (by simp [granted])).trans granted
  have generators : t.generators = s.generators := by rw [← isRaised]; exact fields.generators
  have time : t.time = s.time := by rw [← isRaised]; exact fields.time
  have patterns : t.patterns = s.patterns := by rw [← isRaised]; exact fields.patterns
  rw [show emergencyPattern = 1 from rfl, requestMix_eq (by rw [answer_patterns, patterns]; exact defined) steps]
  have generator : (answer ch x (.granted .emergency) t).generator ch = s.generator ch := by
    rw [answer_generator, State.generator_congr generators]
  have moved := answer_withGenerators ch x (.granted .emergency) t (withEmergencyTone ch st s)
  refine Eq.trans (congrArg (fun gs => ({ answer ch x (.granted .emergency) t with generators := gs } : State))
    (?_ : _ = (withEmergencyTone ch st s).generators)) ?_
  · simp only [generator, effective, answer_generators, answer_time, generators, time, true_and]
    rfl
  · subst isRaised
    exact moved.symm

theorem emergencyOutcome_own {ch : Chan} {x : Party} {g : Grant} {s : State} (granted : (s.floor ch).state = .granted)
    (held : (s.floor ch).grant = some g) (own : g.holder = x) :
    emergencyOutcome ch x s = if g.cls = .emergency then s else raiseGrant ch x s := by
  rw [emergencyOutcome, granted]
  dsimp only
  rw [if_pos (heldBy_of held own), held]
  simp

/-- R42: a floor that can be pre-empted, and is not the party's own. -/
theorem emergencyOutcome_preempts {ch : Chan} {x : Party} {s : State} (free : (s.floor ch).preemptible = true)
    (others : ∀ g, (s.floor ch).grant = some g → g.holder ≠ x) :
    emergencyOutcome ch x s = preempt ch x (renewEntry ch x .emergency s) := by
  have unheld := not_heldBy_of others
  unfold emergencyOutcome
  split
  case h_1 h | h_2 h | h_3 h => simp [Floor.preemptible, h] at free
  all_goals rw [if_neg (by simp [unheld]), if_pos free]

theorem emergencyOutcome_waits {ch : Chan} {x : Party} {g : Grant} {s : State} (granted : (s.floor ch).state = .granted)
    (held : (s.floor ch).grant = some g) (other : g.holder ≠ x) (emergency : g.cls = .emergency) :
    (∀ e, entryOf x (s.floor ch).queue = some e → emergencyOutcome ch x s = answer ch x (.queued .emergency) (renewEntry ch x .emergency s)) ∧
      ((∀ e ∈ (s.floor ch).queue, e.party ≠ x) → emergencyOutcome ch x s = enqueue ch x .emergency s) := by
  have unheld : (s.floor ch).heldBy x = false := not_heldBy_of fun g' held' => by
    obtain rfl := Option.some.inj (held.symm.trans held')
    exact other
  have kept : (s.floor ch).preemptible = false := by simp [Floor.preemptible, granted, held, emergency]
  rw [emergencyOutcome, granted]
  dsimp only
  rw [if_neg (by simp [unheld]), if_neg (by simp [kept])]
  refine ⟨fun e found => ?_, fun absent => ?_⟩
  · rw [found]
  · rw [entryOf_of_absent absent]

theorem higherClass_emergency (c : TalkClass) : higherClass c .emergency = .emergency := by
  cases c <;> rfl

/-- R42: a grant by pre-emption. -/
theorem preempt_granted {ch : Chan} {x : Party} {s : State} (carried : (s.floor ch).state ≠ .transfer) : Granted ch x .emergency s (preempt ch x s) := by
  obtain ⟨t, row, fields, state, heard⟩ : ∃ t, preempt ch x s = issueGrant (s.floor ch).isForeign ch x .emergency t ∧ Only talkFields s t ∧
      (t.floor ch).state = (s.floor ch).state ∧ (t.floor ch).heard = (s.floor ch).heard := by
    refine ⟨_, rfl, ?_⟩
    split
    · exact ⟨(dropGrant_frame _ _ _).only, by rw [dropGrant_floor_self], by rw [dropGrant_floor_self]⟩
    · exact ⟨(stopSeize_frame _ _).only, by simp [stopSeize], by simp [stopSeize]⟩
    · exact ⟨.refl _ _, rfl, rfl⟩
  rw [row]
  exact (issueGrant_granted _ _ _ _ _ (by rw [state]; exact carried)).congr fields.time (State.chan_congr fields.channels ch) heard
    (State.bindingOf_congr fields.units _)

/-- R31, R42: the floors that an EMERGENCY of another party takes. -/
def TakenByEmergency (ch : Chan) (s : State) : Prop :=
  (s.floor ch).state = .idle ∨ (s.floor ch).state = .hang ∨ (s.floor ch).state = .alert ∨
    (s.floor ch).state = .granted ∧ ∃ g, (s.floor ch).grant = some g ∧ g.cls ≠ .emergency

theorem TakenByEmergency.state {ch : Chan} {s : State} (h : TakenByEmergency ch s) :
    (s.floor ch).preemptible = true ∧ (s.floor ch).state ≠ .transfer ∧ (s.floor ch).state ≠ .closed := by
  rcases h with idle | hangs | alert | ⟨granted, g, held, low⟩
  · simp [Floor.preemptible, idle]
  · simp [Floor.preemptible, hangs]
  · simp [Floor.preemptible, alert]
  · simp [Floor.preemptible, granted, held, low]

theorem TakenByEmergency.grants {ch : Chan} {x : Party} {s t : State} (h : TakenByEmergency ch s)
    (others : ∀ g, (s.floor ch).grant = some g → g.holder ≠ x) (alike : Alike s t) :
    Granted ch x .emergency s (emergencyOutcome ch x t) := by
  obtain ⟨free, carried, -⟩ := h.state
  rw [emergencyOutcome_preempts (by rw [alike.floor]; exact free) (by rw [alike.floor]; exact others)]
  have renewed : (renewEntry ch x .emergency t).floor ch = { s.floor ch with queue := ((renewEntry ch x .emergency t).floor ch).queue } := by
    rw [← alike.floor]
    simp [renewEntry]
  refine (preempt_granted (by rw [renewed]; exact carried)).congr alike.time (alike.chan ch) (by rw [renewed]) ?_
  exact alike.binding x

/-! ## The crew stop behind an EMERGENCY (R44) -/

/-- R44: an alert waits behind an EMERGENCY. -/
theorem requestAlert_behind {ch : Chan} {new : Alert} {g : Grant} {s : State} (mode : new.mode = .preempt)
    (granted : (s.floor ch).state = .granted) (held : (s.floor ch).grant = some g) (emergency : g.cls = .emergency) :
    (requestAlert ch new s).floor ch = { s.floor ch with alerts := ((requestAlert ch new s).floor ch).alerts } := by
  have displaced : (displaceAlert ch s).floor ch = { s.floor ch with alerts := ((displaceAlert ch s).floor ch).alerts } := by
    unfold displaceAlert
    split
    · rfl
    · split
      · rfl
      · next a _ => generalize a.requester = q; cases q <;> simp
  by_cases fate : alertFate new (s.floor ch).alerts = .admitted
  · rw [requestAlert, if_pos fate, if_pos mode]
    generalize displaceAlert ch s = t at displaced
    have own : (modFloor ch (fun f => { f with alerts := f.alerts ++ [new] }) t).floor ch = { s.floor ch with
        alerts := (t.floor ch).alerts ++ [new] } := by
      rw [modFloor_floor_self, displaced]
    rw [preemptAlert_waits (by simp [own, granted]) (by simp [own, granted]) (fun _ => ⟨g, by rw [own]; exact held, emergency⟩), own]
  · rw [requestAlert_of_refused fate]

/-- R43: a crew stop leaves the grant of its EMERGENCY as it is. -/
theorem Granted.raiseFault {ch : Chan} {x : Party} {i : MoveIx} {k : FaultKind} {m : Move} {s u : State} (h : Granted ch x .emergency s u)
    (occupied : u.move i = some m) : Granted ch x .emergency s (raiseFault i k u) := by
  have fields := faultOrdered_only i k m u
  have own : (Machine.raiseFault i k u).floor ch = { u.floor ch with alerts := ((Machine.raiseFault i k u).floor ch).alerts } := by
    rw [raiseFault_eq occupied, State.floor_congr (reportFault_after _).floors]
    by_cases other : ch = m.channel
    · subst other
      have same := State.floor_congr fields.floors m.channel
      rw [requestAlert_behind rfl (by rw [same]; exact h.1) (by rw [same]; exact h.2.2.2.2) rfl, same]
    · rw [((requestAlert_frame _ _ _).2.1 ch other).1, State.floor_congr fields.floors]
  unfold Granted at h ⊢
  rw [own]
  exact h

/-- R80: a crew stop is not counted. -/
theorem Move.faulted_crewStop (now : Time) (m : Move) : (m.faulted now .crewStop).withoutHandover = { m with
    state := .stopHeld, lastFault := some .crewStop, windowStart := none, closedEnd := none, deadline := none
    holdStart := some now, stopAckSeen := false, presenceNoted := false, handover := none, repeats := 0
    unconfirmedSent := false } := by
  have pending : m.pendingAfter .crewStop = m.suspensionPending := by simp [Move.pendingAfter]
  rw [Move.faulted, pending]
  rfl

/-- Settles O35: `emergencyOutcome` for the party, and the crew stop that completes a unit's event. -/
theorem emergencyPreempts : Obligations.EmergencyPreempts := by
  refine ⟨fun p ch src s taken at_ elsewhere stops => ?offChannel, fun ch x g s s0 asked taken asks granted held =>
    ⟨fun own emergency => ?again, fun pat st sts own below defined steps => ?raises, fun other emergency => ?waits⟩,
    fun ch x s free others => ⟨fun p src isUnit at_ here => ⟨fun nothing => ?unit, fun i m sends state => ?crewStop⟩,
      fun link b k isConsole listening service named class_ => ?console⟩⟩
  case offChannel =>
    have off : (refresh src s).currentOf src ≠ ch := by rw [refresh_currentOf]; exact elsewhere
    refine (arrives_event at_).trans (Eq.trans ?_ (stops.completes (u := placeFrame ch ⟨src, .deny ch .wrongChannel⟩ (refresh src s))
      (placeFrame_moves _ _ _)))
    refine next_settle_of_eq ?_
    rw [emergencyBy, refresh_moveOf, if_pos off]
    rfl
  case again =>
    obtain ⟨alike, -, outcome⟩ := asks.outcome
    rw [outcome, emergencyOutcome_own (by rw [alike.floor]; exact granted) (by rw [alike.floor]; exact held) own, if_pos emergency]
  case raises =>
    obtain ⟨alike, fields, outcome⟩ := asks.outcome
    rw [outcome, emergencyOutcome_own (by rw [alike.floor]; exact granted) (by rw [alike.floor]; exact held) own, if_neg below,
      raiseGrant_eq alike fields granted held defined steps]
  case waits =>
    obtain ⟨alike, -, outcome⟩ := asks.outcome
    obtain ⟨renewed, queued⟩ := emergencyOutcome_waits (ch := ch) (x := x) (s := s0) (by rw [alike.floor]; exact granted)
      (by rw [alike.floor]; exact held) other emergency
    refine waits_of alike (renews_of alike outcome fun e found => ?_) rfl fun absent => ?_
    · rw [renewed e found, higherClass_emergency]
    · rw [outcome, queued (by rw [alike.floor]; exact absent)]
  case unit =>
    subst isUnit
    have moves : (emergencyOutcome ch (.unit src) (refresh src s)).moves = s.moves := (emergencyOutcome_frame _ _ _).only.moves
    refine ⟨_, exec_emergency at_ here, ?_⟩
    rw [StopsNothing.crewStop nothing moves]
    exact ⟨TakenByEmergency.grants free others (.refresh _ _), emergencyOutcome_frame _ _ _⟩
  case crewStop =>
    subst isUnit
    have fields := (emergencyOutcome_frame ch (.unit src) (refresh src s)).only
    have occupied : (emergencyOutcome ch (.unit src) (refresh src s)).move i = some m := (State.move_congr fields.moves i).trans sends.2.1
    refine ⟨_, (m.faulted s.time .crewStop).withoutHandover, exec_emergency at_ here, ?_⟩
    rw [moveOf_of_sendsFor sends, whenSome_some, crewStop_raises occupied sends.2.2 state]
    refine ⟨(TakenByEmergency.grants free others (.refresh _ _)).raiseFault occupied, ?_, ?_, Move.faulted_crewStop _ _, fun j other => ?_⟩
    · rw [raiseFault_move occupied, if_pos rfl, fields.time]
      rfl
    · exact ((fields.mono (by decide)).trans (raiseFault_only _ _ _)).superviseFields_eq
    · rw [raiseFault_move occupied, if_neg other, State.move_congr fields.moves]
      rfl
  case console =>
    subst isConsole
    obtain ⟨-, untransferred, unclosed⟩ := TakenByEmergency.state free
    exact ⟨_, exec_consoleEmergency listening service named untransferred unclosed class_,
      TakenByEmergency.grants free others (.hunt _ _), talkFrame_of_hunt (emergencyOutcome_frame _ _ _)⟩

end Sys2Proof.Machine

/-! PROOF. The Path Tester: the start and the end of a test, and the bits between (O47, O48, O49). -/

namespace Sys2Proof.Machine

set_option Elab.async false

/-! ## START_TEST (R155) -/

/-- R155: the checks of START_TEST that come before those of its mode. -/
theorem cmdStartTest_passes {b m : Byte} {p : Port} {mode : TestMode} {dur : BitVec 16} {remote : Option (UnitId × BitVec 16)} {s : State}
    (carries : (remote.isSome == (m == 2)) = true) (named : b.toNat = p.val) (standby : (s.port p).state = .standby)
    (isMode : testModeOf m = some mode) : cmdStartTest b m dur remote s = cmdStartMode p mode dur remote s := by
  rw [cmdStartTest, look_apply, check_apply, if_pos carries, portOf_eq named, need_some, check_apply, if_pos (by simp [standby]), isMode, need_some]

theorem clamp_snd_eq (lo hi n : Nat) : (clamp lo hi n).2 = decide (n < lo ∨ hi < n) := by
  rw [Bool.eq_iff_iff, clamp_snd, decide_eq_true_iff]

/-- R138: a port changes its state. -/
theorem portTo_eq {p : Port} {old st : PortState} {cause : PortCause} {g : PortRec → PortRec} {s : State} (state : (s.port p).state = old) :
    portTo p st cause g s = broadcast (.portState p old st cause) { s with ports := s.ports.put p (g { s.port p with state := st }) } := by
  rw [portTo, state]
  rfl

/-- R155 steps 1 to 6. -/
theorem startTest_eq {p : Port} {t : TestRec} {s : State} (standby : (s.port p).state = .standby) : startTest p t s =
    echoOn p t (testOrder p t (broadcast (.portState p .standby .test .testStart) { s with
      ports := s.ports.put p { s.port p with state := .test }, tests := s.tests.put p (some t), sequences := s.sequences.put p t.seq })) := by
  have same : ((setTest p (some t) { s with sequences := s.sequences.put p t.seq }).port p).state = .standby := standby
  rw [startTest, portTo_eq same]
  rfl

/-- Settles O47: `startTest` of a fresh record, in each mode. -/
theorem startTestStartsARecord : Obligations.StartTestStartsARecord := by
  intro link b p dur n d t s listening named standby isNumber isDuration isFresh
  have number : nextSequence (s.sequences.get p) = n := isNumber.symm
  have duration : (clamp 1 3600 dur.toNat).1 = d := by rw [clamp_fst (by decide), isDuration]
  have fresh : newTest (hunt link s) p .loc d none = t := by rw [isFresh, ← number]; rfl
  have clamped := clamp_snd_eq 1 3600 dur.toNat
  refine ⟨?loc, ?unit, fun x r f service registered free open_ => ?remote⟩
  case loc =>
    refine exec_accepted (c := .startTest b 0 dur none) listening ?_
    rw [runCommand, cmdStartTest_passes (s := hunt link s) rfl named (by simpa using standby) rfl, cmdStartMode, look_apply]
    dsimp only
    rw [accept_apply, clamped, duration, fresh, hunt_sequences, number, startTest_eq (by simpa using standby), isFresh]
    rfl
  case unit =>
    have fresh : newTest (hunt link s) p .unit d none = { t with mode := .unit } := by rw [← fresh]; rfl
    refine exec_accepted (c := .startTest b 1 dur none) listening ?_
    rw [runCommand, cmdStartTest_passes (s := hunt link s) rfl named (by simpa using standby) rfl, cmdStartMode, look_apply]
    dsimp only
    rw [accept_apply, clamped, duration, fresh, hunt_sequences, number, startTest_eq (by simpa using standby), isFresh]
    rfl
  case remote =>
    have code : (clamp 0 4095 f.toNat).1 = min 4095 f.toNat := by rw [clamp_fst (by decide), Nat.zero_max]
    have fresh : newTest (hunt link s) p .remote d (some (x, min 4095 f.toNat)) = { t with
        mode := .remote, echoUnit := some x, echoChannel := some r.current, freq := some (min 4095 f.toNat) } := by
      rw [← fresh, newTest]
      dsimp only [Option.map_some]
      rw [hunt_currentOf, currentOf_eq registered]
      rfl
    have either : (decide (dur.toNat < 1 ∨ 3600 < dur.toNat) || decide (f.toNat < 0 ∨ 4095 < f.toNat)) =
        decide (dur.toNat < 1 ∨ 3600 < dur.toNat ∨ 4095 < f.toNat) := by
      simp [Bool.or_assoc]
    refine exec_accepted (c := .startTest b 2 dur (some (x, f))) listening ?_
    rw [runCommand, cmdStartTest_passes (s := hunt link s) rfl named (by simpa using standby) rfl, cmdStartMode, look_apply]
    dsimp only
    rw [remoteChecks, check_apply, if_pos (by simpa using service), hunt_unit, registered, need_some, check_apply, if_pos (by simp [free]),
      check_apply, if_pos (by simpa using open_), accept_apply, clamped, clamp_snd_eq, either, duration, code, fresh, hunt_sequences, number, startTest_eq (by simpa using standby), isFresh]
    rfl

/-! ## The end of a test, and an inserted error (R158, R159) -/

section
variable {p : Port} {t : TestRec} {s : State}

theorem runningTest_eq (record : s.testOf p = some t) (running : t.state = .search ∨ t.state = .synced) : s.runningTest p = some t := by
  have runs : t.running = true := by rcases running with h | h <;> simp [TestRec.running, h]
  rw [State.runningTest, record, Option.filter_some, if_pos runs]

/-- R159: the part of a test's end that comes before a CLOSED channel may take the port. -/
def testEnded (p : Port) (t : TestRec) (s : State) : State :=
  broadcast (.testResult p (t.finished s.time .done none))
    (portTo p .standby .testEnd id
      ((match t.mode with
        | .loc => id
        | .unit | .remote => send p .testEnd)
        (echoOff p t (setTest p (some (t.finished s.time .done none)) s))))

theorem testEnded_after (p : Port) (t : TestRec) (s : State) :
    Only [.ports, .downlink, .links, .sent] (setTest p (some (t.finished s.time .done none)) s) (testEnded p t s) := by
  have sent (u : State) : Only [.ports, .downlink, .links, .sent] u ((match t.mode with
      | .loc => id
      | .unit | .remote => send p .testEnd) u) := by
    cases t.mode
    · exact .refl _ _
    · exact (send_only _ _ _).mono (by decide)
    · exact (send_only _ _ _).mono (by decide)
  exact ((((echoOff_only _ _ _).mono (by decide)).trans (sent _)).trans ((portTo_only _ _ _ _ _).mono (by decide))).trans
    ((broadcast_only _ _).mono (by decide))

theorem testEnded_only (p : Port) (t : TestRec) (s : State) : Only [.ports, .tests, .downlink, .links, .sent] s (testEnded p t s) :=
  ((setTest_only _ _ _).mono (by decide)).trans ((testEnded_after p t s).mono (by decide))

/-- R159: what the end of a test leaves. -/
theorem testEnded_fields (p : Port) (t : TestRec) (s : State) :
    (testEnded p t s).testOf p = some (t.finished s.time .done none) ∧
      (∀ q, q ≠ p → (testEnded p t s).testOf q = s.testOf q ∧ (testEnded p t s).port q = s.port q) ∧
      (testEnded p t s).port p = { s.port p with state := .standby } ∧
      (testEnded p t s).sent = (if t.mode = .loc then s.sent else s.sent ++ [(p, .testEnd)]) := by
  have tests (q : Port) := State.testOf_congr (testEnded_after p t s).tests q
  have echoed := (echoOff_only p t (setTest p (some (t.finished s.time .done none)) s))
  have ports (q : Port) : (testEnded p t s).port q = if q = p then { s.port p with state := .standby } else s.port q := by
    have before (r : Port) : ((match t.mode with
        | .loc => id
        | .unit | .remote => send p .testEnd) (echoOff p t (setTest p (some (t.finished s.time .done none)) s))).port r = s.port r := by
      cases t.mode
      all_goals exact State.port_congr echoed.ports r
    rw [testEnded, broadcast_port, portTo_port, before, before]
    rfl
  refine ⟨(tests p).trans (Tab.get_put_self _ _ _), fun q other => ⟨(tests q).trans (Tab.get_put_ne _ _ other), by rw [ports, if_neg other]⟩,
    by rw [ports, if_pos rfl], ?_⟩
  have sent : (testEnded p t s).sent = ((match t.mode with
      | .loc => id
      | .unit | .remote => send p .testEnd) (echoOff p t (setTest p (some (t.finished s.time .done none)) s))).sent :=
    (broadcast_only _ _).sent.trans (portTo_only _ _ _ _ _).sent
  rw [sent]
  have kept : (echoOff p t (setTest p (some (t.finished s.time .done none)) s)).sent = s.sent := echoed.sent
  cases t.mode
  · exact kept
  · exact congrArg (· ++ [(p, PortMsg.testEnd)]) kept
  · exact congrArg (· ++ [(p, PortMsg.testEnd)]) kept

/-- R159: with no channel CLOSED, or in CONFIG, the port stays STANDBY. -/
theorem endTest_eq (unclosed : s.part = .config ∨ ∀ ch, (s.floor ch).state ≠ .closed) : endTest p t s = testEnded p t s := by
  have fields := testEnded_only p t s
  have row : endTest p t s = takeUpClosed p (testEnded p t s) := rfl
  rw [row]
  refine takeUpClosed_none ?_
  rcases unclosed with config | unclosed
  · exact .inl (fields.part.trans config)
  · exact .inr fun ch => by rw [State.floor_congr fields.floors]; exact unclosed ch

theorem Only.testFields_eq {s u : State} (h : Only [.ports, .tests, .downlink, .links, .sent] s u) : u = { s with
    ports := u.ports, tests := u.tests, downlink := u.downlink, links := u.links, sent := u.sent } :=
  State.eq_of_fields h.time h.part h.resetLine h.channels h.globals h.moves h.floors rfl h.units h.slots h.quiet rfl rfl h.sequences
    h.patterns h.generators rfl rfl h.pending

/-- Settles O48: `endTest` by command and by time, and an inserted error. -/
theorem testsEndAndTakeErrors : Obligations.TestsEndAndTakeErrors := by
  intro p t s record running
  have runs := runningTest_eq record running
  refine ⟨fun link b listening named => ⟨fun unclosed => ?stop, fun clear => ?insert, fun pending => ?refused⟩, fun awake due unclosed => ?ends⟩
  case stop =>
    have runs : (hunt link s).runningTest p = some t := runs
    obtain ⟨own, others, standby, sent⟩ := testEnded_fields p t (hunt link s)
    refine ⟨testEnded p t (hunt link s), exec_accepted (c := .stopTest b) listening ?_, ?_, own, others, standby, fun loc => ?_, fun air => ?_⟩
    · rw [runCommand, cmdStopTest, look_apply, portOf_eq named, need_some, runs, need_some, done_apply, endTest_eq (by simpa using unclosed)]
    · exact (((hunt_only link s).mono (by decide)).trans (testEnded_only p t _)).testFields_eq
    · rw [sent, if_pos loc]; rfl
    · rw [sent, if_neg air]; rfl
  case insert =>
    have runs : (hunt link s).runningTest p = some t := runs
    refine exec_accepted (c := .insertError b) listening ?_
    rw [runCommand, cmdInsertError, look_apply, portOf_eq named, need_some, runs, need_some, check_apply, if_pos (by simp [clear]), done_apply]
    rfl
  case refused =>
    have runs : (hunt link s).runningTest p = some t := runs
    refine exec_listening (c := .insertError b) listening ?_
    rw [runCommand, cmdInsertError, look_apply, portOf_eq named, need_some, runs, need_some, check_apply, if_neg (by simp [pending])]
  case ends =>
    have row : exec (.testEndTime p) s =
      event (fun s => whenSome (s.runningTest p) (fun t => expiry (some t.endTime) (endTest p t)) s) s := rfl
    obtain ⟨own, others, standby, -⟩ := testEnded_fields p t s
    refine ⟨testEnded p t s, ?_, (testEnded_only p t s).testFields_eq, own, others, standby⟩
    rw [row, event_next awake, runs, whenSome_some, expiry_reached due, endTest_eq unclosed]

end

/-! ## Generated and received bits (R154, R156, R157, R158) -/

theorem advance_eq_shifted (r : BitVec 15) : advance r = shifted r := rfl

theorem stage15_eq (r : BitVec 15) : stage15 r = r.getLsbD 14 := rfl

/-- R156: what the two registers hold after fifteen bits does not depend on what the checker's held before. -/
theorem shiftIn_agree {a b : Nat → BitVec 15} {bit : Nat → Bool} (feeds : ∀ k < 15, a (k + 1) = shiftIn (bit k) (a k))
    (runs : ∀ k < 15, b (k + 1) = shiftIn (bit k) (b k)) : a 15 = b 15 := by
  have agree : ∀ k ≤ 15, ∀ i < k, (a k).getLsbD i = (b k).getLsbD i := by
    intro k
    induction k with
    | zero => omega
    | succ k ih =>
      rintro few (_ | i) low
      · rw [feeds k few, runs k few, shiftIn_getLsbD_zero, shiftIn_getLsbD_zero]
      · rw [feeds k few, runs k few, shiftIn_getLsbD_succ _ _ _ (by omega), shiftIn_getLsbD_succ _ _ _ (by omega)]
        exact ih (by omega) i (by omega)
  exact BitVec.eq_of_getLsbD_eq fun i width => agree 15 (Nat.le_refl _) i width

namespace TestRec

theorem judged_checker (now : Time) (t : TestRec) : (t.judged now).checker = t.checker := by
  unfold judged
  split
  · rfl
  · split
    · split <;> rfl
    · split <;> rfl
    · rfl
    · rfl

/-- R156: in SEARCH the received bit is fed. -/
theorem takes_checker_search {t : TestRec} {now : Time} {b : Bool} (search : t.state = .search) : (t.takes now b).checker = fed b t.checker := by
  rw [takes, judged_checker, counts, search]

theorem takes_checker_synced {t : TestRec} {now : Time} {b : Bool} (synced : t.state = .synced) : (t.takes now b).checker = advance t.checker := by
  rw [takes, judged_checker, counts, synced]

/-- R156: a checker that predicts the bit shifts as the generator does. -/
theorem takes_checker_right {t : TestRec} {now : Time} (running : t.state = .search ∨ t.state = .synced) :
    (t.takes now (stage15 t.checker)).checker = advance t.checker := by
  rcases running with search | synced
  · rw [takes_checker_search search, fed_eq]
    exact if_pos rfl
  · exact takes_checker_synced synced

theorem counts_state (b : Bool) (t : TestRec) : (t.counts b).state = t.state := by
  unfold counts
  split <;> rfl

theorem takes_runs {t : TestRec} {now : Time} {b : Bool} (running : t.state = .search ∨ t.state = .synced) :
    (t.takes now b).state = .search ∨ (t.takes now b).state = .synced :=
  running_iff.1 (takes_running now b (running_iff.2 running))

/-- R156: within a window no bit is judged. -/
theorem takes_within {t : TestRec} {now : Time} {b : Bool} (search : t.state = .search) (within : t.windowBits + 1 < 128) :
    (t.takes now b).state = .search ∧ (t.takes now b).windowBits = t.windowBits + 1 := by
  have counted : (t.counts b).windowBits = t.windowBits + 1 := by rw [counts, search]
  have unjudged : (t.counts b).judged now = t.counts b := if_pos (by rw [counted]; exact within)
  rw [takes, unjudged, counts_state]
  exact ⟨search, counted⟩

end TestRec

/-- R156: a checker that takes an undamaged stream. -/
theorem checker_follows {sender : Nat → BitVec 15} {t : Nat → TestRec} {now : Nat → Time} (sends : ∀ k, sender (k + 1) = shifted (sender k))
    (takes : ∀ k, t (k + 1) = (t k).takes (now k) ((sender k).getLsbD 14)) (search : (t 0).state = .search) (within : (t 0).windowBits + 15 < 128)
    (k : Nat) (long : 15 ≤ k ∨ (t 0).checker = sender 0) : (t k).checker = sender k := by
  have running : ∀ k, (t k).state = .search ∨ (t k).state = .synced := by
    intro k
    induction k with
    | zero => exact .inl search
    | succ k ih => rw [takes]; exact TestRec.takes_runs ih
  have kept (k : Nat) (right : (t k).checker = sender k) : (t (k + 1)).checker = sender (k + 1) := by
    rw [takes, sends, ← stage15_eq, ← right, TestRec.takes_checker_right (running k)]
    rfl
  have early : ∀ k, k ≤ 15 → (t k).state = .search ∧ (t k).windowBits = (t 0).windowBits + k := by
    intro k
    induction k with
    | zero => exact fun _ => ⟨search, rfl⟩
    | succ k ih =>
      intro low
      obtain ⟨searching, bits⟩ := ih (by omega)
      obtain ⟨still, more⟩ := TestRec.takes_within (now := now k) (b := (sender k).getLsbD 14) searching (by omega)
      rw [takes]
      exact ⟨still, by omega⟩
  have filled : (t 15).checker = sender 15 := by
    rw [← sendersState_bitsTaken (t 15).checker, ← sendersState_bitsTaken (sender 15)]
    refine congrArg sendersState (shiftIn_agree (a := fun k => bitsTaken (t k).checker) (b := fun k => bitsTaken (sender k))
      (bit := fun k => (sender k).getLsbD 14) (fun k few => ?_) (fun k _ => ?_))
    · rw [takes, TestRec.takes_checker_search (early k (by omega)).1, fed, bitsTaken_sendersState]
    · have own : sender (k + 1) = fed ((sender k).getLsbD 14) (sender k) := by
        rw [fed_eq]
        exact (sends k).trans (if_pos rfl).symm
      rw [own, fed, bitsTaken_sendersState]
  rcases long with long | right
  · obtain ⟨n, rfl⟩ := Nat.exists_eq_add_of_le long
    induction n with
    | zero => exact filled
    | succ n ih => exact kept _ (ih (by omega))
  · induction k with
    | zero => exact right
    | succ k ih => exact kept _ ih

namespace TestRec

variable {t : TestRec} {now : Time} {b : Bool}

/-- R156: an error, as a number. -/
theorem wrong_toNat (b : Bool) (t : TestRec) : (t.wrong b).toNat = if b = t.checker.getLsbD 14 then 0 else 1 := by
  unfold wrong prediction stage15
  cases b <;> cases t.checker.getLsbD 14 <;> rfl

/-- R156: the record in SEARCH before its window is judged. -/
theorem counts_search (search : t.state = .search) : t.counts b = { t with
    checker := if b = t.checker.getLsbD 14 then shifted t.checker else shifted t.checker ^^^ 0b11#15
    windowBits := t.windowBits + 1, windowErrors := t.windowErrors + if b = t.checker.getLsbD 14 then 0 else 1 } := by
  rw [counts, search]
  dsimp only
  rw [fed_eq, wrong_toNat]
  rfl

/-- R157: the record in SYNCED before its window is judged. -/
theorem counts_synced (synced : t.state = .synced) : t.counts b = { t with
    bits := min 4294967295 (t.bits + 1)
    errors := min 4294967295 (t.errors + if b = t.checker.getLsbD 14 then 0 else 1)
    checker := shifted t.checker
    windowBits := t.windowBits + 1, windowErrors := t.windowErrors + if b = t.checker.getLsbD 14 then 0 else 1 } := by
  rw [counts, synced]
  dsimp only
  rw [wrong_toNat]
  rfl

theorem judged_within (within : t.windowBits < 128) : t.judged now = t := if_pos within

theorem judged_search (full : 128 ≤ t.windowBits) (search : t.state = .search) : t.judged now =
    if t.windowErrors < 4 then
      { t with state := .synced, windowBits := 0, windowErrors := 0, firstSync := some (t.firstSync.getD now) }
    else { t with windowBits := 0, windowErrors := 0 } := by
  rw [judged, if_neg (Nat.not_lt.2 full), search]

theorem judged_synced (full : 128 ≤ t.windowBits) (synced : t.state = .synced) : t.judged now =
    if 16 ≤ t.windowErrors then
      { t with state := .search, windowBits := 0, windowErrors := 0, losses := min 65535 (t.losses + 1) }
    else { t with windowBits := 0, windowErrors := 0 } := by
  rw [judged, if_neg (Nat.not_lt.2 full), synced]
  rfl

end TestRec

/-- R154, R158: the record after a generated bit, before LOCAL mode returns it. -/
theorem TestRec.generates_eq (now : Time) (t : TestRec) : t.generates now = (fun u : TestRec => match t.mode with
    | .loc => u.takes now (t.generator.getLsbD 14 ^^ t.insertPending)
    | .unit | .remote => u) { t with
      generator := shifted t.generator
      insertPending := false
      inserted := min 65535 (t.inserted + t.insertPending.toNat) } := rfl

/-- R132, R135, R156: the row of ECHO test data. -/
theorem exec_echoTestData {p : Port} {bytes : List Byte} {s : State} (awake : s.resetLine = false) : exec (.echoTestData p bytes) s =
    .next (settle (if (s.port p).state = .test ∧ 1 ≤ bytes.length ∧ bytes.length ≤ 32 then takeEcho p bytes s else s)) := by
  have row : exec (.echoTestData p bytes) s = event (fun s =>
    if (s.port p).state = .test ∧ 1 ≤ bytes.length ∧ bytes.length ≤ 32 then takeEcho p bytes s else s) s := rfl
  rw [row, event_next awake]

/-- R154, R158: the row of a generated bit. -/
theorem exec_testBit {p : Port} {t : TestRec} {s : State} (awake : s.resetLine = false) (runs : s.runningTest p = some t) :
    exec (.testBit p) s = .next (settle ((match t.mode with
      | .loc => id
      | .unit | .remote => send p (.bit t.sentBit)) (setTest p (some (t.generates s.time)) s))) := by
  have row : exec (.testBit p) s = event (fun s => whenSome (s.runningTest p) (fun t s =>
    (match t.mode with
      | .loc => id
      | .unit | .remote => send p (.bit t.sentBit)) (setTest p (some (t.generates s.time)) s)) s) s := rfl
  rw [row, event_next awake, runs, whenSome_some]

/-- Settles O49: the generator, the checker's register, and the window of 128 bits. -/
theorem testBitsAreGeneratedAndChecked : Obligations.TestBitsAreGeneratedAndChecked := by
  refine ⟨fun p t s awake record running => ⟨fun bytes loc => ?ignored, fun loc => ?returned, fun air => ?sent, fun bytes air testing some few => ?echo,
    fun bytes idle => ?unheard⟩, fun sender t now sends takes search within k long => checker_follows sends takes search within k long,
    fun t now b h h' search fills own => ?fed, fun t now b e count => ⟨fun search next isNext => ?search, fun synced next isNext => ?synced⟩⟩
  case ignored =>
    have nothing : takeEcho p bytes s = s := by
      rw [takeEcho, runningTest_eq record running, whenSome_some, if_pos loc]
    rw [exec_echoTestData awake, nothing, ite_self]
  case returned =>
    rw [exec_testBit awake (runningTest_eq record running), TestRec.generates_eq, loc]
    rfl
  case sent =>
    rw [exec_testBit awake (runningTest_eq record running), TestRec.generates_eq]
    cases mode : t.mode with
    | loc => exact absurd mode air
    | unit => rfl
    | remote => rfl
  case echo =>
    rw [exec_echoTestData awake, if_pos ⟨testing, some, few⟩, takeEcho, runningTest_eq record running, whenSome_some, if_neg air]
    rfl
  case unheard => rw [exec_echoTestData awake, if_neg fun h => idle h.1]
  case fed =>
    rw [TestRec.takes_checker_search search, own, fills]
    exact fed_sendersState b h
  case search =>
    subst isNext count
    rw [TestRec.takes, TestRec.counts_search search]
    exact ⟨fun within => TestRec.judged_within within,
      fun full many => (TestRec.judged_search (by exact full) (by exact search)).trans (if_neg (Nat.not_lt.2 many)),
      fun full few => (TestRec.judged_search (by exact full) (by exact search)).trans (if_pos few)⟩
  case synced =>
    subst isNext count
    rw [TestRec.takes, TestRec.counts_synced synced]
    exact ⟨fun within => TestRec.judged_within within,
      fun full few => (TestRec.judged_synced (by exact full) (by exact synced)).trans (if_neg (Nat.not_le.2 few)),
      fun full many => (TestRec.judged_synced (by exact full) (by exact synced)).trans (if_pos many)⟩

end Sys2Proof.Machine

/-! PROOF. The Port Manager's shared operations: the spare search, the loss of a carrier, the closure of a channel (R141, R143, R145). -/

namespace Sys2Proof.Machine

set_option Elab.async false

theorem allPorts_ascending : allPorts.Pairwise (· < ·) := by decide

theorem allChans_ascending : allChans.Pairwise (· < ·) := by decide

/-! ## A test that a port's event aborts (R160) -/

theorem runningTest_none {p : Port} {s : State} (idle : ¬ Testing p s) : s.runningTest p = none := by
  cases runs : s.runningTest p with
  | none => rfl
  | some t =>
    obtain ⟨record, running⟩ := Option.filter_eq_some_iff.1 runs
    exact absurd ⟨t, record, TestRec.running_iff.1 running⟩ idle

theorem abortTest_of_idle {p : Port} {r : AbortReason} {s : State} (idle : ¬ Testing p s) : abortTest p r s = s := by
  rw [abortTest, runningTest_none idle, whenSome_none]

theorem abortTest_aborted (p : Port) (r : AbortReason) (s : State) : Aborted p r s (abortTest p r s) := by
  refine ⟨fun t record running => ?_, fun idle => by rw [abortTest_of_idle idle], fun q other => by rw [abortTest_testOf, if_neg other]⟩
  rw [abortTest_testOf, if_pos rfl, runningTest_eq record running]
  rfl

theorem Aborted.of_tests {p : Port} {r : AbortReason} {s w v u : State} (h : Aborted p r w v) (before : w.tests = s.tests) (time : w.time = s.time)
    (after : u.tests = v.tests) : Aborted p r s u := by
  have same (q : Port) : w.testOf q = s.testOf q := State.testOf_congr before q
  have kept (q : Port) : u.testOf q = v.testOf q := State.testOf_congr after q
  simp only [Aborted, Testing, same, before, time] at h
  simp only [Aborted, Testing, kept, after]
  exact h

/-! ## The ports that others can take (R143) -/

theorem lowestPort_eq {st : PortState} {q : Port} {s : State} (state : (s.port q).state = st)
    (below : ∀ r : Port, r.val < q.val → (s.port r).state ≠ st) : s.lowestPort st = some q :=
  find?_lowest allPorts_ascending (mem_allPorts q) (by simp [state]) fun r low => by simpa using below r low

theorem lowestPort_none {st : PortState} {s : State} (none_ : ∀ r, (s.port r).state ≠ st) : s.lowestPort st = none :=
  List.find?_eq_none.2 fun r _ => by simpa using none_ r

theorem IsSpare.candidate {q : Port} {s : State} (h : IsSpare q s) : Machine.candidate s = some q := by
  rcases h with ⟨standby, below⟩ | ⟨none_, test, below⟩
  · rw [Machine.candidate, lowestPort_eq standby below]
  · rw [Machine.candidate, lowestPort_none none_]
    exact lowestPort_eq test below

theorem NoSpare.candidate {s : State} (h : NoSpare s) : Machine.candidate s = none := by
  rw [Machine.candidate, lowestPort_none fun r => (h r).1]
  exact lowestPort_none fun r => (h r).2

theorem swapPortOf_none {ch : Chan} {s : State}
    (h : ∀ q, (s.port q).state = .tuning → (s.port q).channel = some ch → (s.port q).purpose ≠ some .swap) : swapPortOf s ch = none := by
  refine List.find?_eq_none.2 fun q _ => ?_
  simp only [Bool.and_eq_true, beq_iff_eq, not_and]
  exact fun ⟨tuning, purpose⟩ channel => h q tuning channel purpose

theorem swapPortOf_eq {ch : Chan} {q : Port} {s : State} (tuning : (s.port q).state = .tuning) (channel : (s.port q).channel = some ch)
    (purpose : (s.port q).purpose = some .swap)
    (one : ∀ r, (s.port r).state = .tuning → (s.port r).channel = some ch → (s.port r).purpose = some .swap → r = q) : swapPortOf s ch = some q := by
  cases found : swapPortOf s ch with
  | none =>
    have missed := List.find?_eq_none.1 found q (mem_allPorts q)
    simp [tuning, channel, purpose] at missed
  | some r =>
    have own := List.find?_some found
    simp only [Bool.and_eq_true, beq_iff_eq] at own
    obtain ⟨⟨tuning', purpose'⟩, channel'⟩ := own
    rw [one r tuning' channel' purpose']

theorem carrier_none {ch : Chan} {s : State} (h : ∀ r, (s.port r).state = .active → (s.port r).channel ≠ some ch) : s.carrier ch = none := by
  refine List.find?_eq_none.2 fun q _ => ?_
  simp only [Bool.and_eq_true, beq_iff_eq, not_and]
  exact h q

theorem carrier_eq {ch : Chan} {q : Port} {s : State} (active : (s.port q).state = .active) (channel : (s.port q).channel = some ch)
    (one : ∀ r, (s.port r).state = .active → (s.port r).channel = some ch → r = q) : s.carrier ch = some q := by
  cases found : s.carrier ch with
  | none =>
    have missed := List.find?_eq_none.1 found q (mem_allPorts q)
    simp [active, channel] at missed
  | some r =>
    have own := List.find?_some found
    simp only [Bool.and_eq_true, beq_iff_eq] at own
    rw [one r own.1 own.2]

theorem lowestClosed_eq {ch : Chan} {s : State} (closed : (s.floor ch).state = .closed)
    (below : ∀ c : Chan, c.val < ch.val → (s.floor c).state ≠ .closed) : lowestClosed s = some ch :=
  find?_lowest allChans_ascending (mem_allChans ch) (by simp [closed]) fun c low => by simpa using below c low

/-! ## A port that a CLOSED channel takes (R145) -/

/-- R25, R145: the floor of a channel that a port takes up. -/
theorem openTransfer_floor {ch : Chan} {s : State} (closed : (s.floor ch).state = .closed) :
    (openTransfer ch s).floor ch = { s.floor ch with state := .transfer, held := some .idle } := by
  rw [openTransfer, modFloor_floor_self]
  exact if_pos (.inr closed)

/-- R145: in SERVICE the lowest-numbered CLOSED channel takes a port. -/
theorem takeUpClosed_takes {p : Port} {ch : Chan} {s : State} (service : s.part = .service) (closed : (s.floor ch).state = .closed)
    (below : ∀ c : Chan, c.val < ch.val → (s.floor c).state ≠ .closed) :
    (takeUpClosed p s).port p = { s.port p with
      state := .tuning, channel := some ch, purpose := some .transfer, tuneDeadline := some (s.time + 1000) } ∧
    (∀ q, q ≠ p → (takeUpClosed p s).port q = s.port q) ∧
    (takeUpClosed p s).floor ch = { s.floor ch with state := .transfer, held := some .idle } ∧
    (∀ c, c ≠ ch → (takeUpClosed p s).floor c = s.floor c) ∧
    (takeUpClosed p s).sent = s.sent ++ [(p, .tune (s.chan ch).freq)] := by
  have row : takeUpClosed p s = reportTransfer ch none (some p) (openTransfer ch (tuneTo p ch .transfer s)) := by
    rw [takeUpClosed, if_pos service, lowestClosed_eq closed below, whenSome_some]
  have told := reportTransfer_only ch none (some p) (openTransfer ch (tuneTo p ch .transfer s))
  have tuned := tuneTo_only p ch .transfer s
  have ports (q : Port) : (takeUpClosed p s).port q = (tuneTo p ch .transfer s).port q := by
    rw [row, State.port_congr told.ports]
    rfl
  have floors (c : Chan) : (takeUpClosed p s).floor c = (openTransfer ch (tuneTo p ch .transfer s)).floor c := by
    rw [row, State.floor_congr told.floors]
  have still (c : Chan) : (tuneTo p ch .transfer s).floor c = s.floor c := State.floor_congr tuned.floors c
  refine ⟨?_, fun q other => ?_, ?_, fun c other => ?_, ?_⟩
  · rw [ports, tuneTo_port, if_pos rfl]
    rfl
  · rw [ports, tuneTo_port, if_neg other]
  · rw [floors, openTransfer_floor (by rw [still]; exact closed), still]
  · rw [floors, openTransfer, modFloor_floor_ne _ _ _ other, still]
  · rw [row, told.sent]
    exact tuneTo_sent _ _ _ _

/-! ## The channel of a lost port (R47, R49, R145) -/

theorem enterTransfer_transferred {ch : Chan} {s : State} (carried : (s.floor ch).carried) : Transferred ch s (enterTransfer ch s) := by
  have own : (enterTransfer ch s).floor ch =
      { (s.floor ch).losesCarrier s.time with state := .transfer, held := some (s.floor ch).state } := by
    rw [enterTransfer, modFloor_floor_self]
    rcases carried with h | h | h | h <;> simp [h]
  refine ⟨fun d other => modFloor_floor_ne _ _ _ other, ?_⟩
  rw [own]
  refine ⟨rfl, rfl, rfl, rfl, ?_⟩
  cases held : (s.floor ch).grant with
  | none => simp [Floor.losesCarrier, held]
  | some g => simp [Floor.losesCarrier, held]

theorem Transferred.of_floors {ch : Chan} {s w v u : State} (h : Transferred ch w v) (before : w.floors = s.floors) (after : u.floors = v.floors) :
    Transferred ch s u := by
  have same (d : Chan) : w.floor d = s.floor d := State.floor_congr before d
  have kept (d : Chan) : u.floor d = v.floor d := State.floor_congr after d
  simp only [Transferred, same] at h
  simp only [Transferred, kept]
  exact h

/-- R49, R145: a channel that no port carries closes without a message to a port. -/
theorem closeFloor_uncarried {ch : Chan} {s : State} (uncarried : s.carrier ch = none) :
    Only [.floors, .generators, .links] s (closeFloor ch s) ∧ (closeFloor ch s).generator ch = none := by
  have gated (t : State) (carrier : t.carrier ch = none) : Only [.floors] t (setGate ch none t) := by
    unfold setGate
    refine Only.ite _ (.refl _ _) ?_
    rw [carrier]
    exact modFloor_only _ _ _
  have told := tellLost_only ch (s.floor ch) s
  have emptied : ∀ t, t = modFloor ch (fun f => { f with
        state := .closed, held := none, grant := none, queue := [], hang := none, heard := none, foreignSince := none
        episodeOpen := false, quiet := none }) (stopSeize ch (tellLost ch (s.floor ch) s)) →
      Only [.floors, .generators, .links] s t ∧ t.generator ch = none := by
    rintro t rfl
    refine ⟨((told.mono (by decide)).trans (Only.andThen (hs := [.floors, .generators, .links]) (modFloor_only _ _ _)
      (setGenerator_only _ _ _))).trans ((modFloor_only _ _ _).mono (by decide)), ?_⟩
    exact Tab.get_put_self _ _ _
  unfold closeFloor
  obtain ⟨fields, generator⟩ := emptied _ rfl
  revert fields generator
  generalize modFloor ch _ _ = t
  intro fields generator
  have closed := gated t ((State.carrier_congr fields.ports ch).trans uncarried)
  have still : (setGate ch none t).generator ch = none := (State.generator_congr closed.generators ch).trans generator
  have both := fields.trans (closed.mono (by decide))
  split
  · exact ⟨both.trans ((broadcast_only _ _).mono (by decide)), still⟩
  · exact ⟨both, still⟩

theorem closeChannel_closes {ch : Chan} {s : State} (uncarried : s.carrier ch = none) :
    Only [.floors, .downlink, .generators, .links] s (closeChannel ch s) ∧ ClosedBy ch s (closeChannel ch s) := by
  obtain ⟨fields, generator⟩ := closeFloor_uncarried uncarried
  have after : Only [.links] (setFrames ch [] (closeFloor ch s)) (closeChannel ch s) :=
    ((tellClosure_only _ _).trans (latchAll_only _ _ _)).trans (broadcast_only _ _)
  have floor : (closeChannel ch s).floor ch = (closeFloor ch s).floor ch := State.floor_congr after.floors ch
  refine ⟨((fields.mono (by decide)).trans ((setFrames_only _ _ _).mono (by decide))).trans (after.mono (by decide)), fun d other => ?_, ?_, ?_, ?_⟩
  · obtain ⟨same, frames, -⟩ := (closeChannel_frame ch s).2.1 d other
    exact ⟨same, frames⟩
  · rw [State.frames_congr after.downlink]
    exact Tab.get_put_self _ _ _
  · rw [State.generator_congr after.generators]
    exact generator
  · rw [floor, closeFloor_floor_self]
    exact ⟨rfl, rfl, rfl, rfl, rfl, rfl, rfl, rfl⟩

/-! ## A port that is lost (R141, R149) -/

/-- R141, R149: in `w` a port of `s` has failed or is isolated; its channel has not been looked after yet. -/
structure Lost (p : Port) (s w : State) : Prop where
  only : Only [.ports, .links, .sent] s w
  others : ∀ q, q ≠ p → w.port q = s.port q
  out : (w.port p).state = .failed ∨ (w.port p).state = .isolated

namespace Lost

variable {p q : Port} {ch : Chan} {s w : State}

theorem state (lost : Lost p s w) {st : PortState} (unlost : st ≠ .failed ∧ st ≠ .isolated) (r : Port) (h : (w.port r).state = st) :
    r ≠ p ∧ (s.port r).state = st := by
  have other : r ≠ p := by
    rintro rfl
    rcases lost.out with failed | isolated
    · exact unlost.1 (h.symm.trans failed)
    · exact unlost.2 (h.symm.trans isolated)
  exact ⟨other, by rw [← lost.others r other]; exact h⟩

/-- R143: the candidate is the one that `s` has, where the lost port was none. -/
theorem isSpare (lost : Lost p s w) (spare : IsSpare q s) (standby : (s.port p).state ≠ .standby) (test : (s.port p).state ≠ .test) :
    q ≠ p ∧ IsSpare q w := by
  have other : q ≠ p := by
    rintro rfl
    rcases spare with ⟨own, -⟩ | ⟨-, own, -⟩
    · exact standby own
    · exact test own
  have same := lost.others q other
  refine ⟨other, ?_⟩
  rcases spare with ⟨own, below⟩ | ⟨none_, own, below⟩
  · exact .inl ⟨by rw [same]; exact own, fun r low h => below r low (lost.state (by simp) r h).2⟩
  · exact .inr ⟨fun r h => none_ r (lost.state (by simp) r h).2, by rw [same]; exact own,
      fun r low h => below r low (lost.state (by simp) r h).2⟩

theorem noSpare (lost : Lost p s w) (none_ : NoSpare s) : NoSpare w := fun r =>
  ⟨fun h => (none_ r).1 (lost.state (by simp) r h).2, fun h => (none_ r).2 (lost.state (by simp) r h).2⟩

theorem swap_none (lost : Lost p s w)
    (h : ∀ q, (s.port q).state = .tuning → (s.port q).channel = some ch → (s.port q).purpose ≠ some .swap) : swapPortOf w ch = none :=
  swapPortOf_none fun r tuning channel => by
    obtain ⟨other, was⟩ := lost.state (by simp) r tuning
    rw [lost.others r other] at channel ⊢
    exact h r was channel

theorem uncarried (lost : Lost p s w) (h : ∀ r, (s.port r).state = .active → (s.port r).channel = some ch → r = p) : w.carrier ch = none :=
  carrier_none fun r active channel => by
    obtain ⟨other, was⟩ := lost.state (by simp) r active
    rw [lost.others r other] at channel
    exact other (h r was channel)

theorem floor (lost : Lost p s w) (d : Chan) : w.floor d = s.floor d := State.floor_congr lost.only.floors d

/-- R145: the channel of a lost port closes. -/
theorem closes (lost : Lost p s w) (h : ∀ r, (s.port r).state = .active → (s.port r).channel = some ch → r = p) :
    Only [.floors, .downlink, .generators, .links] w (closeChannel ch w) ∧ ClosedBy ch s (closeChannel ch w) := by
  obtain ⟨fields, closed⟩ := closeChannel_closes (lost.uncarried h)
  have frames (d : Chan) : w.frames d = s.frames d := State.frames_congr lost.only.downlink d
  simp only [ClosedBy, lost.floor, frames] at closed
  exact ⟨fields, closed⟩

end Lost

/-- R143: in `u` a spare `q` of `s` has taken the place of the lost port `p` of `w`. -/
structure Replaced (p q : Port) (ch : Chan) (s w u : State) : Prop where
  only : Only [.ports, .floors, .tests, .downlink, .links, .sent] w u
  others : ∀ r, r ≠ p → r ≠ q → u.port r = s.port r
  lost : u.port p = w.port p
  tunes : TunesFor q ch s u
  sent : u.sent = w.sent ++ [(q, .tune (s.chan ch).freq)]

/-- R143: a spare search with a candidate; what the channel does itself changes floors and links alone. -/
theorem Lost.replaces {p q : Port} {ch : Chan} {s w : State} {enter : Port → State → State} {closing : State → State} (lost : Lost p s w)
    (spare : IsSpare q s) (standby : (s.port p).state ≠ .standby) (test : (s.port p).state ≠ .test)
    (enters : ∀ t, Only [.floors, .links] t (enter q t)) : Replaced p q ch s w (spareSearch enter closing ch w) ∧
      (spareSearch enter closing ch w).floors = (enter q (abortTest q .failover w)).floors := by
  obtain ⟨other, spare'⟩ := lost.isSpare spare standby test
  have row : spareSearch enter closing ch w = tuneTo q ch .transfer (enter q (abortTest q .failover w)) := by
    rw [spareSearch, spare'.candidate]
  have aborts := abortTest_only q .failover w
  have entered := enters (abortTest q .failover w)
  have tuned := tuneTo_only q ch .transfer (enter q (abortTest q .failover w))
  rw [row]
  have port (r : Port) : (enter q (abortTest q .failover w)).port r = w.port r := by
    rw [State.port_congr entered.ports, State.port_congr aborts.ports]
  have tests : (tuneTo q ch .transfer (enter q (abortTest q .failover w))).tests = (abortTest q .failover w).tests :=
    tuned.tests.trans entered.tests
  refine ⟨⟨?only, fun r apart mine => ?others, ?lost, ⟨?port, ?aborted, fun idle => ?downlink⟩, ?sent⟩, tuned.floors⟩
  case only => exact ((aborts.mono (by decide)).trans (entered.mono (by decide))).trans (tuned.mono (by decide))
  case others => rw [tuneTo_port, if_neg mine, port, lost.others r apart]
  case lost => rw [tuneTo_port, if_neg other.symm, port]
  case port =>
    rw [tuneTo_port, if_pos rfl, port, lost.others q other, entered.time, aborts.time, lost.only.time]
    rfl
  case aborted => exact (abortTest_aborted q .failover w).of_tests lost.only.tests lost.only.time tests
  case downlink =>
    have idle : ¬ Testing q w := by
      rintro ⟨t, record, running⟩
      exact idle ⟨t, (State.testOf_congr lost.only.tests q).symm.trans record, running⟩
    rw [tuned.downlink, entered.downlink, abortTest_of_idle idle, lost.only.downlink]
  case sent =>
    rw [tuneTo_sent, entered.sent, aborts.sent, State.chan_congr (entered.channels.trans aborts.channels), State.chan_congr lost.only.channels]

end Sys2Proof.Machine

/-! PROOF. The failure of a port (O44). -/

namespace Sys2Proof.Machine

set_option Elab.async false

/-! ## The fields that a port's loss changes -/

section
variable {s u : State} {out : List (Port × PortMsg)}

theorem Only.portFields_eq (h : Only [.ports, .links] s u) : u = { s with ports := u.ports, links := u.links } :=
  State.eq_of_fields h.time h.part h.resetLine h.channels h.globals h.moves h.floors h.downlink h.units h.slots h.quiet rfl h.tests h.sequences
    h.patterns h.generators rfl h.sent h.pending

theorem Only.abortFields_eq (h : Only [.ports, .tests, .downlink, .links] s u) : u = { s with
    ports := u.ports, tests := u.tests, downlink := u.downlink, links := u.links } :=
  State.eq_of_fields h.time h.part h.resetLine h.channels h.globals h.moves h.floors rfl h.units h.slots h.quiet rfl rfl h.sequences
    h.patterns h.generators rfl h.sent h.pending

theorem Only.transferFields_eq (h : Only [.ports, .floors, .links, .sent] s u) (sent : u.sent = out) : u = { s with
    ports := u.ports, floors := u.floors, links := u.links, sent := out } :=
  State.eq_of_fields h.time h.part h.resetLine h.channels h.globals h.moves rfl h.downlink h.units h.slots h.quiet rfl h.tests h.sequences
    h.patterns h.generators rfl sent h.pending

theorem Only.spareFields_eq (h : Only [.ports, .floors, .tests, .downlink, .links, .sent] s u) (sent : u.sent = out) : u = { s with
    ports := u.ports, floors := u.floors, tests := u.tests, downlink := u.downlink, links := u.links, sent := out } :=
  State.eq_of_fields h.time h.part h.resetLine h.channels h.globals h.moves rfl rfl h.units h.slots h.quiet rfl rfl h.sequences
    h.patterns h.generators rfl sent h.pending

theorem Only.retuneFields_eq (h : Only [.ports, .floors, .tests, .downlink, .links, .sent] s u) (floors : u.floors = s.floors) (sent : u.sent = out) :
    u = { s with ports := u.ports, tests := u.tests, downlink := u.downlink, links := u.links, sent := out } :=
  State.eq_of_fields h.time h.part h.resetLine h.channels h.globals h.moves floors rfl h.units h.slots h.quiet rfl rfl h.sequences
    h.patterns h.generators rfl sent h.pending

theorem Only.closeFields_eq (h : Only [.ports, .floors, .downlink, .generators, .links, .sent] s u) (sent : u.sent = out) : u = { s with
    ports := u.ports, floors := u.floors, downlink := u.downlink, generators := u.generators, links := u.links, sent := out } :=
  State.eq_of_fields h.time h.part h.resetLine h.channels h.globals h.moves rfl rfl h.units h.slots h.quiet rfl h.tests h.sequences
    h.patterns rfl rfl sent h.pending

end

/-! ## The failing port (R139, R140, R141) -/

/-- R139: in `v` a health report of a port of `s` has been recorded, at most. -/
structure Recorded (p : Port) (s v : State) : Prop where
  only : Only [.ports] s v
  others : ∀ q, q ≠ p → v.port q = s.port q
  own : v.port p = { s.port p with lastHealth := (v.port p).lastHealth, status := (v.port p).status }

theorem Recorded.refl (p : Port) (s : State) : Recorded p s s := ⟨.refl _ _, fun _ _ => rfl, rfl⟩

/-- R139: a port with its report recorded. -/
def withHealth (p : Port) (h : Health) (s : State) : State := modPort p (fun r => { r with lastHealth := some s.time, status := some h }) s

theorem withHealth_recorded (p : Port) (h : Health) (s : State) : Recorded p s (withHealth p h s) := by
  refine ⟨modPort_only _ _ _, fun q other => by rw [withHealth, modPort_port, if_neg other], ?_⟩
  rw [withHealth, modPort_port, if_pos rfl]

theorem withHealth_port (p : Port) (h : Health) (s : State) :
    (withHealth p h s).port p = { s.port p with lastHealth := some s.time, status := some h } := by
  rw [withHealth, modPort_port, if_pos rfl]

/-- R139, R196: the row of a health report. -/
theorem exec_healthReport {p : Port} {b : Byte} {h : Health} {s : State} (awake : s.resetLine = false) (isHealth : healthOf b = some h) :
    exec (.healthReport p b) s = .next (settle (if (s.port p).state = .isolated then s else
      (match h with
        | .ok | .degraded => healthy p (s.port p).status h
        | .fault => faulty p) (withHealth p h s))) := by
  have row : exec (.healthReport p b) s =
    event (fun s => if (s.port p).state = .isolated then s else whenSome (healthOf b) (takeHealth p) s) s := rfl
  rw [row, event_next awake, isHealth, whenSome_some]
  rfl

/-- R140: the row of a health silence. -/
theorem exec_healthSilence {p : Port} {t0 : Time} {s : State} (awake : s.resetLine = false) (last : (s.port p).lastHealth = some t0)
    (due : reached s.time (t0 + 500) = true) : exec (.healthSilence p) s = .next (settle (silence p s)) := by
  have row : exec (.healthSilence p) s = event (fun s => expiry ((s.port p).lastHealth.map (fun t => after t 500)) (silence p) s) s := rfl
  rw [row, event_next awake, last]
  exact congrArg (fun t => Host.Outcome.next (settle t)) (expiry_reached due)

/-- R139, R140: the two events that fail a port. -/
def Fails (p : Port) (c : Instr) (cause : FailCause) (s : State) : Prop :=
  c = .healthReport p 2 ∧ cause = .fault ∨
    c = .healthSilence p ∧ cause = .silent ∧ ∃ t0, (s.port p).lastHealth = some t0 ∧ reached s.time (t0 + 500) = true

/-- R139, R140: the states in which they fail it. -/
def CanFail (p : Port) (cause : FailCause) (s : State) : Prop :=
  (s.port p).state = .standby ∨ (s.port p).state = .test ∨ (s.port p).state = .active ∨ (s.port p).state = .tuning ∨
    (s.port p).state = .absent ∧ cause = .fault

theorem Fails.row {p : Port} {c : Instr} {cause : FailCause} {s : State} (h : Fails p c cause s) (awake : s.resetLine = false)
    (can : CanFail p cause s) : ∃ v, Recorded p s v ∧ exec c s = .next (settle (failPort p cause v)) := by
  have unfailed : (s.port p).state ≠ .failed ∧ (s.port p).state ≠ .isolated := by
    rcases can with h | h | h | h | ⟨h, -⟩ <;> simp [h]
  rcases h with ⟨rfl, rfl⟩ | ⟨rfl, rfl, t0, last, due⟩
  · refine ⟨withHealth p .fault s, withHealth_recorded _ _ _, ?_⟩
    have faults : faulty p (withHealth p .fault s) = failPort p .fault (withHealth p .fault s) :=
      if_neg (by rw [withHealth_port]; exact unfailed.1)
    rw [exec_healthReport awake (h := .fault) rfl, if_neg unfailed.2]
    exact congrArg (fun t => Host.Outcome.next (settle t)) faults
  · refine ⟨s, .refl _ _, ?_⟩
    have fails : silence p s = failPort p .silent s := by
      unfold silence
      rcases can with h | h | h | h | ⟨-, absurd⟩
      iterate 4 rw [h]
      cases absurd
    rw [exec_healthSilence awake last due, fails]

/-- R141: the port has failed; what it carried or tuned for is not looked after yet. -/
def hasFailed (p : Port) (cause : FailCause) (v : State) : State :=
  portTo p .failed cause.portCause (fun r => { r.dropped with lastCause := some cause }) v

theorem failPort_eq (p : Port) (cause : FailCause) (v : State) :
    failPort p cause v = portLost p (v.port p) cause.swapCause (shutPort p) (hasFailed p cause v) := rfl

theorem hasFailed_lost {p : Port} {cause : FailCause} {s v : State} (h : Recorded p s v) :
    Lost p s (hasFailed p cause v) ∧ Only [.ports, .links] s (hasFailed p cause v) := by
  have failed := portTo_only p .failed cause.portCause (fun r => { r.dropped with lastCause := some cause }) v
  have both : Only [.ports, .links] s (hasFailed p cause v) := (h.only.mono (by decide)).trans failed
  refine ⟨⟨both.mono (by decide), fun q other => ?_, .inl ?_⟩, both⟩
  · rw [hasFailed, portTo_port, if_neg other, h.others q other]
  · rw [hasFailed, portTo_port, if_pos rfl]
    rfl

theorem hasFailed_by {p : Port} {cause : FailCause} {s v : State} (h : Recorded p s v) (idle : (s.port p).state ≠ .active) :
    FailedBy p cause s (hasFailed p cause v) := by
  unfold FailedBy
  rw [hasFailed, portTo_port, if_pos rfl, h.own, if_neg idle, if_neg idle]
  exact ⟨rfl, rfl, rfl, rfl, rfl, rfl, rfl, rfl⟩

/-- R151: a port that carried a channel is shut too. -/
theorem shutPort_lost {p : Port} {s w : State} (h : Lost p s w) : Lost p s (shutPort p w) := by
  refine ⟨h.only.trans ((shutPort_only p w).mono (by decide)), fun q other => ?_, ?_⟩
  · rw [shutPort_port, if_neg other, h.others q other]
  · rw [shutPort_port, if_pos rfl]
    exact h.out

theorem shutPort_by {p : Port} {cause : FailCause} {s v : State} (h : Recorded p s v) (active : (s.port p).state = .active) :
    FailedBy p cause s (shutPort p (hasFailed p cause v)) := by
  unfold FailedBy
  rw [shutPort_port, if_pos rfl, hasFailed, portTo_port, if_pos rfl, h.own, if_pos active, if_pos active]
  exact ⟨rfl, rfl, rfl, rfl, rfl, rfl, rfl, rfl⟩

theorem FailedBy.of_port {p : Port} {cause : FailCause} {s w u : State} (h : FailedBy p cause s w) (same : u.port p = w.port p) :
    FailedBy p cause s u := by
  unfold FailedBy at h ⊢
  rw [same]
  exact h

/-! ## What a loss does to a channel, once for failures and for isolation (R143, R148) -/

namespace Lost

variable {p q : Port} {ch : Chan} {s w : State}

/-- R143: a spare takes up the channel that the lost port carried. -/
theorem carrier_replaced (lost : Lost p s w) (active : (s.port p).state = .active)
    (noSwap : ∀ q, (s.port q).state = .tuning → (s.port q).channel = some ch → (s.port q).purpose ≠ some .swap) (spare : IsSpare q s)
    (carried : (s.floor ch).carried) : Replaced p q ch s w (loseCarrier p ch w) ∧ Transferred ch s (loseCarrier p ch w) := by
  have row : loseCarrier p ch w =
      spareSearch (fun q s => reportTransfer ch (some p) (some q) (enterTransfer ch s)) (closeChannel ch) ch w := by
    rw [loseCarrier, lost.swap_none noSwap]
  have enters (t : State) : Only [.floors, .links] t (reportTransfer ch (some p) (some q) (enterTransfer ch t)) :=
    Only.andThen (hs := [.floors, .links]) (modFloor_only _ _ _) (reportTransfer_only _ _ _ _)
  obtain ⟨replaced, floors⟩ := lost.replaces (closing := closeChannel ch)
    (enter := fun q s => reportTransfer ch (some p) (some q) (enterTransfer ch s)) spare (by simp [active]) (by simp [active]) enters
  rw [row]
  have aborts := abortTest_only q .failover w
  have before : (abortTest q .failover w).floors = s.floors := aborts.floors.trans lost.only.floors
  refine ⟨replaced, (enterTransfer_transferred (s := abortTest q .failover w) ?_).of_floors before
    (floors.trans (reportTransfer_only _ _ _ _).floors)⟩
  rw [State.floor_congr before]
  exact carried

/-- R148: the port that tunes for a swap goes on in the place of the lost one. -/
theorem carrier_succeeded (lost : Lost p s w) (other : q ≠ p) (tuning : (s.port q).state = .tuning) (channel : (s.port q).channel = some ch)
    (purpose : (s.port q).purpose = some .swap)
    (one : ∀ r, (s.port r).state = .tuning → (s.port r).channel = some ch → (s.port r).purpose = some .swap → r = q)
    (carried : (s.floor ch).carried) : Only [.ports, .floors, .links] w (loseCarrier p ch w) ∧
      (∀ r, r ≠ p → r ≠ q → (loseCarrier p ch w).port r = s.port r) ∧ (loseCarrier p ch w).port p = w.port p ∧
      (loseCarrier p ch w).port q = { s.port q with purpose := some .transfer } ∧ Transferred ch s (loseCarrier p ch w) := by
  have own := lost.others q other
  have swap : swapPortOf w ch = some q := swapPortOf_eq (by rw [own]; exact tuning) (by rw [own]; exact channel) (by rw [own]; exact purpose)
    fun r tuning' channel' purpose' => by
      obtain ⟨apart, was⟩ := lost.state (by simp) r tuning'
      rw [lost.others r apart] at channel' purpose'
      exact one r was channel' purpose'
  have row : loseCarrier p ch w = broadcast (.swapFailed ch q .portLost)
      (modPort q (fun r => { r with purpose := some .transfer }) (reportTransfer ch (some p) (some q) (enterTransfer ch w))) := by
    rw [loseCarrier, swap]
  have entered : Only [.floors, .links] w (reportTransfer ch (some p) (some q) (enterTransfer ch w)) :=
    Only.andThen (hs := [.floors, .links]) (modFloor_only _ _ _) (reportTransfer_only _ _ _ _)
  have ports (r : Port) : (loseCarrier p ch w).port r = if r = q then { s.port q with purpose := some .transfer } else w.port r := by
    rw [row, broadcast_port, modPort_port, State.port_congr entered.ports, State.port_congr entered.ports, own]
  refine ⟨?_, fun r apart mine => by rw [ports, if_neg mine, lost.others r apart], by rw [ports, if_neg other.symm], by rw [ports, if_pos rfl], ?_⟩
  · rw [row]
    exact ((entered.mono (by decide)).trans ((modPort_only _ _ _).mono (by decide))).trans ((broadcast_only _ _).mono (by decide))
  · refine (enterTransfer_transferred (s := w) (by rw [lost.floor]; exact carried)).of_floors lost.only.floors ?_
    rw [row, (broadcast_only _ _).floors, (modPort_only _ _ _).floors, (reportTransfer_only _ _ _ _).floors]

/-- R145: with no spare the channel that the lost port carried closes. -/
theorem carrier_closes (lost : Lost p s w)
    (noSwap : ∀ q, (s.port q).state = .tuning → (s.port q).channel = some ch → (s.port q).purpose ≠ some .swap) (none_ : NoSpare s) :
    loseCarrier p ch w = closeChannel ch w := by
  rw [loseCarrier, lost.swap_none noSwap]
  dsimp only
  rw [spareSearch, (lost.noSpare none_).candidate]

theorem search_closes (lost : Lost p s w) (none_ : NoSpare s) : searchAgain ch w = closeChannel ch w := by
  rw [searchAgain, spareSearch, (lost.noSpare none_).candidate]

/-- R143: the search is made again for a channel that the lost port tuned for. -/
theorem search_replaced (lost : Lost p s w) (tuning : (s.port p).state = .tuning) (spare : IsSpare q s) :
    Replaced p q ch s w (searchAgain ch w) ∧ (searchAgain ch w).floors = s.floors := by
  obtain ⟨replaced, floors⟩ := lost.replaces (ch := ch) (enter := fun _ => id) (closing := closeChannel ch) spare (by simp [tuning])
    (by simp [tuning]) (fun t => .refl _ _)
  exact ⟨replaced, floors.trans ((abortTest_only q .failover w).floors.trans lost.only.floors)⟩

end Lost

/-! ## What a loss does, by the state that the port had (R141, R149) -/

section
variable {p : Port} {ch : Chan} {r : PortRec} {cause : SwapCause} {shut : State → State} {w : State}

theorem portLost_idle (idle : r.state = .standby ∨ r.state = .absent ∨ r.state = .failed) : portLost p r cause shut w = w := by
  unfold portLost
  rcases idle with h | h | h <;> rw [h]

theorem portLost_test (test : r.state = .test) : portLost p r cause shut w = abortTest p .portFailed w := by
  rw [portLost, test]

theorem portLost_active (active : r.state = .active) (channel : r.channel = some ch) :
    portLost p r cause shut w = loseCarrier p ch (shut w) := by
  rw [portLost, active]
  dsimp only
  rw [channel, whenSome_some]

theorem portLost_swap (tuning : r.state = .tuning) (channel : r.channel = some ch) (purpose : r.purpose = some .swap) :
    portLost p r cause shut w = broadcast (.swapFailed ch p cause) w := by
  rw [portLost, tuning]
  dsimp only
  rw [channel, whenSome_some, if_pos purpose]

theorem portLost_tuning (tuning : r.state = .tuning) (channel : r.channel = some ch) (purpose : r.purpose ≠ some .swap) :
    portLost p r cause shut w = searchAgain ch w := by
  rw [portLost, tuning]
  dsimp only
  rw [channel, whenSome_some, if_neg purpose]

end

/-! ## What a failure does, whatever its event (R141, R143, R145, R148) -/

section
variable {p q : Port} {ch : Chan} {cause : FailCause} {s v : State}

theorem failPort_active (h : Recorded p s v) (active : (s.port p).state = .active) (channel : (s.port p).channel = some ch) :
    failPort p cause v = loseCarrier p ch (shutPort p (hasFailed p cause v)) := by
  rw [failPort_eq]
  exact portLost_active (by rw [h.own]; exact active) (by rw [h.own]; exact channel)

/-- R141: the port that carried a channel, closed and silent. -/
theorem shutFailed (h : Recorded p s v) (active : (s.port p).state = .active) :
    Lost p s (shutPort p (hasFailed p cause v)) ∧ FailedBy p cause s (shutPort p (hasFailed p cause v)) ∧
      (shutPort p (hasFailed p cause v)).sent = s.sent ++ [(p, .gate none)] := by
  obtain ⟨lost, fields⟩ := hasFailed_lost (cause := cause) h
  exact ⟨shutPort_lost lost, shutPort_by h active, by rw [shutPort_sent, fields.sent]⟩

/-- R143: a port that tuned for a channel fails, and a spare takes its place. -/
theorem failPort_retunes (h : Recorded p s v) (tuning : (s.port p).state = .tuning) (channel : (s.port p).channel = some ch)
    (purpose : (s.port p).purpose ≠ some .swap) (spare : IsSpare q s) :
    failPort p cause v = { s with
      ports := (failPort p cause v).ports, tests := (failPort p cause v).tests, downlink := (failPort p cause v).downlink
      links := (failPort p cause v).links, sent := s.sent ++ [(q, .tune (s.chan ch).freq)] } ∧
    (∀ r, r ≠ p → r ≠ q → (failPort p cause v).port r = s.port r) ∧ FailedBy p cause s (failPort p cause v) ∧
      TunesFor q ch s (failPort p cause v) := by
  obtain ⟨lost, fields⟩ := hasFailed_lost (cause := cause) h
  have failed := hasFailed_by (cause := cause) h (by simp [tuning])
  have row : failPort p cause v = searchAgain ch (hasFailed p cause v) := by
    rw [failPort_eq]
    exact portLost_tuning (by rw [h.own]; exact tuning) (by rw [h.own]; exact channel) (by rw [h.own]; exact purpose)
  obtain ⟨replaced, floors⟩ := lost.search_replaced (ch := ch) tuning spare
  rw [row]
  refine ⟨((fields.mono (by decide)).trans replaced.only).retuneFields_eq floors ?_, replaced.others, failed.of_port replaced.lost, replaced.tunes⟩
  rw [replaced.sent, fields.sent]

/-- R145: a port that tuned for a channel fails, and with no spare the channel closes. -/
theorem failPort_closes (h : Recorded p s v) (tuning : (s.port p).state = .tuning) (channel : (s.port p).channel = some ch)
    (purpose : (s.port p).purpose ≠ some .swap) (none_ : NoSpare s)
    (uncarried : ∀ r, (s.port r).state = .active → (s.port r).channel ≠ some ch) :
    failPort p cause v = { s with
      ports := (failPort p cause v).ports, floors := (failPort p cause v).floors, downlink := (failPort p cause v).downlink
      generators := (failPort p cause v).generators, links := (failPort p cause v).links } ∧
    (∀ r, r ≠ p → (failPort p cause v).port r = s.port r) ∧ FailedBy p cause s (failPort p cause v) ∧ ClosedBy ch s (failPort p cause v) := by
  obtain ⟨lost, fields⟩ := hasFailed_lost (cause := cause) h
  have failed := hasFailed_by (cause := cause) h (by simp [tuning])
  have row : failPort p cause v = closeChannel ch (hasFailed p cause v) := by
    rw [failPort_eq, ← lost.search_closes none_]
    exact portLost_tuning (by rw [h.own]; exact tuning) (by rw [h.own]; exact channel) (by rw [h.own]; exact purpose)
  obtain ⟨closes, closed⟩ := lost.closes (ch := ch) fun r active channel' => absurd channel' (uncarried r active)
  rw [row]
  have ports (r : Port) := State.port_congr closes.ports r
  refine ⟨((fields.mono (by decide)).trans (closes.mono (by decide))).closeFields_eq ?_, fun r other => by rw [ports, lost.others r other],
    failed.of_port (ports p), closed⟩
  rw [closes.sent, fields.sent]

end

/-- Settles O44, by the state of the port. -/
theorem portFailureTransfersOrCloses : Obligations.PortFailureTransfersOrCloses := by
  intro p c cause s awake fails
  have fails : Fails p c cause s := fails
  refine ⟨fun idle => ?idle, fun failed => ?again, fun out => ?out, fun test => ?test, fun ch active channel noSwap =>
    ⟨fun q spare carried => ?spare, fun none_ alone => ?closes⟩, fun ch q active channel tuning own purpose one carried => ?swap,
    fun ch tuning channel => ⟨fun purpose => ?swapping, fun q purpose spare => ?searches, fun purpose none_ uncarried => ?gone⟩⟩
  case idle =>
    have can : CanFail p cause s := idle.imp id fun absent => .inr (.inr (.inr absent))
    obtain ⟨v, h, row⟩ := fails.row awake can
    obtain ⟨lost, fields⟩ := hasFailed_lost (cause := cause) h
    have unaffected : failPort p cause v = hasFailed p cause v := by
      rw [failPort_eq]
      refine portLost_idle ?_
      rw [h.own]
      exact idle.imp id fun absent => .inl absent.1
    refine ⟨_, row, ?_⟩
    rw [unaffected]
    exact ⟨fields.portFields_eq, lost.others, hasFailed_by h (by rcases idle with h | h <;> simp [h])⟩
  case again =>
    rcases fails with ⟨rfl, rfl⟩ | ⟨rfl, rfl, t0, last, due⟩
    · have breaks : faulty p (withHealth p .fault s) = modPort p (fun r => { r with okStart := none }) (withHealth p .fault s) :=
        if_pos (by rw [withHealth_port]; exact failed)
      rw [exec_healthReport awake (h := .fault) rfl, if_neg (by simp [failed])]
      refine (congrArg (fun t => Host.Outcome.next (settle t)) breaks).trans ?_
      simp [withHealth, modPort, setPort, State.port]
    · rw [exec_healthSilence awake last due, silence, failed]
      simp [modPort, setPort, State.port]
  case out =>
    rcases fails with ⟨rfl, rfl⟩ | ⟨rfl, rfl, t0, last, due⟩
    · have isolated : (s.port p).state = .isolated := out.resolve_right (by simp)
      rw [exec_healthReport awake (h := .fault) rfl, if_pos isolated]
    · rw [exec_healthSilence awake last due, silence]
      rcases out with isolated | ⟨absent, -⟩
      · rw [isolated]
      · rw [absent]
  case test =>
    have can : CanFail p cause s := .inr (.inl test)
    obtain ⟨v, h, row⟩ := fails.row awake can
    obtain ⟨lost, fields⟩ := hasFailed_lost (cause := cause) h
    have aborts : failPort p cause v = abortTest p .portFailed (hasFailed p cause v) := by
      rw [failPort_eq]
      exact portLost_test (by rw [h.own]; exact test)
    have after := abortTest_only p .portFailed (hasFailed p cause v)
    refine ⟨_, row, ?_⟩
    rw [aborts]
    have ports (q : Port) := State.port_congr after.ports q
    exact ⟨((fields.mono (by decide)).trans (after.mono (by decide))).abortFields_eq, fun q other => by rw [ports, lost.others q other],
      (hasFailed_by h (by simp [test])).of_port (ports p), (abortTest_aborted _ _ _).of_tests fields.tests fields.time rfl⟩
  case spare =>
    obtain ⟨v, h, row⟩ := fails.row awake (.inr (.inr (.inl active)))
    obtain ⟨lost, failed, sent⟩ := shutFailed (cause := cause) h active
    obtain ⟨replaced, transferred⟩ := lost.carrier_replaced active noSwap spare carried
    refine ⟨_, row, ?_⟩
    rw [failPort_active h active channel]
    refine ⟨((lost.only.mono (by decide)).trans replaced.only).spareFields_eq ?_, replaced.others, failed.of_port replaced.lost, replaced.tunes,
      transferred⟩
    rw [replaced.sent, sent, List.append_assoc]
    rfl
  case closes =>
    obtain ⟨v, h, row⟩ := fails.row awake (.inr (.inr (.inl active)))
    obtain ⟨lost, failed, sent⟩ := shutFailed (cause := cause) h active
    obtain ⟨closes, closed⟩ := lost.closes alone
    refine ⟨_, row, ?_⟩
    rw [failPort_active h active channel, lost.carrier_closes noSwap none_]
    have ports (r : Port) := State.port_congr closes.ports r
    exact ⟨((lost.only.mono (by decide)).trans (closes.mono (by decide))).closeFields_eq (closes.sent.trans sent),
      fun r other => by rw [ports, lost.others r other], failed.of_port (ports p), closed⟩
  case swap =>
    obtain ⟨v, h, row⟩ := fails.row awake (.inr (.inr (.inl active)))
    obtain ⟨lost, failed, sent⟩ := shutFailed (cause := cause) h active
    have other : q ≠ p := by rintro rfl; simp [active] at tuning
    obtain ⟨fields, others, same, goesOn, transferred⟩ := lost.carrier_succeeded other tuning own purpose one carried
    refine ⟨_, row, ?_⟩
    rw [failPort_active h active channel]
    exact ⟨((lost.only.mono (by decide)).trans (fields.mono (by decide))).transferFields_eq (fields.sent.trans sent), others,
      failed.of_port same, goesOn, transferred⟩
  case swapping =>
    obtain ⟨v, h, row⟩ := fails.row awake (.inr (.inr (.inr (.inl tuning))))
    obtain ⟨lost, fields⟩ := hasFailed_lost (cause := cause) h
    have reports : failPort p cause v = broadcast (.swapFailed ch p cause.swapCause) (hasFailed p cause v) := by
      rw [failPort_eq]
      exact portLost_swap (by rw [h.own]; exact tuning) (by rw [h.own]; exact channel) (by rw [h.own]; exact purpose)
    refine ⟨_, row, ?_⟩
    rw [reports]
    exact ⟨(fields.trans ((broadcast_only _ _).mono (by decide))).portFields_eq, lost.others, hasFailed_by h (by simp [tuning])⟩
  case searches =>
    obtain ⟨v, h, row⟩ := fails.row awake (.inr (.inr (.inr (.inl tuning))))
    exact ⟨_, row, failPort_retunes h tuning channel purpose spare⟩
  case gone =>
    obtain ⟨v, h, row⟩ := fails.row awake (.inr (.inr (.inr (.inl tuning))))
    exact ⟨_, row, failPort_closes h tuning channel purpose none_ uncarried⟩

end Sys2Proof.Machine

/-! PROOF. Health reports that do not fail a port (O43). -/

namespace Sys2Proof.Machine

set_option Elab.async false

/-! ## The row of a healthy report (R139) -/

/-- R139: a port whose report has been recorded, as a state. -/
theorem withHealth_eq (p : Port) (h : Health) (s : State) : withHealth p h s = { s with
    ports := s.ports.put p { s.port p with lastHealth := some s.time, status := some h } } := rfl

theorem exec_healthReport_unheard {p : Port} {b : Byte} {s : State} (awake : s.resetLine = false)
    (unheard : (s.port p).state = .isolated ∨ 3 ≤ b.toNat) : exec (.healthReport p b) s = .next (settle s) := by
  have row : exec (.healthReport p b) s =
    event (fun s => if (s.port p).state = .isolated then s else whenSome (healthOf b) (takeHealth p) s) s := rfl
  rw [row, event_next awake]
  rcases unheard with isolated | large
  · rw [if_pos isolated]
  · have undefined : healthOf b = none := by
      unfold healthOf
      split <;> first | omega | rfl
    rw [undefined, whenSome_none, ite_self]

/-- R139: a report of health, taken by a port that is not isolated. -/
theorem exec_healthReport_healthy {p : Port} {b : Byte} {h : Health} {s : State} (awake : s.resetLine = false) (isHealth : healthOf b = some h)
    (well : h ≠ .fault) (heard : (s.port p).state ≠ .isolated) :
    exec (.healthReport p b) s = .next (settle (healthy p (s.port p).status h (withHealth p h s))) := by
  rw [exec_healthReport awake isHealth, if_neg heard]
  cases h with
  | ok => rfl
  | degraded => rfl
  | fault => exact absurd rfl well

theorem statusChanged_iff {old : Option Health} {h : Health} :
    statusChanged old h = true ↔ old = some .ok ∧ h = .degraded ∨ old = some .degraded ∧ h = .ok := by
  simp [statusChanged]

/-- R139: the notice of a change between OK and DEGRADED. -/
theorem tellHealth_eq (p : Port) (old : Option Health) (h : Health) (s : State) :
    (if statusChanged old h then broadcast (.portHealth p h) s else s) =
      (if old = some .ok ∧ h = .degraded ∨ old = some .degraded ∧ h = .ok then broadcast (.portHealth p h) else id) s := by
  by_cases changed : statusChanged old h = true
  · rw [if_pos changed, if_pos (statusChanged_iff.1 changed)]
  · rw [if_neg changed, if_neg fun c => changed (statusChanged_iff.2 c), id]

/-- R145: a port newly STANDBY that the lowest-numbered CLOSED channel takes; `w` is the state after the change. -/
theorem takenUp_of {p : Port} {ch : Chan} {r : PortRec} {s w : State} (fields : Only [.ports, .links] s w)
    (others : ∀ q, q ≠ p → w.port q = s.port q) (own : w.port p = r) (service : s.part = .service) (closed : (s.floor ch).state = .closed)
    (below : ∀ c : Chan, c.val < ch.val → (s.floor c).state ≠ .closed) :
    takeUpClosed p w = { s with
      ports := (takeUpClosed p w).ports, floors := (takeUpClosed p w).floors, links := (takeUpClosed p w).links
      sent := s.sent ++ [(p, .tune (s.chan ch).freq)] } ∧
    (takeUpClosed p w).port p = { r with
      state := .tuning, channel := some ch, purpose := some .transfer, tuneDeadline := some (s.time + 1000) } ∧
    (∀ q, q ≠ p → (takeUpClosed p w).port q = s.port q) ∧
    (takeUpClosed p w).floor ch = { s.floor ch with state := .transfer, held := some .idle } ∧
    ∀ c, c ≠ ch → (takeUpClosed p w).floor c = s.floor c := by
  have floor (c : Chan) : w.floor c = s.floor c := State.floor_congr fields.floors c
  obtain ⟨port, rest, taken, floors, sent⟩ := takeUpClosed_takes (p := p) (fields.part.trans service) (by rw [floor]; exact closed)
    fun c low => by rw [floor]; exact below c low
  refine ⟨((fields.mono (by decide)).trans ((takeUpClosed_only p w).mono (by decide))).transferFields_eq ?_, ?_,
    fun q other => by rw [rest q other, others q other], by rw [taken, floor], fun c other => by rw [floors c other, floor]⟩
  · rw [sent, fields.sent, State.chan_congr fields.channels]
  · rw [port, own, fields.time]

/-- Settles O43, by the state of the port. -/
theorem healthReportsAreTaken : Obligations.HealthReportsAreTaken := by
  intro p b h s awake
  refine ⟨exec_healthReport_unheard awake, fun code => ?_⟩
  have isHealth : healthOf b = some h := by
    cases h <;> simp only at code <;> simp [healthOf, code]
  have own := withHealth_port p h s
  refine ⟨fun well absent open_ => ?absent, fun ch well absent service closed below => ?taken, fun failed => ?failed,
    fun well idle => ?idle, fun ch well busy channel => ?busy⟩
  case absent =>
    have row : healthy p (s.port p).status h (withHealth p h s) = takeUpClosed p (portTo p .standby .healthy id (withHealth p h s)) := by
      simp only [healthy, own, absent]
    have told := portTo_only p .standby .healthy id (withHealth p h s)
    have still : takeUpClosed p (portTo p .standby .healthy id (withHealth p h s)) = portTo p .standby .healthy id (withHealth p h s) :=
      takeUpClosed_none (open_.imp told.part.trans fun none_ c => by rw [State.floor_congr told.floors]; exact none_ c)
    rw [exec_healthReport_healthy awake isHealth well (by simp [absent]), row, still, portTo_eq (old := .absent) (by rw [own]; exact absent), own]
    simp [withHealth_eq]
  case taken =>
    have row : healthy p (s.port p).status h (withHealth p h s) = takeUpClosed p (portTo p .standby .healthy id (withHealth p h s)) := by
      simp only [healthy, own, absent]
    refine ⟨_, exec_healthReport_healthy awake isHealth well (by simp [absent]), ?_⟩
    rw [row]
    refine takenUp_of (r := { s.port p with state := .standby, lastHealth := some s.time, status := some h })
      (((withHealth_recorded p h s).only.mono (by decide)).trans (portTo_only _ _ _ _ _)) (fun q other => ?_) ?_ service closed below
    · rw [portTo_port, if_neg other, (withHealth_recorded p h s).others q other]
    · rw [portTo_port, if_pos rfl, own]
      rfl
  case failed =>
    have runs : healthy p (s.port p).status h (withHealth p h s) =
        modPort p (fun r => { r with okStart := some (r.okStart.getD (withHealth p h s).time) }) (withHealth p h s) := by
      simp only [healthy, own, failed]
    have breaks : faulty p (withHealth p h s) = modPort p (fun r => { r with okStart := none }) (withHealth p h s) :=
      if_pos (by rw [own]; exact failed)
    by_cases fault : h = .fault
    · subst fault
      rw [exec_healthReport awake isHealth, if_neg (by simp [failed])]
      refine (congrArg (fun t => Host.Outcome.next (settle t)) breaks).trans ?_
      simp [withHealth, modPort, setPort, State.port]
    · rw [exec_healthReport_healthy awake isHealth fault (by simp [failed]), runs, if_neg fault]
      simp [withHealth, modPort, setPort, State.port]
  case idle =>
    have row : healthy p (s.port p).status h (withHealth p h s) =
        if statusChanged (s.port p).status h then broadcast (.portHealth p h) (withHealth p h s) else withHealth p h s := by
      rcases idle with state | state <;> simp [healthy, stillHealthy, own, state]
    rw [exec_healthReport_healthy awake isHealth well (by rcases idle with state | state <;> simp [state]), row, tellHealth_eq, withHealth_eq]
  case busy =>
    have row : healthy p (s.port p).status h (withHealth p h s) = (if h = .degraded then latchAll ch .degraded else id)
        (if statusChanged (s.port p).status h then broadcast (.portHealth p h) (withHealth p h s) else withHealth p h s) := by
      rcases busy with state | state <;> cases h <;> simp_all [healthy, stillHealthy]
    rw [exec_healthReport_healthy awake isHealth well (by rcases busy with state | state <;> simp [state]), row, tellHealth_eq, withHealth_eq]

end Sys2Proof.Machine

/-! PROOF. Tuning that ends, and the restoration of a port (O45). -/

namespace Sys2Proof.Machine

set_option Elab.async false

/-! ## The gate of a channel that one port carries (R34) -/

section
variable {p : Port} {ch : Chan} {s : State}

/-- R34: what an operation sends goes to the one port that carries the channel. -/
def ThroughPort (p : Port) (s u : State) : Prop := (∀ q, q ≠ p → u.port q = s.port q) ∧ ∃ out, u.sent = s.sent ++ out

theorem ThroughPort.of_eq {u : State} (ports : u.ports = s.ports) (sent : u.sent = s.sent) : ThroughPort p s u :=
  ⟨fun q _ => State.port_congr ports q, [], by rw [sent, List.append_nil]⟩

theorem ThroughPort.trans {t u : State} (h : ThroughPort p s t) (k : ThroughPort p t u) : ThroughPort p s u := by
  obtain ⟨others, out, sent⟩ := h
  obtain ⟨others', out', sent'⟩ := k
  exact ⟨fun q apart => (others' q apart).trans (others q apart), out ++ out', by rw [sent', sent, List.append_assoc]⟩

theorem setGate_through (g : Option Party) (alone : ∀ q, q ≠ p → (s.port q).state = .active → (s.port q).channel ≠ some ch) :
    ThroughPort p s (setGate ch g s) := by
  unfold setGate
  split
  · exact .of_eq rfl rfl
  split
  · exact .of_eq rfl rfl
  · next q carries =>
    have own := List.find?_some carries
    simp only [Bool.and_eq_true, beq_iff_eq] at own
    have mine : q = p := Decidable.byContradiction fun apart => alone q apart own.1 own.2
    subst mine
    exact ⟨fun r apart => by rw [sendGate_port, if_neg apart]; rfl, _, rfl⟩

theorem issueGrant_through (was : Bool) (x : Party) (cls : TalkClass)
    (alone : ∀ q, q ≠ p → (s.port q).state = .active → (s.port q).channel ≠ some ch) : ThroughPort p s (issueGrant was ch x cls s) := by
  have before : Only [.floors, .downlink, .links] s (answer ch x (.granted cls) (fillGrant ch x cls s)) :=
    Only.andThen (hs := [.floors, .downlink, .links]) (modFloor_only _ _ _) (answer_only _ _ _ _)
  have after_ : Only [.floors, .generators] (setGate ch (some x) (answer ch x (.granted cls) (fillGrant ch x cls s)))
      (issueGrant was ch x cls s) := by
    refine Only.andThen (fs := [.generators]) ?_ (modFloor_only _ _ _)
    exact Only.iteFun _ (Only.ite _ (startPlay_only _ _ _ _) (.refl _ _)) (.refl _ _)
  refine (ThroughPort.trans (.of_eq before.ports before.sent) (setGate_through (some x) ?_)).trans (.of_eq after_.ports after_.sent)
  intro q apart
  rw [State.port_congr before.ports]
  exact alone q apart

/-- R58: a service decision without a waiting alert. -/
theorem serviceDecision_through (none_ : (s.floor ch).alerts = [])
    (alone : ∀ q, q ≠ p → (s.port q).state = .active → (s.port q).channel ≠ some ch) : ThroughPort p s (serviceDecision ch s) := by
  unfold serviceDecision
  split
  · rw [if_pos (by simp [none_])]
    split
    · exact .of_eq rfl rfl
    · exact issueGrant_through _ _ _ alone
  · exact .of_eq rfl rfl

end

/-! ## The end of a transfer (R48) -/

/-- R48: a floor that takes its held state. -/
def Floor.resumed (f : Floor) : Floor := { f with state := f.held.getD .idle, held := none }

/-- R48: with no alert waiting, a floor that has left TRANSFER does no more than a service decision. -/
theorem leaveTransfer_eq {ch : Chan} {s : State} (transfer : (s.floor ch).state = .transfer) (none_ : (s.floor ch).alerts = []) :
    leaveTransfer ch s = serviceDecision ch (modFloorTested ch Floor.resumed s) := by
  have alerts : ((modFloorTested ch Floor.resumed s).floor ch).alerts = [] := by
    rw [modFloorTested_floor_self, Floor.retest_alerts]
    exact none_
  unfold leaveTransfer Floor.resumed at *
  rw [if_pos transfer]
  revert alerts
  dsimp only
  generalize modFloorTested ch _ s = t
  intro alerts
  rw [alerts]
  by_cases idle : (t.floor ch).state = .idle
  · rw [idle]
  · rw [serviceDecision_of_ne idle]
    split <;> first | contradiction | rfl

/-- R58: a service decision holds no state. -/
theorem serviceDecision_held {ch : Chan} {s : State} (none_ : (s.floor ch).alerts = []) :
    ((serviceDecision ch s).floor ch).held = (s.floor ch).held := by
  by_cases idle : (s.floor ch).state = .idle
  · unfold serviceDecision
    rw [if_pos idle, if_pos (by simp [none_])]
    split
    · rfl
    · rw [issueGrant_floor_self, Floor.retest_held]
      simp [Floor.takes, idle]
  · rw [serviceDecision_of_ne idle]

theorem Only.tuneFields_eq {s u : State} (h : Only talkFields s u) : u = { s with
    ports := u.ports, floors := u.floors, downlink := u.downlink, generators := u.generators, links := u.links, sent := u.sent } :=
  State.eq_of_fields h.time h.part h.resetLine h.channels h.globals h.moves rfl rfl h.units h.slots h.quiet rfl h.tests h.sequences
    h.patterns rfl rfl rfl h.pending

section
variable {p : Port} {ch : Chan} {s : State}

/-- R144: a port that has become the carrier of its channel. -/
theorem becomeCarrier_port (q : Port) : (becomeCarrier p ch s).port q = if q = p then { s.port p with
    state := .active, purpose := none, tuneDeadline := none
    pins := { (s.port p).pins with gate := (s.floor ch).gate, tone := some ch } } else s.port q := by
  have told := portTo_only p .active .tuned (fun r => { r with purpose := none, tuneDeadline := none }) s
  rw [becomeCarrier, servePort_port, State.floor_congr told.floors]
  by_cases own : q = p
  · rw [if_pos own, if_pos own, portTo_port, if_pos rfl]
  · rw [if_neg own, if_neg own, portTo_port, if_neg own]

theorem becomeCarrier_fields : Only [.ports, .links, .sent] s (becomeCarrier p ch s) ∧
    (becomeCarrier p ch s).sent = s.sent ++ [(p, .gate (s.floor ch).gate)] := by
  have told := portTo_only p .active .tuned (fun r => { r with purpose := none, tuneDeadline := none }) s
  refine ⟨(told.mono (by decide)).trans ((servePort_only _ _ _).mono (by decide)), ?_⟩
  rw [becomeCarrier, servePort_sent, told.sent, State.floor_congr told.floors]

end

/-! ## The rows (R142, R144, R148) -/

theorem exec_tuned {p : Port} {ch : Chan} {u : TunePurpose} {s : State} (awake : s.resetLine = false) (tuning : (s.port p).state = .tuning)
    (channel : (s.port p).channel = some ch) (purpose : (s.port p).purpose = some u) :
    exec (.tuned p) s = .next (settle (tuned p ch u s)) := by
  have row : exec (.tuned p) s = event (fun s =>
    if (s.port p).state = .tuning then
      whenSome (s.port p).channel (fun ch => whenSome (s.port p).purpose (fun u => tuned p ch u)) s
    else s) s := rfl
  rw [row, event_next awake, if_pos tuning, channel, whenSome_some, purpose, whenSome_some]

theorem exec_tuned_ignored {p : Port} {s : State} (awake : s.resetLine = false) (other : (s.port p).state ≠ .tuning) :
    exec (.tuned p) s = .next (settle s) := by
  have row : exec (.tuned p) s = event (fun s =>
    if (s.port p).state = .tuning then
      whenSome (s.port p).channel (fun ch => whenSome (s.port p).purpose (fun u => tuned p ch u)) s
    else s) s := rfl
  rw [row, event_next awake, if_neg other]

theorem exec_restorationMark {p : Port} {t0 : Time} {s : State} (awake : s.resetLine = false) (failed : (s.port p).state = .failed)
    (start : (s.port p).okStart = some t0) (due : reached s.time (t0 + 10000) = true) : exec (.restorationMark p) s =
      .next (settle (takeUpClosed p (portTo p .standby .recovered (fun r => { r with okStart := none }) s))) := by
  have row : exec (.restorationMark p) s = event (fun s => expiry ((s.port p).okStart.map (fun t => after t 10000)) (restored p) s) s := rfl
  have restores : restored p s = takeUpClosed p (portTo p .standby .recovered (fun r => { r with okStart := none }) s) := if_pos failed
  rw [row, event_next awake, start, ← restores]
  exact congrArg (fun t => Host.Outcome.next (settle t)) (expiry_reached due)

theorem exec_tuneDeadline {p : Port} {d : Time} {s : State} (awake : s.resetLine = false) (tuning : (s.port p).state = .tuning)
    (deadline : (s.port p).tuneDeadline = some d) (due : reached s.time d = true) :
    exec (.tuneDeadline p) s = .next (settle (failPort p .tuneTimeout s)) := by
  have row : exec (.tuneDeadline p) s = event (fun s =>
    if (s.port p).state = .tuning then expiry (s.port p).tuneDeadline (failPort p .tuneTimeout) s else s) s := rfl
  rw [row, event_next awake, if_pos tuning, deadline, expiry_reached due]

/-- R48, R144: a port that tuned with purpose START or TRANSFER. -/
theorem tuned_restores {p : Port} {ch : Chan} {u0 : TunePurpose} {s : State} (own : u0 ≠ .swap) :
    tuned p ch u0 s = broadcast (.channelRestored ch p) (leaveTransfer ch (becomeCarrier p ch s)) := by
  cases u0 with
  | swap => exact absurd rfl own
  | start => rfl
  | transfer => rfl

/-- R48, R144, R151: what TUNED does with purpose START or TRANSFER. -/
theorem restored_channel {p : Port} {ch : Chan} {s v : State} (transfer : (s.floor ch).state = .transfer) (none_ : (s.floor ch).alerts = [])
    (alone : ∀ q, q ≠ p → (s.port q).state = .active → (s.port q).channel ≠ some ch)
    (isNow : v = leaveTransfer ch (becomeCarrier p ch s)) :
    Only talkFields s v ∧ (∀ q, q ≠ p → v.port q = s.port q) ∧ (p, PortMsg.gate (s.floor ch).gate) ∈ v.sent ∧
      (∃ g, v.port p = { s.port p with
        state := .active, purpose := none, tuneDeadline := none, pins := { (s.port p).pins with gate := g, tone := some ch } }) ∧
      (∀ d, d ≠ ch → v.floor d = s.floor d) ∧
      ∃ t, v = serviceDecision ch t ∧ Only talkFields s t ∧ t.floor ch = (Floor.resumed (s.floor ch)).retest (s.floor ch).isForeign s.time := by
  obtain ⟨fields, sent⟩ := becomeCarrier_fields (p := p) (ch := ch) (s := s)
  have floor (d : Chan) : (becomeCarrier p ch s).floor d = s.floor d := State.floor_congr fields.floors d
  have row : v = serviceDecision ch (modFloorTested ch Floor.resumed (becomeCarrier p ch s)) := by
    rw [isNow]
    exact leaveTransfer_eq (by rw [floor]; exact transfer) (by rw [floor]; exact none_)
  have resumed : (modFloorTested ch Floor.resumed (becomeCarrier p ch s)).floor ch =
      (Floor.resumed (s.floor ch)).retest (s.floor ch).isForeign s.time := by
    rw [modFloorTested_floor_self, floor, fields.time]
  have port (q : Port) : (modFloorTested ch Floor.resumed (becomeCarrier p ch s)).port q = (becomeCarrier p ch s).port q := rfl
  have through : ThroughPort p (becomeCarrier p ch s) v := by
    rw [row]
    refine (ThroughPort.of_eq (u := modFloorTested ch Floor.resumed (becomeCarrier p ch s)) rfl rfl).trans (serviceDecision_through ?_ ?_)
    · rw [resumed, Floor.retest_alerts]
      exact none_
    · intro q apart
      rw [port, becomeCarrier_port, if_neg apart]
      exact alone q apart
  obtain ⟨others, out, extends_⟩ := through
  have frame := leaveTransfer_frame ch (becomeCarrier p ch s)
  have changed : Only talkFields s (modFloorTested ch Floor.resumed (becomeCarrier p ch s)) :=
    (fields.mono (by decide)).trans ((modFloorTested_only _ _ _).mono (by decide))
  refine ⟨?_, fun q apart => ?_, ?_, ⟨(v.port p).pins.gate, ?_⟩, fun d apart => ?_, _, row, changed, resumed⟩
  · rw [isNow]
    exact (fields.mono (by decide)).trans frame.only
  · rw [others q apart, becomeCarrier_port, if_neg apart]
  · rw [extends_, sent]
    simp
  · rw [isNow, frame.2.2 p, becomeCarrier_port, if_pos rfl]
  · rw [isNow, (frame.2.1 d apart).1, floor]

/-- Settles O45, by the state and the purpose of the port. -/
theorem tuningEnds : Obligations.TuningEnds := by
  intro p s awake
  refine ⟨exec_tuned_ignored awake, fun t0 failed start due open_ => ?restored, fun t0 ch failed start due service closed below => ?taken,
    fun ch u0 tuning channel purpose own transfer none_ alone => ?tuned, fun ch d tuning channel purpose deadline due => ?swap,
    fun ch d tuning channel purpose deadline due => ⟨fun q spare => ?searches, fun none_ uncarried => ?closes⟩⟩
  case restored =>
    have told := portTo_only p .standby .recovered (fun r => { r with okStart := none }) s
    rw [exec_restorationMark awake failed start due,
      takeUpClosed_none (open_.imp told.part.trans fun none_ c => by rw [State.floor_congr told.floors]; exact none_ c), portTo_eq failed]
  case taken =>
    refine ⟨_, exec_restorationMark awake failed start due, ?_⟩
    refine takenUp_of (r := { s.port p with state := .standby, okStart := none }) (portTo_only _ _ _ _ _) (fun q apart => ?_) ?_ service closed below
    · rw [portTo_port, if_neg apart]
    · rw [portTo_port, if_pos rfl]
  case tuned =>
    refine ⟨_, exec_tuned awake tuning channel purpose, ?_⟩
    rw [tuned_restores own]
    obtain ⟨fields, others, sent, ⟨g, port⟩, floors, t, row, changed, resumed⟩ := restored_channel transfer none_ alone rfl
    generalize leaveTransfer ch (becomeCarrier p ch s) = v at fields others sent port floors row
    have told : Only talkFields s (broadcast (.channelRestored ch p) v) := fields.trans ((broadcast_only _ _).mono (by decide))
    have floor (d : Chan) : (broadcast (.channelRestored ch p) v).floor d = v.floor d := State.floor_congr (broadcast_only _ _).floors d
    have at_ (q : Port) : (broadcast (.channelRestored ch p) v).port q = v.port q := State.port_congr (broadcast_only _ _).ports q
    have held : (v.floor ch).held = none := by
      rw [row, serviceDecision_held (by rw [resumed]; simpa [Floor.resumed] using none_), resumed]
      simp [Floor.resumed]
    simp only [Granted, floor, at_, port]
    refine ⟨?_, trivial, channel, trivial, trivial, trivial, sent, others, floors, held, fun st was busy => ?_, fun was empty => ?_, fun e was best => ?_⟩
    · exact told.tuneFields_eq
    · have state : (t.floor ch).state = st := by rw [resumed]; simp [Floor.resumed, was]
      rw [row, serviceDecision_of_ne (by rw [state]; exact busy), resumed]
      simp [Floor.resumed, was]
    · have state : (t.floor ch).state = .idle := by rw [resumed]; simp [Floor.resumed, was]
      rw [row, serviceDecision_empty (by rw [resumed]; simpa [Floor.resumed] using none_) (by rw [resumed]; simpa [Floor.resumed] using empty)]
      exact state
    · have state : (t.floor ch).state = .idle := by rw [resumed]; simp [Floor.resumed, was]
      have best' : IsBest ch e t := by
        unfold IsBest
        rw [resumed, Floor.retest_queue, changed.time, State.chan_congr changed.channels]
        exact best
      have grants := (issueGrant_granted (t.floor ch).isForeign ch e.party e.cls t (by simp [state])).congr changed.time
        (State.chan_congr changed.channels ch) (by rw [resumed, Floor.retest_heard]; rfl) (State.bindingOf_congr changed.units _)
      rw [row, serviceDecision_grants state (by rw [resumed]; simpa [Floor.resumed] using none_) best']
      exact grants
  case swap =>
    rw [exec_tuneDeadline awake tuning deadline due, failPort_eq, portLost_swap tuning channel purpose, hasFailed, portTo_eq tuning]
    rfl
  case searches => exact ⟨_, exec_tuneDeadline awake tuning deadline due, failPort_retunes (.refl p s) tuning channel purpose spare⟩
  case closes => exact ⟨_, exec_tuneDeadline awake tuning deadline due, failPort_closes (.refl p s) tuning channel purpose none_ uncarried⟩

end Sys2Proof.Machine

/-! PROOF. SWAP_PORT and its TUNED, ISOLATE_PORT and RESTORE_PORT (O46). -/

namespace Sys2Proof.Machine

set_option Elab.async false

/-! ## A swap that completes (R148) -/

/-- R148: the hand-over of a channel from one port to another, before a CLOSED channel may take the former carrier. -/
def swapped (p former : Port) (ch : Chan) (s : State) : State :=
  broadcast (.swapDone ch former p)
    (latchAll ch .transferSeen
      (modFloor ch (Floor.losesCarrier s.time)
        (shutPort former (portTo former .standby .swapped (fun r => { r with channel := none }) (becomeCarrier p ch s)))))

theorem completeSwap_eq (p former : Port) (ch : Chan) (s : State) :
    completeSwap p former ch s = takeUpClosed former (swapped p former ch s) := rfl

section
variable {p q : Port} {ch : Chan} {s : State}

theorem swapped_only : Only [.ports, .floors, .links, .sent] s (swapped p q ch s) := by
  obtain ⟨fields, -⟩ := becomeCarrier_fields (p := p) (ch := ch) (s := s)
  have served := fields.trans (((portTo_only q .standby .swapped (fun r => { r with channel := none }) (becomeCarrier p ch s)).mono (by decide)).trans
    ((shutPort_only q _).mono (by decide)))
  exact (served.mono (by decide)).trans (Only.andThen (hs := [.ports, .floors, .links, .sent]) (modFloor_only _ _ _)
    ((latchAll_only _ _ _).trans (broadcast_only _ _)))

theorem swapped_port (apart : q ≠ p) (r : Port) : (swapped p q ch s).port r =
    if r = q then { s.port q with
      state := .standby, channel := none, pins := { (s.port q).pins with gate := none, tone := none } }
    else (becomeCarrier p ch s).port r := by
  have after_ : Only [.floors, .links]
      (shutPort q (portTo q .standby .swapped (fun r => { r with channel := none }) (becomeCarrier p ch s))) (swapped p q ch s) :=
    (modFloor_only _ _ _).andThen (hs := [.floors, .links]) ((latchAll_only _ _ _).trans (broadcast_only _ _))
  rw [State.port_congr after_.ports, shutPort_port]
  by_cases own : r = q
  · rw [if_pos own, if_pos own, portTo_port, if_pos rfl, becomeCarrier_port, if_neg apart]
  · rw [if_neg own, if_neg own, portTo_port, if_neg own]

theorem swapped_floor (d : Chan) :
    (swapped p q ch s).floor d = if d = ch then (s.floor ch).losesCarrier s.time else s.floor d := by
  obtain ⟨fields, -⟩ := becomeCarrier_fields (p := p) (ch := ch) (s := s)
  have before : Only [.ports, .links, .sent] s
      (shutPort q (portTo q .standby .swapped (fun r => { r with channel := none }) (becomeCarrier p ch s))) :=
    fields.trans (((portTo_only _ _ _ _ _).mono (by decide)).trans ((shutPort_only _ _).mono (by decide)))
  have after_ : Only [.links] (modFloor ch (Floor.losesCarrier s.time)
      (shutPort q (portTo q .standby .swapped (fun r => { r with channel := none }) (becomeCarrier p ch s)))) (swapped p q ch s) :=
    (latchAll_only _ _ _).trans (broadcast_only _ _)
  rw [State.floor_congr after_.floors]
  by_cases own : d = ch
  · subst own
    rw [if_pos rfl, modFloor_floor_self, State.floor_congr before.floors]
  · rw [if_neg own, modFloor_floor_ne _ _ _ own, State.floor_congr before.floors]

theorem Floor.losesCarrier_kept (now : Time) (f : Floor) : (f.losesCarrier now).state = f.state ∧ (f.losesCarrier now).heard = none ∧
    (f.losesCarrier now).queue = f.queue ∧ (f.losesCarrier now).episodeOpen = false ∧ (f.losesCarrier now).foreignSince = none :=
  ⟨rfl, rfl, rfl, rfl, rfl⟩

/-- R148: the row of a swap's TUNED. -/
theorem exec_tuned_swap (awake : s.resetLine = false) (tuning : (s.port p).state = .tuning) (channel : (s.port p).channel = some ch)
    (purpose : (s.port p).purpose = some .swap) (active : (s.port q).state = .active) (carries : (s.port q).channel = some ch)
    (one : ∀ r, (s.port r).state = .active → (s.port r).channel = some ch → r = q) :
    exec (.tuned p) s = .next (settle (takeUpClosed q (swapped p q ch s))) := by
  have row : tuned p ch .swap s = completeSwap p q ch s := by
    rw [tuned, carrier_eq active carries one, whenSome_some]
  rw [exec_tuned awake tuning channel purpose, row, completeSwap_eq]

end

/-! ## Isolation (R149) -/

/-- R149: a port's record after its isolation. -/
def PortRec.isolated (r : PortRec) : PortRec := { r with
  state := .isolated, channel := none, purpose := none, tuneDeadline := none, okStart := none
  pins := { r.pins with highZ := true, tone := none } }

/-- R149: the port is isolated; what it carried or tuned for is not looked after yet. -/
def hasIsolated (p : Port) (s : State) : State :=
  portTo p .isolated .isolated (fun r => { r.dropped with pins := { r.pins with highZ := true, tone := none } }) s

theorem isolate_eq (p : Port) (s : State) : isolate p s = portLost p (s.port p) .isolated id (hasIsolated p s) := rfl

theorem hasIsolated_eq {p : Port} {st : PortState} {s : State} (state : (s.port p).state = st) :
    hasIsolated p s = broadcast (.portState p st .isolated .isolated) { s with ports := s.ports.put p (s.port p).isolated } :=
  portTo_eq state

section
variable {link : Console} {b : Byte} {p : Port} {s : State}

theorem hasIsolated_lost (link : Console) (p : Port) (s : State) :
    Lost p s (hasIsolated p (hunt link s)) ∧ Only [.ports, .links] s (hasIsolated p (hunt link s)) ∧
      (hasIsolated p (hunt link s)).port p = (s.port p).isolated ∧
      (hasIsolated p (hunt link s)).ports = s.ports.put p (s.port p).isolated := by
  have both : Only [.ports, .links] s (hasIsolated p (hunt link s)) :=
    ((hunt_only link s).mono (by decide)).trans (portTo_only _ _ _ _ _)
  have own : (hasIsolated p (hunt link s)).port p = (s.port p).isolated := by
    rw [hasIsolated, portTo_port, if_pos rfl, hunt_port]
    rfl
  refine ⟨⟨both.mono (by decide), fun q other => ?_, .inr (by rw [own]; rfl)⟩, both, own, rfl⟩
  rw [hasIsolated, portTo_port, if_neg other, hunt_port]

/-- R149: the row of ISOLATE_PORT for a port that is not isolated yet. -/
theorem exec_isolatePort (listening : Listening link s) (named : b.toNat = p.val) (open_ : (s.port p).state ≠ .isolated) :
    exec (.isolatePort link b) s = answeredWith link 0x29#8 (.accepted false .none)
      (portLost p (s.port p) .isolated id (hasIsolated p (hunt link s))) := by
  refine exec_accepted (c := .isolatePort b) listening ?_
  rw [runCommand, cmdIsolatePort, look_apply, portOf_eq named, need_some, hunt_port, if_neg open_, done_apply, isolate_eq, hunt_port]

end

/-- Settles O46, by the command and the state of its port. -/
theorem portCommands : Obligations.PortCommands := by
  intro link b p s
  refine ⟨fun ch listening service named open_ unclosed noSwap standby below => ?swap,
    fun ch q awake tuning channel purpose apart active carries one unclosed => ?tuned,
    fun ch q c awake service tuning channel purpose apart active carries one open_ closed below => ?taken,
    fun listening named => ⟨fun isolated => ?already, fun st state idle => ?idle, fun iso isIso => ⟨fun test => ?test, fun ch channel =>
      ⟨fun tuning purpose => ?swapping, fun q spare had => ?spare, fun q active carried tuning own purpose one => ?succeeds, fun none_ alone had => ?closes⟩⟩,
      fun isolated => ?restore, fun other => ?refused⟩⟩
  case swap =>
    have inUse : inUseChan (hunt link s) b = some ch := by simp [inUseChan, chanOf_eq named.1, named.2]
    have carried : (!uncarried (hunt link s) ch) = true := by simp [uncarried, open_, unclosed]
    have free : (swapPortOf (hunt link s) ch).isNone = true := by
      rw [Option.isNone_iff_eq_none]
      exact swapPortOf_none (by simpa using noSwap)
    have lowest : (hunt link s).lowestPort .standby = some p := lowestPort_eq (by simpa using standby) (by simpa using below)
    refine exec_accepted (c := .swapPort b) listening ?_
    rw [runCommand, cmdSwapPort, look_apply, check_apply, if_pos (by simpa using service), inUse, need_some, check_apply, if_pos carried,
      check_apply, if_pos free, lowest, need_some, accept_apply, tuneTo, portTo_eq (old := .standby) (by simpa using standby)]
    rfl
  case tuned =>
    have fields := swapped_only (p := p) (q := q) (ch := ch) (s := s)
    have still : takeUpClosed q (swapped p q ch s) = swapped p q ch s := by
      refine takeUpClosed_none (.inr fun c => ?_)
      rw [swapped_floor]
      by_cases own : c = ch
      · rw [if_pos own]; exact unclosed ch
      · rw [if_neg own]; exact unclosed c
    refine ⟨_, exec_tuned_swap awake tuning channel purpose active carries one, ?_⟩
    rw [still, swapped_floor, if_pos rfl]
    refine ⟨fields.transferFields_eq rfl, ?_, by rw [swapped_port apart, if_pos rfl], fun r other mine => ?_, fun d other => ?_,
      Floor.losesCarrier_kept _ _⟩
    · rw [swapped_port apart, if_neg apart.symm, becomeCarrier_port, if_pos rfl]
    · rw [swapped_port apart, if_neg mine, becomeCarrier_port, if_neg other]
    · rw [swapped_floor, if_neg other]
  case taken =>
    have fields := swapped_only (p := p) (q := q) (ch := ch) (s := s)
    have state (d : Chan) : ((swapped p q ch s).floor d).state = (s.floor d).state := by
      rw [swapped_floor]
      split
      · next own => rw [own]; rfl
      · rfl
    have other : c ≠ ch := by rintro rfl; exact open_ closed
    obtain ⟨port, rest, taken, floors, sent⟩ := takeUpClosed_takes (p := q) (fields.part.trans service) ((state c).trans closed)
      fun d low => by rw [state]; exact below d low
    refine ⟨_, exec_tuned_swap awake tuning channel purpose active carries one, ?_⟩
    refine ⟨(fields.trans ((takeUpClosed_only _ _).mono (by decide))).transferFields_eq rfl, ?_, ?_, ?_, fun r apart' mine => ?_, ?_, ?_, ?_,
      fun d apart' else_ => ?_⟩
    · rw [rest p apart.symm, swapped_port apart, if_neg apart.symm, becomeCarrier_port, if_pos rfl]
    · rw [rest p apart.symm, swapped_port apart, if_neg apart.symm, becomeCarrier_port, if_pos rfl]
      exact channel
    · rw [port, swapped_port apart, if_pos rfl, fields.time]
    · rw [rest r mine, swapped_port apart, if_neg mine, becomeCarrier_port, if_neg apart']
    · rw [sent, State.chan_congr fields.channels]
      simp
    · rw [taken, swapped_floor, if_neg other]
    · rw [floors ch other.symm, state]
    · rw [floors d else_, swapped_floor, if_neg apart']
  case already =>
    refine exec_accepted (c := .isolatePort b) listening ?_
    rw [runCommand, cmdIsolatePort, look_apply, portOf_eq named, need_some, hunt_port, if_pos isolated, done_apply]
    rfl
  case idle =>
    have lost : portLost p (s.port p) .isolated id (hasIsolated p (hunt link s)) = hasIsolated p (hunt link s) :=
      portLost_idle (by rw [state]; rcases idle with h | h | h <;> simp [h])
    rw [exec_isolatePort listening named (by rw [state]; rcases idle with h | h | h <;> simp [h]), lost,
      hasIsolated_eq (st := st) (by simpa using state)]
    rfl
  case test =>
    subst isIso
    obtain ⟨lost, fields, own, ports⟩ := hasIsolated_lost link p s
    have after_ := abortTest_only p .portFailed (hasIsolated p (hunt link s))
    refine ⟨_, exec_isolatePort listening named (by simp [test]), ?_⟩
    rw [portLost_test test]
    refine ⟨?_, (abortTest_aborted _ _ _).of_tests fields.tests fields.time rfl⟩
    have same := ((fields.mono (by decide)).trans (after_.mono (by decide))).abortFields_eq
    exact same.trans (by rw [after_.ports, ports]; rfl)
  case swapping =>
    subst isIso
    rw [exec_isolatePort listening named (by simp [tuning]), portLost_swap tuning channel purpose, hasIsolated_eq (st := .tuning) (by simpa using tuning)]
    rfl
  case spare =>
    subst isIso
    obtain ⟨lost, fields, own, -⟩ := hasIsolated_lost link p s
    rcases had with ⟨tuning, purpose⟩ | ⟨active, carried, noSwap⟩
    · obtain ⟨replaced, floors⟩ := lost.search_replaced (ch := ch) tuning spare
      refine ⟨_, exec_isolatePort listening named (by simp [tuning]), ?_⟩
      rw [portLost_tuning tuning channel purpose]
      refine ⟨((fields.mono (by decide)).trans replaced.only).spareFields_eq ?_, replaced.lost.trans own, replaced.others, replaced.tunes,
        fun active => by simp [tuning] at active, fun _ => floors⟩
      rw [replaced.sent, fields.sent]
    · obtain ⟨replaced, transferred⟩ := lost.carrier_replaced active noSwap spare carried
      refine ⟨_, exec_isolatePort listening named (by simp [active]), ?_⟩
      rw [portLost_active active channel, id]
      refine ⟨((fields.mono (by decide)).trans replaced.only).spareFields_eq ?_, replaced.lost.trans own, replaced.others, replaced.tunes,
        fun _ => transferred, fun tuning => by simp [active] at tuning⟩
      rw [replaced.sent, fields.sent]
  case succeeds =>
    subst isIso
    obtain ⟨lost, fields, isolated, -⟩ := hasIsolated_lost link p s
    have other : q ≠ p := by rintro rfl; simp [active] at tuning
    obtain ⟨only, others, same, goesOn, transferred⟩ := lost.carrier_succeeded other tuning own purpose one carried
    refine ⟨_, exec_isolatePort listening named (by simp [active]), ?_⟩
    rw [portLost_active active channel, id]
    exact ⟨((fields.mono (by decide)).trans (only.mono (by decide))).transferFields_eq (only.sent.trans fields.sent), same.trans isolated, others,
      goesOn, transferred⟩
  case closes =>
    subst isIso
    obtain ⟨lost, fields, -, ports⟩ := hasIsolated_lost link p s
    obtain ⟨only, closed⟩ := lost.closes (ch := ch) fun r active channel' =>
      Decidable.byContradiction fun other => alone r other active channel'
    have row : portLost p (s.port p) .isolated id (hasIsolated p (hunt link s)) = closeChannel ch (hasIsolated p (hunt link s)) := by
      rcases had with ⟨tuning, purpose⟩ | ⟨active, noSwap⟩
      · rw [portLost_tuning tuning channel purpose, lost.search_closes none_]
      · rw [portLost_active active channel, id, lost.carrier_closes noSwap none_]
    refine ⟨_, exec_isolatePort listening named (by rcases had with h | h <;> simp [h.1]), ?_⟩
    rw [row]
    refine ⟨?_, closed⟩
    have same := ((fields.mono (by decide)).trans (only.mono (by decide))).closeFields_eq (out := s.sent) (only.sent.trans fields.sent)
    exact same.trans (by rw [only.ports, ports]; rfl)
  case restore =>
    refine exec_accepted (c := .restorePort b) listening ?_
    rw [runCommand, cmdRestorePort, look_apply, portOf_eq named, need_some, check_apply, if_pos (by simpa using isolated), done_apply,
      portTo_eq (old := .isolated) (by simpa using isolated)]
    rfl
  case refused =>
    refine exec_listening (c := .restorePort b) listening ?_
    rw [runCommand, cmdRestorePort, look_apply, portOf_eq named, need_some, check_apply, if_neg (by simpa using other)]

end Sys2Proof.Machine

/-! PROOF. The removal of a unit's record (R114) and the service at the end of an event (R58): the claims, the frames and the hangs. -/

namespace Sys2Proof.Machine

set_option Elab.async false

section
variable {ch : Chan} {x : UnitId} {s : State}

/-! ## One channel in a loop over the channels -/

/-- A loop in which each channel's turn is its own does at a channel what its turn does. -/
theorem forEach_at {f : Chan → State → State} (own : ∀ c t, TalkFrame c t (f c t)) (xs : List Chan) (once : xs.Nodup) (mem : ch ∈ xs) :
    ∀ s, ∃ t, Only talkFields s t ∧ t.floor ch = s.floor ch ∧ t.frames ch = s.frames ch ∧
      (forEach xs f s).floor ch = (f ch t).floor ch ∧ (forEach xs f s).frames ch = (f ch t).frames ch := by
  induction xs with
  | nil => exact absurd mem (by simp)
  | cons c xs ih =>
    obtain ⟨apart, once⟩ := List.nodup_cons.1 once
    intro s
    rcases List.mem_cons.1 mem with rfl | later
    · have still := forEach_keeps (f := f) (Q := fun t => t.floor ch = (f ch s).floor ch ∧ t.frames ch = (f ch s).frames ch) xs
        (fun c later t ⟨floor, frames⟩ => by
          have other : ch ≠ c := by rintro rfl; exact apart later
          obtain ⟨floor', frames', -⟩ := (own c t).2.1 ch other
          exact ⟨floor'.trans floor, frames'.trans frames⟩) (f ch s) ⟨rfl, rfl⟩
      exact ⟨s, .refl _ _, rfl, rfl, still.1, still.2⟩
    · have other : ch ≠ c := by rintro rfl; exact apart later
      obtain ⟨floor, frames, -⟩ := (own c s).2.1 ch other
      obtain ⟨t, fields, floor', frames', done⟩ := ih once later (f c s)
      exact ⟨t, (own c s).only.trans fields, floor'.trans floor, frames'.trans frames, done⟩

theorem allChans_nodup : allChans.Nodup := by decide

/-! ## The service at the end of an event (R58) -/

theorem closeGate_fields (c : Chan) (s : State) : Only [.floors, .ports, .sent] s (closeGate c s) := Only.ite _ (setGate_only _ _ _) (.refl _ _)

/-- R58: the service keeps the answers that wait. -/
theorem serveFreed_keeps_answer {f : Frame} (b : State) (class_ : f.priority ≤ 1) (mem : f ∈ s.frames ch) : f ∈ (serveFreed b s).frames ch := by
  refine forEach_keeps (Q := fun t => f ∈ t.frames ch) allChans (fun c _ t waits => ?_) s mem
  have decided : f ∈ (if (b.floor c).state ≠ .idle then serviceDecision c t else t).frames ch := by
    split
    · by_cases e : ch = c
      · subst e
        exact serviceDecision_keeps_answer class_ waits
      · rw [((serviceDecision_frame c t).2.1 ch e).2.1]
        exact waits
    · exact waits
  split
  · rw [State.frames_congr (closeGate_fields c _).downlink]
    exact decided
  · exact decided

/-- R58: the service begins no hang. -/
theorem serviceDecision_hang (none_ : (s.floor ch).hang = none) : ((serviceDecision ch s).floor ch).hang = none := by
  unfold serviceDecision
  split
  · split
    · split
      · exact none_
      · rw [issueGrant_floor_self]; simp
    · unfold startSeize
      split
      · exact none_
      · simp
  · exact none_

theorem serveFreed_hang (b : State) (none_ : (s.floor ch).hang = none) : ((serveFreed b s).floor ch).hang = none := by
  refine forEach_keeps (Q := fun t => (t.floor ch).hang = none) allChans (fun c _ t gone => ?_) s none_
  by_cases e : ch = c
  · subst e
    have decided : ((if (b.floor ch).state ≠ .idle then serviceDecision ch t else t).floor ch).hang = none := by
      split
      · exact serviceDecision_hang gone
      · exact gone
    have closed (u : State) (none_ : (u.floor ch).hang = none) : ((closeGate ch u).floor ch).hang = none := by
      rw [closeGate_floor_self]
      split <;> exact none_
    by_cases held : (b.floor ch).grant.isSome = true
    · rw [if_pos held]
      exact closed _ decided
    · rw [if_neg held]
      exact decided
  · have same := ((serveOne_frame b c t).2.1 ch e).1
    unfold serveOne at same
    rw [same]
    exact gone

/-- R58: where an event has left the floors alone, nothing is served. -/
theorem serveFreed_of_floors {b : State} (same : s.floors = b.floors) : serveFreed b s = s := by
  refine forEach_keeps (Q := fun t => t = s) allChans (fun c _ t still => ?_) s rfl
  subst still
  have floor : t.floor c = b.floor c := State.floor_congr same c
  have decided : (if (b.floor c).state ≠ .idle then serviceDecision c t else t) = t := by
    split
    · next busy => exact serviceDecision_of_ne (by rw [floor]; exact busy)
    · rfl
  rw [decided]
  split
  · next held =>
    refine if_neg ?_
    rw [floor]
    cases grant : (b.floor c).grant <;> simp [grant] at held ⊢
  · rfl

/-! ## The claims that a removal cancels (R114) -/

/-- R114: the claims of a unit are cancelled and the hangs that name it end. -/
def withoutClaims (x : UnitId) (s : State) : State :=
  endHangsFor (.party (.unit x)) allChans (forEach allChans (fun ch => cancelClaim ch .unregistered (.unit x)) s)

theorem removeRecord_eq (keep : Bool) (x : UnitId) (s : State) : removeRecord keep x s =
    if keep then withoutClaims x s else { withoutClaims x s with units := (withoutClaims x s).units.filter (fun r => r.unit != x) } := rfl

/-- R114: the removal of a record acts on the floors and the frames by the cancelled claims alone. -/
theorem removeRecord_after (keep : Bool) (x : UnitId) (s : State) : Only [.units] (withoutClaims x s) (removeRecord keep x s) := by
  rw [removeRecord_eq]
  split
  · exact .refl _ _
  · exact units_only _ _

theorem withoutClaims_only (x : UnitId) (s : State) : Only talkFields s (withoutClaims x s) :=
  (Only.forEach _ (fun _ _ _ => (cancelClaim_frame _ _ _ _).only) s).trans (endHangsFor_only _ _ _)

/-- R45, R54: a unit whose record is removed has no claim on any channel. -/
theorem withoutClaims_unclaims {b : State} (once : OnFloorsWithin ClaimsOnce b s) : Unclaimed ch (.unit x) (withoutClaims x s) := by
  have cancelled := forEach_each (f := fun c => cancelClaim c .unregistered (.unit x)) (xs := allChans)
    (I := OnFloorsWithin ClaimsOnce b) (Q := fun c t => Unclaimed c (.unit x) t) (fun c t => claimsOnce_law.cancels c _ _)
    (fun c t within => cancelClaim_unclaims c _ _ within) (fun c d t => cancelClaim_keeps_unclaimed c _ _) s once ch (mem_allChans ch)
  exact (unclaimed_law ch (.unit x)).endsHangsFor (b := forEach allChans (fun c => cancelClaim c .unregistered (.unit x)) s) _ _ id cancelled

theorem withoutClaims_keeps_unclaimed {p : Party} (h : Unclaimed ch p s) : Unclaimed ch p (withoutClaims x s) := by
  have cancelled : Unclaimed ch p (forEach allChans (fun c => cancelClaim c .unregistered (.unit x)) s) :=
    forEach_keeps _ (fun c _ t => cancelClaim_keeps_unclaimed c _ _) s h
  exact (unclaimed_law ch p).endsHangsFor (b := forEach allChans (fun c => cancelClaim c .unregistered (.unit x)) s) _ _ id cancelled

theorem removeRecord_unclaims {b : State} (keep : Bool) (once : OnFloorsWithin ClaimsOnce b s) :
    Unclaimed ch (.unit x) (removeRecord keep x s) := unclaimed_only (withoutClaims_unclaims once) (removeRecord_after keep x s)

theorem removeRecord_keeps_unclaimed {p : Party} (keep : Bool) (h : Unclaimed ch p s) : Unclaimed ch p (removeRecord keep x s) :=
  unclaimed_only (withoutClaims_keeps_unclaimed h) (removeRecord_after keep x s)

/-! ## What the unit is told, and its hangs (R45, R46, R114) -/

theorem endHangsFor_fields (r : Reservation) (chs : List Chan) (s : State) : Only [.floors] s (endHangsFor r chs s) :=
  Only.forEach _ (fun _ _ _ => Only.ite _ (Only.ite _ (modFloorTested_only _ _ _) (.refl _ _)) (.refl _ _)) s

/-- R45: the answer to a cancelled claim waits in the channel's queue. -/
theorem cancelClaim_answers {r : AirReason} (takes : takesFrames (s.floor ch) = true) (room : (s.frames ch).length < 16) :
    (∀ g, (s.floor ch).grant = some g → g.holder = .unit x → ⟨x, .revoke ch r⟩ ∈ (cancelClaim ch r (.unit x) s).frames ch) ∧
    ((s.floor ch).heldBy (.unit x) = false → ∀ e ∈ (s.floor ch).queue, e.party = .unit x →
      ⟨x, .deny ch r⟩ ∈ (cancelClaim ch r (.unit x) s).frames ch) := by
  refine ⟨fun g held own => ?_, fun other e waits own => ?_⟩
  · rw [cancelClaim, if_pos (by simp [Floor.heldBy, held, own]), State.frames_congr (endGrant_answers held).2, own]
    exact placeFrame_waits takes room
  · have mem : Party.unit x ∈ (s.floor ch).queue.map (·.party) := List.mem_map.2 ⟨e, waits, own⟩
    rw [cancelClaim, if_neg (by simp [other]), denyEntry]
    split
    · next none_ => exact absurd mem (entryOf_eq_none.1 none_)
    · exact placeFrame_waits (by simpa [takesFrames] using takes) room

theorem withoutClaims_answers (one : OneClaim s) (takes : takesFrames (s.floor ch) = true) (room : (s.frames ch).length < 16) :
    (∀ g, (s.floor ch).grant = some g → g.holder = .unit x → ⟨x, .revoke ch .unregistered⟩ ∈ (withoutClaims x s).frames ch) ∧
    ∀ e ∈ (s.floor ch).queue, e.party = .unit x → ⟨x, .deny ch .unregistered⟩ ∈ (withoutClaims x s).frames ch := by
  obtain ⟨t, -, floor, frames, -, done⟩ := forEach_at (fun c t => cancelClaim_frame c .unregistered (.unit x) t) allChans allChans_nodup
    (mem_allChans ch) s
  have after_ : (withoutClaims x s).frames ch = (cancelClaim ch .unregistered (.unit x) t).frames ch :=
    (State.frames_congr (endHangsFor_fields _ _ _).downlink ch).trans done
  obtain ⟨revokes, denies⟩ := cancelClaim_answers (x := x) (r := .unregistered) (s := t) (by rw [floor]; exact takes) (by rw [frames]; exact room)
  rw [floor] at revokes denies
  rw [after_]
  refine ⟨revokes, fun e waits own => denies ?_ e waits own⟩
  cases held : (s.floor ch).grant with
  | none => simp [Floor.heldBy, held]
  | some g =>
    have apart := (one ch).2 g held
    have other : g.holder ≠ .unit x := fun same => apart (List.mem_map.2 ⟨e, waits, by rw [own, same]⟩)
    simpa [Floor.heldBy, held] using other

/-- R46: a hang that names the unit ends. -/
theorem withoutClaims_hang {h : Hang} (law : GrantLaw s) (effective : (s.floor ch).effective = .hang) (hang : (s.floor ch).hang = some h)
    (own : h.reservation = .party (.unit x)) : ((withoutClaims x s).floor ch).hang = none := by
  have ungranted : (s.floor ch).grant = none := by
    have not := (law ch).not.2 (by simp [effective])
    simpa using not
  obtain ⟨t, -, floor, -, done, -⟩ := forEach_at (fun c t => cancelClaim_frame c .unregistered (.unit x) t) allChans allChans_nodup
    (mem_allChans ch) s
  have cancelled : ∃ q, (forEach allChans (fun c => cancelClaim c .unregistered (.unit x)) s).floor ch = { s.floor ch with queue := q } := by
    rw [done, cancelClaim, if_neg (by simp [Floor.heldBy, floor, ungranted]), denyEntry]
    split
    · exact ⟨_, floor⟩
    · rw [answer_floor', modFloor_floor_self, floor]
      exact ⟨_, rfl⟩
  obtain ⟨q, same⟩ := cancelled
  have frame (c : Chan) (t : State) : TalkFrame c t (if (t.floor c).hang.any (fun h => h.reservation == .party (.unit x)) then endHang c t else t) :=
    TalkFrame.ite _ (endHang_frame _ _) (.refl _ _)
  obtain ⟨v, -, floor', -, done', -⟩ := forEach_at frame allChans allChans_nodup (mem_allChans ch)
    (forEach allChans (fun c => cancelClaim c .unregistered (.unit x)) s)
  have row : (withoutClaims x s).floor ch = (endHang ch v).floor ch := by
    refine done'.trans (congrArg (fun u => State.floor u ch) (if_pos ?_))
    rw [floor', same]
    simp [hang, own]
  have held : (v.floor ch).effective = .hang := by
    rw [floor', same]
    exact effective
  rw [row, endHang, if_pos held, modFloorTested_floor_self, Floor.retest_hang]

end

end Sys2Proof.Machine

/-! PROOF. The timers of the Enrolment Unit and the aging of a record (O51). -/

namespace Sys2Proof.Machine

set_option Elab.async false

/-! ## The rows of the timers (R103 to R107, R119) -/

theorem enterQuiet_enters (now : Time) (x : UnitId) (qs : List Quiet) :
    Enters (·.unit) (·.expiry) ⟨x, now + 1500⟩ qs (enterQuiet now x qs) := enters_of rfl rfl

theorem slotTimer_eq {i : SlotIx} {sl : Slot} {f : Slot → State → State} {s : State} (awake : s.resetLine = false) (held : s.slot i = some sl) :
    slotTimer i f s = .next (settle (f sl s)) := by
  rw [slotTimer, event_next awake, held, whenSome_some]

/-- R108: a slot that lapses is freed without a word. -/
theorem freeSlot_lapsed (i : SlotIx) (sl : Slot) (s : State) : freeSlot i sl .lapsed none s = { s with
    slots := s.slots.put i none, quiet := enterQuiet s.time sl.unit s.quiet
    downlink := s.downlink.put 0 ((s.frames 0).filter (fun f => !f.isEnrolmentOf sl.unit)) } := rfl

theorem quiet_only (qs : List Quiet) (s : State) : Only [.quiet] s { s with quiet := qs } := by
  intro f hf; cases f <;> first | exact rfl | simp at hf

section
variable {i : SlotIx} {sl : Slot} {cause : EnrolCause} {r : Option AirReason} {s : State}

/-- R108 step 1 and the freeing rule's ENROL_REJECT. -/
def rejected (sl : Slot) (r : Option AirReason) (s : State) : State := whenSome r (reject sl.unit) (withdraw sl.unit s)

/-- R108 steps 3 and 4. -/
def reportedFree (sl : Slot) (cause : EnrolCause) (s : State) : State :=
  (if cause.reported then broadcast (.enrolFailed sl.unit cause sl.phase) else id)
    ((if cause.quiets then fun t => { t with quiet := enterQuiet t.time sl.unit t.quiet } else id) s)

theorem freeSlot_eq : freeSlot i sl cause r s = setSlot i none (reportedFree sl cause (rejected sl r s)) := rfl

theorem rejected_only : Only [.downlink, .links] s (rejected sl r s) :=
  ((withdraw_only _ _).mono (by decide)).trans (Only.whenSome _ fun _ => placeFrame_only _ _ _)

theorem rejected_frames {c : Chan} (other : c ≠ 0) : (rejected sl r s).frames c = s.frames c := by
  have withdrawn : (withdraw sl.unit s).frames c = s.frames c := setFrames_frames_ne _ _ _ other
  cases r with
  | none => exact withdrawn
  | some r => exact (placeFrame_frames_ne _ _ _ other).trans withdrawn

theorem reportedFree_only : Only [.quiet, .links] s (reportedFree sl cause s) := by
  have quieted : Only [.quiet] s ((if cause.quiets then fun t => { t with quiet := enterQuiet t.time sl.unit t.quiet } else id) s) :=
    Only.iteFun _ (quiet_only _ _) (.refl _ _)
  exact Only.iteFun (fs := [.quiet, .links]) _ (quieted.andThen (broadcast_only _ _)) (quieted.mono (by decide))

theorem reportedFree_quiet : (reportedFree sl cause s).quiet = if cause.quiets then enterQuiet s.time sl.unit s.quiet else s.quiet := by
  unfold reportedFree
  cases cause.reported <;> cases cause.quiets <;> rfl

/-- R108: what the freeing of a slot leaves. -/
theorem freeSlot_slots : (freeSlot i sl cause r s).slots = s.slots.put i none := by
  rw [freeSlot_eq, ← (rejected_only.andThen reportedFree_only : Only [.quiet, .downlink, .links] s (reportedFree sl cause (rejected sl r s))).slots]
  rfl

theorem freeSlot_quiet : (freeSlot i sl cause r s).quiet = if cause.quiets then enterQuiet s.time sl.unit s.quiet else s.quiet := by
  have same : (freeSlot i sl cause r s).quiet = (reportedFree sl cause (rejected sl r s)).quiet := rfl
  rw [same, reportedFree_quiet, rejected_only.time, rejected_only.quiet]

theorem freeSlot_frames (c : Chan) : (freeSlot i sl cause r s).frames c = (rejected sl r s).frames c :=
  State.frames_congr (s := freeSlot i sl cause r s) (t := rejected sl r s)
    (reportedFree_only (sl := sl) (cause := cause) (s := rejected sl r s)).downlink c

end

/-! ## The aging of a record (R114, R119) -/

section
variable {x : UnitId} {r : UnitRec} {s : State}

/-- R119: the age of a record is counted from the later of its two times. -/
theorem aged_iff {now : Time} {ageOut : Nat} : r.aged now ageOut = true ↔
    r.binding = none ∧ 60000 * ageOut ≤ min (elapsed now r.lastHeard) (elapsed now r.unboundSince) := by
  have later : elapsed now (r.agesFrom now) = min (elapsed now r.lastHeard) (elapsed now r.unboundSince) := by
    unfold UnitRec.agesFrom
    split <;> omega
  simp [UnitRec.aged, later]

theorem ageOutUnit_eq (held : s.unit x = some r) : ageOutUnit x s = broadcast (.unitGone x r.lastHeard) (removeRecord false x s) := by
  rw [ageOutUnit, held]

theorem Only.agingFields_eq {u : State} {us : List UnitRec} (h : Only (.units :: talkFields) s u) (units : u.units = us) : u = { s with
    units := us, floors := u.floors, downlink := u.downlink, generators := u.generators, links := u.links, ports := u.ports, sent := u.sent } :=
  State.eq_of_fields h.time h.part h.resetLine h.channels h.globals h.moves rfl rfl units h.slots h.quiet rfl h.tests h.sequences
    h.patterns rfl rfl rfl h.pending

/-- R119: the row of an aging expiry that is due. -/
theorem exec_agingExpiry (awake : s.resetLine = false) (held : s.unit x = some r) (aged : r.aged s.time s.globals.ageOut = true) :
    exec (.agingExpiry x) s = .next (settle (serveFreed s (ageOutUnit x s))) := by
  have row : exec (.agingExpiry x) s = event (fun s => whenSome (s.unit x) (fun r s =>
    if r.aged s.time s.globals.ageOut then serveFreed s (ageOutUnit x s) else s) s) s := rfl
  rw [row, event_next awake, held, whenSome_some, if_pos aged]

end

/-- Settles O51, by the timer. -/
theorem enrolmentTimers : Obligations.EnrolmentTimers := by
  refine ⟨enterQuiet_enters, fun i sl s awake held => ⟨fun l set phase level chans due => ?offer, fun l set phase more level chans due => ?confirm,
    fun phase fresh due => ?stuck, fun phase due => ?lapse, fun due => ?failure⟩, fun x s awake => ?expires,
    fun x r s awake held unbound age => ?aging⟩
  case offer =>
    refine (slotTimer_eq awake held).trans (next_settle_of_eq ?_)
    rw [if_pos ⟨phase, due⟩, sendOffer, level, chans]
    rfl
  case confirm =>
    refine (slotTimer_eq awake held).trans (next_settle_of_eq ?_)
    rw [if_pos ⟨phase, more, due⟩, sendConfirm, level, chans]
    rfl
  case stuck =>
    refine (slotTimer_eq awake held).trans (next_settle_of_eq ?_)
    rw [if_pos ⟨phase, fresh⟩]
    exact expiry_reached due
  case lapse =>
    refine (slotTimer_eq awake held).trans (next_settle_of_eq ?_)
    rw [if_pos phase, ← freeSlot_lapsed]
    exact expiry_reached due
  case failure =>
    have row : exec (.failureTimer i) s =
        .next (settle (freeSlot i sl .timeout (if sl.phase = .listen then none else some .timeout) s)) := by
      exact (slotTimer_eq awake held).trans (next_settle_of_eq (expiry_reached due))
    have fields := freeSlot_only i sl .timeout (if sl.phase = .listen then none else some .timeout) s
    refine ⟨_, row, ?_, fun c other => by rw [freeSlot_frames, rejected_frames other]⟩
    exact State.eq_of_fields fields.time fields.part fields.resetLine fields.channels fields.globals fields.moves fields.floors rfl fields.units
      freeSlot_slots freeSlot_quiet fields.ports fields.tests fields.sequences fields.patterns fields.generators rfl fields.sent fields.pending
  case expires =>
    have row : exec (.quietListExpiry x) s =
      event (fun s => { s with quiet := s.quiet.filter (fun q => !(q.unit == x && reached s.time q.expiry)) }) s := rfl
    rw [row, event_next awake]
  case aging =>
    have aged : r.aged s.time s.globals.ageOut = true := aged_iff.2 ⟨unbound, age⟩
    have row : exec (.agingExpiry x) s = .next (settle (serveFreed s (broadcast (.unitGone x r.lastHeard) (removeRecord false x s)))) := by
      rw [exec_agingExpiry awake held aged, ageOutUnit_eq held]
    have told : Only [.links] (removeRecord false x s) (broadcast (.unitGone x r.lastHeard) (removeRecord false x s)) := broadcast_only _ _
    have apart : Only [.units, .links] (withoutClaims x s) (broadcast (.unitGone x r.lastHeard) (removeRecord false x s)) :=
      (removeRecord_after false x s).andThen told
    have fields : Only (.units :: talkFields) s (serveFreed s (broadcast (.unitGone x r.lastHeard) (removeRecord false x s))) :=
      ((removeRecord_only false x s).andThen told).trans ((serveFreed_only _ _).mono (by decide))
    have units : (serveFreed s (broadcast (.unitGone x r.lastHeard) (removeRecord false x s))).units = s.units.filter (fun y => y.unit ≠ x) := by
      rw [(serveFreed_only _ _).units, told.units, removeRecord_units, if_neg (by simp)]
      exact List.filter_congr fun y _ => by by_cases own : y.unit = x <;> simp [own]
    refine ⟨_, row, fields.agingFields_eq units, fun one ch => ⟨?_, fun takes room => ?_⟩, fun ch h law effective hang own => ?_⟩
    · exact serveFreed_keeps_unclaimed _ (unclaimed_only (removeRecord_unclaims false (oneClaim_within one (.refl [] s))) told)
    · have waits {f : Frame} (class_ : f.priority ≤ 1) (mem : f ∈ (withoutClaims x s).frames ch) :
          f ∈ (serveFreed s (broadcast (.unitGone x r.lastHeard) (removeRecord false x s))).frames ch :=
        serveFreed_keeps_answer _ class_ (by rw [State.frames_congr apart.downlink]; exact mem)
      obtain ⟨revokes, denies⟩ := withoutClaims_answers (x := x) one takes room
      exact ⟨fun g grant own => waits (Nat.le_refl 1) (revokes g grant own), fun e mem own => waits (Nat.le_refl 1) (denies e mem own)⟩
    · refine serveFreed_hang _ ?_
      rw [State.floor_congr apart.floors]
      exact withoutClaims_hang law effective hang own

end Sys2Proof.Machine

/-! PROOF. SLOT_READY and the admission of a unit (O40). -/

namespace Sys2Proof.Machine

set_option Elab.async false

/-! ## The slot of a unit (R99) -/

section
variable {x : UnitId} {s : State}

theorem slotOf_none (h : ∀ j sl, s.slot j = some sl → sl.unit ≠ x) : slotOf s x = none := by
  rw [← Option.not_isSome_iff_eq_none, slotOf_isSome]
  rintro ⟨i, sl, held, own⟩
  exact h i sl held own

theorem slotOf_eq {i : SlotIx} {sl : Slot} (held : s.slot i = some sl) (own : sl.unit = x)
    (one : ∀ j sl', s.slot j = some sl' → sl'.unit = x → j = i) : slotOf s x = some (i, sl) := by
  cases found : slotOf s x with
  | none =>
    have absurd_ := slotOf_isSome.2 ⟨i, sl, held, own⟩
    rw [found] at absurd_
    simp at absurd_
  | some y =>
    obtain ⟨j, -, mem⟩ := List.exists_of_findSome?_eq_some found
    obtain ⟨sl', kept, rfl⟩ := Option.map_eq_some_iff.1 mem
    obtain ⟨held', own'⟩ := Option.filter_eq_some_iff.1 kept
    have same : j = i := one j sl' held' (by simpa using own')
    subst same
    rw [held] at held'
    rw [Option.some.inj held']

/-! ## The head of a downlink queue (R123, R127) -/

/-- R123: what the search for the head holds after a part of the queue. -/
theorem headFold_eq {f : Frame} (behind : List Frame) (later : ∀ x ∈ behind, f.priority ≤ x.priority) :
    behind.foldl (fun h f => match h with | none => some f | some g => if f.priority < g.priority then some f else some g) (some f) =
      some f := by
  induction behind with
  | nil => rfl
  | cons x xs ih =>
    rw [List.foldl_cons]
    have first : ¬ x.priority < f.priority := Nat.not_lt.2 (later x (.head _))
    simp only [if_neg first]
    exact ih fun y mem => later y (.tail _ mem)

theorem headOf_eq {before behind : List Frame} {f : Frame} (earlier : ∀ x ∈ before, f.priority < x.priority)
    (later : ∀ x ∈ behind, f.priority ≤ x.priority) : headOf (before ++ f :: behind) = some f := by
  have front : ∀ (l : List Frame) (h : Option Frame), (∀ x ∈ l, f.priority < x.priority) → (∀ x, h = some x → f.priority < x.priority) →
      (l ++ f :: behind).foldl
        (fun h f => match h with | none => some f | some g => if f.priority < g.priority then some f else some g) h = some f := by
    intro l
    induction l with
    | nil =>
      intro h _ above
      cases h with
      | none => exact headFold_eq behind later
      | some g => simpa [above g rfl] using headFold_eq behind later
    | cons y l ih =>
      intro h all above
      refine ih _ (fun x mem => all x (.tail _ mem)) fun x best => ?_
      cases h with
      | none =>
        obtain rfl : y = x := Option.some.inj best
        exact all y (.head _)
      | some g =>
        dsimp only at best
        split at best
        · obtain rfl : y = x := Option.some.inj best
          exact all y (.head _)
        · obtain rfl : g = x := Option.some.inj best
          exact above g rfl
  exact front before none earlier (by simp)

theorem withoutHead_eq {before behind : List Frame} {f : Frame} (earlier : ∀ x ∈ before, f.priority < x.priority)
    (later : ∀ x ∈ behind, f.priority ≤ x.priority) : withoutHead (before ++ f :: behind) = before ++ behind := by
  rw [withoutHead, headOf_eq earlier later]
  dsimp only
  rw [List.eraseP_append_right _ (fun x mem => by simpa using Nat.ne_of_gt (earlier x mem)), List.eraseP_cons_of_pos (by simp)]

/-! ## The rows (R127) -/

theorem exec_slotReady {p : Port} (awake : s.resetLine = false) :
    exec (.slotReady p) s = .next (settle (whenSome (s.carriedBy p) (handHead p) s)) := by
  have row : exec (.slotReady p) s = event (fun s => whenSome (s.carriedBy p) (handHead p) s) s := rfl
  rw [row, event_next awake]

/-- R127: the head of the queue of a carried channel is handed over. -/
theorem exec_slotReady_hands {p : Port} {ch : Chan} {before behind : List Frame} {f : Frame} (awake : s.resetLine = false)
    (active : (s.port p).state = .active) (channel : (s.port p).channel = some ch) (queue : s.frames ch = before ++ f :: behind)
    (earlier : ∀ x ∈ before, f.priority < x.priority) (later : ∀ x ∈ behind, f.priority ≤ x.priority) :
    exec (.slotReady p) s = .next (settle (handedOver f { s with
      downlink := s.downlink.put ch (before ++ behind), sent := s.sent ++ [(p, .air f)] })) := by
  have carried : s.carriedBy p = some ch := by rw [State.carriedBy, if_pos active, channel]
  rw [exec_slotReady awake, carried, whenSome_some, handHead, queue, headOf_eq earlier later, whenSome_some, queue,
    withoutHead_eq earlier later]
  rfl

/-! ## What is sent (R34, R58) -/

theorem setGate_sends (ch : Chan) (g : Option Party) (s : State) : s.sent <+: (setGate ch g s).sent := by
  unfold setGate
  split
  · exact List.prefix_rfl
  split
  · exact List.prefix_rfl
  · exact List.prefix_append _ _

theorem issueGrant_sends (was : Bool) (ch : Chan) (p : Party) (cls : TalkClass) (s : State) : s.sent <+: (issueGrant was ch p cls s).sent := by
  have before : Only [.floors, .downlink, .links] s (answer ch p (.granted cls) (fillGrant ch p cls s)) :=
    Only.andThen (hs := [.floors, .downlink, .links]) (modFloor_only _ _ _) (answer_only _ _ _ _)
  have after_ : Only [.floors, .generators] (setGate ch (some p) (answer ch p (.granted cls) (fillGrant ch p cls s)))
      (issueGrant was ch p cls s) := by
    refine Only.andThen (fs := [.generators]) ?_ (modFloor_only _ _ _)
    exact Only.iteFun _ (Only.ite _ (startPlay_only _ _ _ _) (.refl _ _)) (.refl _ _)
  rw [after_.sent, ← before.sent]
  exact setGate_sends _ _ _

theorem startSeize_sends (ch : Chan) (s : State) : s.sent <+: (startSeize ch s).sent := by
  unfold startSeize
  split
  · exact List.prefix_rfl
  · rw [(startPlay_only _ _ _ _).sent, (setGenerator_only _ _ _).sent]
    refine List.IsPrefix.trans ?_ (setGate_sends _ _ _)
    exact List.prefix_rfl

theorem serviceDecision_sends (ch : Chan) (s : State) : s.sent <+: (serviceDecision ch s).sent := by
  unfold serviceDecision
  split
  · split
    · split
      · exact List.prefix_rfl
      · exact issueGrant_sends _ _ _ _ _
    · exact startSeize_sends _ _
  · exact List.prefix_rfl

theorem closeGate_sends (ch : Chan) (s : State) : s.sent <+: (closeGate ch s).sent := by
  unfold closeGate
  split
  · exact setGate_sends _ _ _
  · exact List.prefix_rfl

theorem serveFreed_sends (b s : State) : s.sent <+: (serveFreed b s).sent := by
  refine forEach_keeps (Q := fun t => s.sent <+: t.sent) allChans (fun c _ t extends_ => ?_) s List.prefix_rfl
  have decided : s.sent <+: (if (b.floor c).state ≠ .idle then serviceDecision c t else t).sent := by
    split
    · exact extends_.trans (serviceDecision_sends _ _)
    · exact extends_
  split
  · exact decided.trans (closeGate_sends _ _)
  · exact decided

theorem endGrant_fields (ch : Chan) (r : Option AirReason) (next : FloorState) (s : State) :
    Only [.floors, .downlink, .generators, .links] s (endGrant ch r next s) := by
  have dropped : Only [.floors, .downlink, .generators, .links] s (dropGrant ch r s) := by
    unfold dropGrant
    split
    · exact .refl _ _
    · cases r with
      | none => exact Only.andThen (modFloor_only _ _ _) (setGenerator_only _ _ _)
      | some r =>
        refine Only.andThen (fs := [.floors, .downlink, .links]) ?_ (setGenerator_only _ _ _)
        exact (answer_only _ _ _ _).andThen (modFloor_only _ _ _)
  exact Only.ite _ (dropped.andThen (modFloor_only _ _ _)) (.refl _ _)

theorem cancelClaim_fields (ch : Chan) (r : AirReason) (p : Party) (s : State) :
    Only [.floors, .downlink, .generators, .links] s (cancelClaim ch r p s) := by
  refine Only.ite _ (endGrant_fields _ _ _ _) ?_
  unfold denyEntry
  split
  · exact .refl _ _
  · exact (modFloor_only _ _ _).andThen (answer_only _ _ _ _)

theorem removeRecord_sent (keep : Bool) (x : UnitId) (s : State) : (removeRecord keep x s).sent = s.sent := by
  have cancelled := Only.forEach allChans (fun c _ t => cancelClaim_fields c .unregistered (.unit x) t) s
  rw [(removeRecord_after keep x s).sent, withoutClaims, (endHangsFor_fields _ _ _).sent, cancelled.sent]

/-! ## The record that is evicted (R113) -/

/-- R113: `old` is evicted before `y`. -/
def EvictedBefore (now : Time) (old y : UnitRec) : Prop :=
  elapsed now y.lastHeard < elapsed now old.lastHeard ∨
    y.lastHeard = old.lastHeard ∧ (elapsed now y.admitted < elapsed now old.admitted ∨ y.admitted = old.admitted ∧ old.unit.toNat < y.unit.toNat)

theorem evictsBefore_of {now : Time} {old y : UnitRec} (h : EvictedBefore now old y) :
    evictsBefore now old y = true ∧ evictsBefore now y old = false := by
  unfold evictsBefore
  rcases h with heard | ⟨heard, admitted | ⟨admitted, unit⟩⟩
  · rw [if_pos (Nat.ne_of_gt heard), if_pos (Nat.ne_of_lt heard)]
    exact ⟨by simpa using heard, by simpa using heard.le⟩
  · simp [heard, Nat.ne_of_gt admitted, Nat.ne_of_lt admitted, admitted, admitted.le]
  · simp [heard, admitted, unit, unit.le]

/-- R113: the search's step on an unbound record. -/
def evictionStep (now : Time) (b : Option UnitRec) (r : UnitRec) : Option UnitRec :=
  if r.binding.isSome then b
  else match b with
    | none => some r
    | some x => if evictsBefore now r x then some r else some x

theorem evictionStep_bound {now : Time} {b : Option UnitRec} {r : UnitRec} (bound : r.binding.isSome = true) : evictionStep now b r = b :=
  if_pos bound

theorem evictionStep_first {now : Time} {r : UnitRec} (free : r.binding = none) : evictionStep now none r = some r :=
  if_neg (by simp [free])

theorem evictionStep_next {now : Time} {x r : UnitRec} (free : r.binding = none) :
    evictionStep now (some x) r = if evictsBefore now r x then some r else some x := if_neg (by simp [free])

theorem evicted_eq_foldl (now : Time) (us : List UnitRec) : evicted now us = us.foldl (evictionStep now) none := rfl

theorem evicted_of_bound {now : Time} {us : List UnitRec} (bound : ∀ y ∈ us, y.binding.isSome = true) : evicted now us = none := by
  rw [evicted_eq_foldl]
  induction us with
  | nil => rfl
  | cons y ys ih =>
    rw [List.foldl_cons, evictionStep_bound (bound y (.head _))]
    exact ih fun z mem => bound z (.tail _ mem)

theorem evicted_eq {now : Time} {us : List UnitRec} {old : UnitRec} (mem : old ∈ us) (unbound : old.binding = none)
    (least : ∀ y ∈ us, y.binding = none → y ≠ old → EvictedBefore now old y) : evicted now us = some old := by
  have self : evictsBefore now old old = false := by simp [evictsBefore]
  have search : ∀ (l : List UnitRec) (b : Option UnitRec), (∀ y ∈ l, y.binding = none → y ≠ old → EvictedBefore now old y) →
      (∀ x, b = some x → x ≠ old → EvictedBefore now old x) → (old ∈ l ∨ b = some old) → l.foldl (evictionStep now) b = some old := by
    intro l
    induction l with
    | nil => exact fun b _ _ found => found.resolve_left (by simp)
    | cons r l ih =>
      intro b all best found
      have rest : ∀ y ∈ l, y.binding = none → y ≠ old → EvictedBefore now old y := fun y later => all y (.tail _ later)
      rw [List.foldl_cons]
      by_cases bound : r.binding.isSome = true
      · rw [evictionStep_bound bound]
        refine ih b rest best (found.imp (fun here => ?_) id)
        rcases List.mem_cons.1 here with rfl | later
        · simp [unbound] at bound
        · exact later
      have free : r.binding = none := by simpa using bound
      have beats : r ≠ old → EvictedBefore now old r := all r (.head _) free
      cases b with
      | none =>
        rw [evictionStep_first free]
        refine ih _ rest (fun x same => by rw [← Option.some.inj same]; exact beats) ?_
        rcases found with here | absurd_
        · exact (List.mem_cons.1 here).elim (fun same => .inr (by rw [same])) .inl
        · cases absurd_
      | some x =>
        rw [evictionStep_next free]
        have known : x ≠ old → EvictedBefore now old x := best x rfl
        by_cases first : evictsBefore now r x = true
        · rw [if_pos first]
          refine ih _ rest (fun y same => by rw [← Option.some.inj same]; exact beats) ?_
          rcases found with here | same
          · exact (List.mem_cons.1 here).elim (fun same => .inr (by rw [same])) .inl
          · obtain rfl : x = old := Option.some.inj same
            refine .inr (congrArg some ?_)
            by_contra other
            rw [(evictsBefore_of (beats other)).2] at first
            cases first
        · rw [if_neg first]
          refine ih _ rest (fun y same => by rw [← Option.some.inj same]; exact known) ?_
          rcases found with here | same
          · rcases List.mem_cons.1 here with rfl | later
            · refine .inr (congrArg some ?_)
              by_contra other
              exact first (evictsBefore_of (known other)).1
            · exact .inl later
          · exact .inr same
  exact search us none least (by simp) (.inl mem)

end

end Sys2Proof.Machine

/-! PROOF. The admission of a unit, and the hand-over of a frame (O40). -/

namespace Sys2Proof.Machine

set_option Elab.async false

/-! ## The cases of an admission (R112, R113) -/

section
variable {i : SlotIx} {sl : Slot} {s : State}

theorem admitUnit_bound {r : UnitRec} (held : s.unit sl.unit = some r) (bound : r.binding.isSome = true) :
    admitUnit i sl s = freeSlot i sl .bound (some .bound) s := by
  rw [admitUnit, held]
  dsimp only
  rw [if_pos bound, serveFreed_of_floors (freeSlot_only _ _ _ _ _).floors]

theorem admitUnit_replaces {r : UnitRec} (held : s.unit sl.unit = some r) (free : r.binding = none) :
    admitUnit i sl s = serveFreed s (replaceRecord i sl s) := by
  rw [admitUnit, held]
  dsimp only
  rw [if_neg (by simp [free])]

theorem addRecord_apart (i : SlotIx) (sl : Slot) (s : State) : Only [.units, .slots, .quiet, .downlink, .links] s (addRecord i sl s) :=
  (units_only _ _).andThen (reportAdmitted_only _ _ _ _)

theorem admitUnit_adds (new_ : s.unit sl.unit = none) (room : s.units.length < 96) : admitUnit i sl s = addRecord i sl s := by
  rw [admitUnit, new_]
  dsimp only
  rw [if_pos room, serveFreed_of_floors (addRecord_apart i sl s).floors]

theorem admitUnit_evicts {old : UnitRec} (new_ : s.unit sl.unit = none) (full : 96 ≤ s.units.length) (found : evicted s.time s.units = some old) :
    admitUnit i sl s = serveFreed s (evictFor i sl old s) := by
  rw [admitUnit, new_]
  dsimp only
  rw [if_neg (Nat.not_lt.2 full), found]

theorem admitUnit_full (new_ : s.unit sl.unit = none) (full : 96 ≤ s.units.length) (none_ : evicted s.time s.units = none) :
    admitUnit i sl s = freeSlot i sl .registerFull (some .registerFull) s := by
  rw [admitUnit, new_]
  dsimp only
  rw [if_neg (Nat.not_lt.2 full), none_]
  exact serveFreed_of_floors (freeSlot_only _ _ _ _ _).floors

/-! ## What an admission writes -/

theorem reportAdmitted_slots (replaced : Bool) : (reportAdmitted i sl replaced s).slots = s.slots.put i none ∧
    (reportAdmitted i sl replaced s).quiet = s.quiet := by
  rw [reportAdmitted, (broadcast_only _ _).slots, (broadcast_only _ _).quiet]
  exact ⟨freeSlot_slots, freeSlot_quiet⟩

/-- R112, R114: the state of a replaced record, before the slot is freed. -/
theorem replaceRecord_before (sl : Slot) (s : State) :
    Only (.units :: talkFields) s (modUnit sl.unit (fun _ => newRecord s.time sl) (removeRecord true sl.unit s)) ∧
      (modUnit sl.unit (fun _ => newRecord s.time sl) (removeRecord true sl.unit s)).units =
        s.units.map (fun y => if y.unit = sl.unit then newRecord s.time sl else y) := by
  refine ⟨(removeRecord_only true sl.unit s).andThen (modUnit_only _ _ _), ?_⟩
  have units := removeRecord_units true sl.unit s
  rw [if_pos rfl] at units
  rw [modUnit, units]
  simp only [beq_iff_eq]

/-- R113, R114: the state after an eviction. -/
theorem evictFor_before (sl : Slot) (old : UnitRec) (s : State) :
    Only (.units :: talkFields) s (broadcast (.unitEvicted old.unit old.lastHeard sl.unit) (removeRecord false old.unit s)) ∧
      (broadcast (.unitEvicted old.unit old.lastHeard sl.unit) (removeRecord false old.unit s)).units =
        s.units.filter (fun y => y.unit ≠ old.unit) := by
  refine ⟨(removeRecord_only false old.unit s).andThen (broadcast_only _ _), ?_⟩
  rw [(broadcast_only _ _).units, removeRecord_units, if_neg (by simp)]
  exact List.filter_congr fun y _ => by by_cases own : y.unit = old.unit <;> simp [own]

theorem addRecord_slots : (addRecord i sl s).slots = s.slots.put i none ∧ (addRecord i sl s).quiet = s.quiet := by
  rw [addRecord]
  exact reportAdmitted_slots _

theorem addRecord_units : (addRecord i sl s).units = s.units ++ [newRecord s.time sl] := by
  rw [addRecord, (reportAdmitted_only _ _ _ _).units]

theorem addRecord_frames {c : Chan} (other : c ≠ 0) : (addRecord i sl s).frames c = s.frames c := by
  rw [addRecord, reportAdmitted, State.frames_congr (broadcast_only _ _).downlink, freeSlot_frames, rejected_frames other]
  rfl

theorem replaceRecord_apart (i : SlotIx) (sl : Slot) (s : State) :
    Only [.units, .slots, .quiet, .downlink, .links] (removeRecord true sl.unit s) (replaceRecord i sl s) := by
  rw [replaceRecord]
  exact (modUnit_only _ _ _).andThen (reportAdmitted_only _ _ _ _)

theorem replaceRecord_units :
    (replaceRecord i sl s).units = s.units.map (fun y => if y.unit = sl.unit then newRecord s.time sl else y) := by
  rw [replaceRecord, (reportAdmitted_only _ _ _ _).units, (replaceRecord_before sl s).2]

theorem replaceRecord_quiet : (replaceRecord i sl s).quiet = s.quiet := by
  rw [replaceRecord, (reportAdmitted_slots true).2, (replaceRecord_before sl s).1.quiet]

theorem evictFor_apart (i : SlotIx) (sl : Slot) (old : UnitRec) (s : State) :
    Only [.units, .slots, .quiet, .downlink, .links] (removeRecord false old.unit s) (evictFor i sl old s) := by
  rw [evictFor]
  exact ((broadcast_only _ _).mono (by decide)).trans (addRecord_apart _ _ _)

theorem evictFor_units {old : UnitRec} :
    (evictFor i sl old s).units = s.units.filter (fun y => y.unit ≠ old.unit) ++ [newRecord s.time sl] := by
  obtain ⟨before, units⟩ := evictFor_before sl old s
  rw [evictFor, addRecord_units, units, before.time]

theorem evictFor_quiet {old : UnitRec} : (evictFor i sl old s).quiet = s.quiet := by
  rw [evictFor, addRecord_slots.2, (evictFor_before sl old s).1.quiet]

theorem admitUnit_slots : (admitUnit i sl s).slots = s.slots.put i none := by
  have replaced := (replaceRecord_before sl s).1.slots
  rw [admitUnit, (serveFreed_only _ _).slots]
  split
  · split
    · exact freeSlot_slots
    · rw [replaceRecord, (reportAdmitted_slots _).1, replaced]
  · split
    · exact addRecord_slots.1
    · split
      · next old _ => rw [evictFor, addRecord_slots.1, (evictFor_before sl old s).1.slots]
      · exact freeSlot_slots

theorem admitUnit_sends : s.sent <+: (admitUnit i sl s).sent := by
  refine List.IsPrefix.trans ?_ (serveFreed_sends _ _)
  have kept {c : EnrolCause} {r : Option AirReason} : s.sent <+: (freeSlot i sl c r s).sent := by
    rw [(freeSlot_only _ _ _ _ _).sent]
  split
  · split
    · exact kept
    · rw [replaceRecord, (reportAdmitted_only _ _ _ _).sent, (modUnit_only _ _ _).sent, removeRecord_sent]
  · split
    · rw [(addRecord_apart _ _ _).sent]
    · split
      · rw [evictFor, (addRecord_apart _ _ _).sent, (broadcast_only _ _).sent, removeRecord_sent]
      · exact kept

/-- R45, R112: the freeing of a slot and the service after it give no party a claim. -/
theorem served_unclaimed {ch : Chan} {p : Party} {fs : List Field} {v w : State} (h : Unclaimed ch p v) (k : Only fs v w)
    (apart : .floors ∉ fs := by decide) : Unclaimed ch p (serveFreed s w) := serveFreed_keeps_unclaimed _ (unclaimed_only h k apart)

/-- R108: the ENROL_REJECT of a freed slot waits on CH0. -/
theorem freeSlot_rejects {cause : EnrolCause} {r : AirReason} (takes : takesFrames (s.floor 0) = true) (room : (s.frames 0).length < 16) :
    ⟨sl.unit, .enrolReject r⟩ ∈ (freeSlot i sl cause (some r) s).frames 0 := by
  rw [freeSlot_frames]
  refine placeFrame_waits (s := withdraw sl.unit s) takes (lt_of_le_of_lt ?_ room)
  rw [withdraw, setFrames_frames_self]
  exact List.length_filter_le _ _

end

/-! ## The fourth CONFIRM (R105, R112) -/

/-- R105, R127: the hand-over of the fourth CONFIRM. -/
theorem handedOver_admits {i : SlotIx} {sl : Slot} {l : Level} {cs : BitVec 6} {s : State} (held : s.slot i = some sl)
    (one : ∀ j sl', s.slot j = some sl' → sl'.unit = sl.unit → j = i) (confirm : sl.phase = .confirm) :
    handedOver ⟨sl.unit, .confirm l cs 4⟩ s = admitUnit i sl s := by
  have last : Frame.isLastConfirm ⟨sl.unit, .confirm l cs 4⟩ = true := rfl
  rw [handedOver, if_pos last, slotOf_eq held rfl one, whenSome_some, if_pos confirm]

theorem handedOver_plain {f : Frame} {s : State} (other : ∀ l c n, f.body = .confirm l c n → n ≠ 4) : handedOver f s = s := by
  refine if_neg ?_
  unfold Frame.isLastConfirm
  split
  · next l c n body => simpa using other l c n body
  · simp

theorem Only.enrolFields_eq {s u : State} {slots : Tab 4 (Option Slot)} (h : Only enrolFields s u) (freed : u.slots = slots) : u = { s with
    units := u.units, slots := slots, quiet := u.quiet, floors := u.floors, downlink := u.downlink
    generators := u.generators, links := u.links, ports := u.ports, sent := u.sent } :=
  State.eq_of_fields h.time h.part h.resetLine h.channels h.globals h.moves rfl rfl rfl freed rfl rfl h.tests h.sequences
    h.patterns rfl rfl rfl h.pending

/-- Settles O40, by the queue of the channel and the cases of an admission. -/
theorem slotReadyHandsTheHead : Obligations.SlotReadyHandsTheHead := by
  refine ⟨fun p ch s awake => ⟨fun idle => ?idle, fun active channel => ⟨fun empty => ?empty, fun before f behind queue earlier later plain => ?hands⟩⟩,
    fun p i sl l cs behind new s awake active channel queue later held one confirm level chans isNew => ?admits⟩
  case idle => rw [exec_slotReady awake, State.carriedBy, if_neg idle, whenSome_none]
  case empty =>
    rw [exec_slotReady awake, State.carriedBy, if_pos active, channel, whenSome_some, handHead, empty]
    rfl
  case hands => rw [exec_slotReady_hands awake active channel queue earlier later, handedOver_plain plain]
  case admits =>
    have record : newRecord s.time sl = new := by rw [isNew, newRecord, level, chans]; rfl
    have row := exec_slotReady_hands (before := []) awake active channel queue (by simp) later
    generalize sent : ({ s with downlink := s.downlink.put 0 ([] ++ behind), sent := s.sent ++ [(p, .air ⟨sl.unit, .confirm l cs 4⟩)] } : State) = t at row
    have handed : Only [.downlink, .sent] s t := by
      subst sent
      intro f hf; cases f <;> first | exact rfl | simp at hf
    have own : t.sent = s.sent ++ [(p, .air ⟨sl.unit, .confirm l cs 4⟩)] := by subst sent; rfl
    have ch0 : t.frames 0 = behind := by subst sent; exact Tab.get_put_self _ _ _
    have others (c : Chan) (other : c ≠ 0) : t.frames c = s.frames c := by subst sent; exact Tab.get_put_ne _ _ other
    have unit : t.unit sl.unit = s.unit sl.unit := State.unit_congr handed.units _
    have slot (j : SlotIx) : t.slot j = s.slot j := State.slot_congr handed.slots j
    rw [handedOver_admits (by rw [slot]; exact held) (fun j sl' kept same => one j sl' (by rw [← slot]; exact kept) same) confirm] at row
    have fields : Only enrolFields s (admitUnit i sl t) := (handed.mono (by decide)).trans (admitUnit_only i sl t)
    have within (one : OneClaim s) : OnFloorsWithin ClaimsOnce t t := oneClaim_within one handed
    refine ⟨_, row, fields.enrolFields_eq (by rw [admitUnit_slots, handed.slots]), ?appends, fun r registered free => ?replaces,
      fun new_ room => ?adds, fun old mem new_ full free least => ?evicts, fun r registered bound => ?bound, fun new_ full bound => ?full⟩
    case appends =>
      obtain ⟨out, extends_⟩ := admitUnit_sends (i := i) (sl := sl) (s := t)
      rw [← extends_, own]
      exact List.take_left' (by simp)
    case replaces =>
      have claims (one : OneClaim s) (ch : Chan) : Unclaimed ch (.unit sl.unit) (admitUnit i sl t) := by
        rw [admitUnit_replaces (unit.trans registered) free]
        exact served_unclaimed (removeRecord_unclaims true (within one)) (replaceRecord_apart i sl t)
      refine ⟨?_, ?_, claims⟩
      · rw [admitUnit_replaces (unit.trans registered) free, (serveFreed_only _ _).units, replaceRecord_units, handed.units, handed.time, record]
      · rw [admitUnit_replaces (unit.trans registered) free, (serveFreed_only _ _).quiet, replaceRecord_quiet, handed.quiet]
    case adds =>
      have room' : t.units.length < 96 := by rw [handed.units]; exact room
      rw [admitUnit_adds (unit.trans new_) room', addRecord_slots.2, addRecord_units, handed.units, handed.quiet, handed.time, record]
      exact ⟨rfl, rfl, fun c other => by rw [addRecord_frames other, others c other]⟩
    case evicts =>
      have found : evicted t.time t.units = some old := by
        rw [handed.time, handed.units]
        exact evicted_eq mem free least
      have full' : 96 ≤ t.units.length := by rw [handed.units]; exact full
      have row := admitUnit_evicts (i := i) (unit.trans new_) full' found
      have claims (one : OneClaim s) (ch : Chan) : Unclaimed ch (.unit old.unit) (admitUnit i sl t) := by
        rw [row]
        exact served_unclaimed (removeRecord_unclaims false (within one)) (evictFor_apart i sl old t)
      refine ⟨?_, ?_, claims⟩
      · rw [row, (serveFreed_only _ _).units, evictFor_units, handed.units, handed.time, record]
      · rw [row, (serveFreed_only _ _).quiet, evictFor_quiet, handed.quiet]
    case bound =>
      rw [admitUnit_bound (unit.trans registered) bound, (freeSlot_only _ _ _ _ _).units, freeSlot_quiet, handed.units]
      exact ⟨rfl, handed.quiet, fun takes room =>
        freeSlot_rejects (by rw [State.floor_congr handed.floors]; exact takes) (by rw [ch0]; exact room)⟩
    case full =>
      have none_ : evicted t.time t.units = none := by
        rw [handed.units]
        exact evicted_of_bound bound
      have full' : 96 ≤ t.units.length := by rw [handed.units]; exact full
      rw [admitUnit_full (unit.trans new_) full' none_, (freeSlot_only _ _ _ _ _).units, freeSlot_quiet, handed.units, handed.quiet, handed.time]
      exact ⟨rfl, rfl, fun takes room =>
        freeSlot_rejects (by rw [State.floor_congr handed.floors]; exact takes) (by rw [ch0]; exact room)⟩

end Sys2Proof.Machine

/-! PROOF. SET_GLOBAL and the records that a new AGE_OUT removes (O16). -/

namespace Sys2Proof.Machine

set_option Elab.async false

/-! ## Several records that age out (R119) -/

section
variable {x : UnitId} {s : State}

theorem ageOutUnit_units : (ageOutUnit x s).units = s.units.filter (fun y => y.unit ≠ x) := by
  unfold ageOutUnit
  split
  · next absent =>
    refine (List.filter_eq_self.2 fun y mem => ?_).symm
    have other := List.find?_eq_none.1 absent y mem
    simpa using other
  · rw [(broadcast_only _ _).units, removeRecord_units, if_neg (by simp)]
    exact List.filter_congr fun y _ => by by_cases own : y.unit = x <;> simp [own]

theorem ageOutUnit_unit (v : UnitId) : (ageOutUnit x s).unit v = if v = x then none else s.unit v :=
  unit_of_filter (ageOutUnit_units.trans (List.filter_congr fun y _ => by by_cases own : y.unit = x <;> simp [own])) v

theorem ageOutUnit_unclaims {b : State} {ch : Chan} (held : (s.unit x).isSome = true) (once : OnFloorsWithin ClaimsOnce b s) :
    Unclaimed ch (.unit x) (ageOutUnit x s) := by
  obtain ⟨r, held⟩ := Option.isSome_iff_exists.1 held
  rw [ageOutUnit_eq held]
  exact unclaimed_only (removeRecord_unclaims false once) (broadcast_only _ _)

theorem ageOutUnit_keeps_unclaimed {ch : Chan} {p : Party} (h : Unclaimed ch p s) : Unclaimed ch p (ageOutUnit x s) := by
  unfold ageOutUnit
  split
  · exact h
  · exact unclaimed_only (removeRecord_keeps_unclaimed false h) (broadcast_only _ _)

end

/-- R119: the records that stay while others age out. -/
theorem ageOutEach_units (rs : List UnitRec) (s : State) : (forEach rs (fun r => ageOutUnit r.unit) s).units =
    s.units.filter (fun y => decide (∀ r ∈ rs, y.unit ≠ r.unit)) := by
  induction rs generalizing s with
  | nil => exact (List.filter_eq_self.2 fun y _ => by simp).symm
  | cons r rs ih =>
    refine (ih _).trans ?_
    rw [ageOutUnit_units, List.filter_filter]
    exact List.filter_congr fun y _ => by simp [Bool.and_comm]

/-- R45, R114: a unit whose record ages out has no claim left. -/
theorem ageOutEach_unclaims {b : State} (rs : List UnitRec) (apart : (rs.map (·.unit)).Nodup) (s : State) (once : OnFloorsWithin ClaimsOnce b s)
    (held : ∀ r ∈ rs, (s.unit r.unit).isSome = true) :
    ∀ r ∈ rs, ∀ ch, Unclaimed ch (.unit r.unit) (forEach rs (fun r => ageOutUnit r.unit) s) := by
  induction rs generalizing s with
  | nil => exact fun r mem => absurd mem (by simp)
  | cons first rs ih =>
    obtain ⟨other, apart⟩ := List.nodup_cons.1 apart
    intro r mem ch
    rcases List.mem_cons.1 mem with rfl | later
    · exact forEach_keeps (Q := Unclaimed ch (.unit r.unit)) rs (fun y _ t => ageOutUnit_keeps_unclaimed) _
        (ageOutUnit_unclaims (held r (.head _)) once)
    · refine ih apart _ (claimsOnce_law.floorLaw.toTalkLaw.agesOut _ once) (fun y mem => ?_) r later ch
      have distinct : y.unit ≠ first.unit := fun same => other (List.mem_map.2 ⟨y, mem, same⟩)
      rw [ageOutUnit_unit, if_neg distinct]
      exact held y (.tail _ mem)

section
variable {s : State}

/-- R119: the records that have aged. -/
def agedRecords (s : State) : List UnitRec := (byUnit s.units).filter (fun r => r.aged s.time s.globals.ageOut)

theorem ageOutAll_eq (s : State) : ageOutAll s = forEach (agedRecords s) (fun r => ageOutUnit r.unit) s := rfl

theorem mem_agedRecords {r : UnitRec} : r ∈ agedRecords s ↔ r ∈ s.units ∧ r.aged s.time s.globals.ageOut = true := by
  rw [agedRecords, List.mem_filter, (byUnit_perm s.units).mem_iff]

theorem agedRecords_apart (one : (s.units.map (·.unit)).Nodup) : ((agedRecords s).map (·.unit)).Nodup :=
  (((byUnit_perm s.units).map _).nodup_iff.2 one).sublist (List.filter_sublist.map _)

/-- R119: with one record a unit, exactly the aged records go. -/
theorem ageOutAll_units (one : (s.units.map (·.unit)).Nodup) :
    (ageOutAll s).units = s.units.filter (fun y => decide (¬ y.aged s.time s.globals.ageOut = true)) := by
  rw [ageOutAll_eq, ageOutEach_units]
  refine List.filter_congr fun y mem => decide_eq_decide.2 ⟨fun stays aged => ?_, fun fresh r gone same => ?_⟩
  · exact stays y (mem_agedRecords.2 ⟨mem, aged⟩) rfl
  · obtain ⟨held, aged⟩ := mem_agedRecords.1 gone
    have record : y = r := List.inj_on_of_nodup_map one mem held same
    exact fresh (record ▸ aged)

end

/-! ## SET_GLOBAL (R191) -/

/-- Settles O16: the fields one by one, and the records that have aged under the new AGE_OUT. -/
theorem setGlobalAppliesItsFields : Obligations.SetGlobalAppliesItsFields := by
  intro link f s listening one levels open_
  have row : exec (.setGlobal link f) s = answeredWith link 0x02#8 (.accepted (globalClamped f) (.globals (s.globals.withFields f)))
      (setGlobals f (hunt link s)) := by
    refine exec_accepted (c := .setGlobal f) listening ?_
    have formed : f.levels.all (fun b => decide (b.toNat < 8)) = true := by
      rw [Option.all_eq_true]
      exact fun v given => by simpa using Nat.lt_succ_of_le (levels v given).2
    have some_ : f.levels.all (fun b => b != 0) = true := by
      rw [Option.all_eq_true]
      intro v given
      have positive := (levels v given).1
      simp only [bne_iff_ne, ne_eq]
      rintro rfl
      simp at positive
    have allowed : ((hunt link s).part == .config || f.levels.isNone) = true := by
      rcases open_ with config | none_
      · simp [config]
      · simp [none_]
    rw [runCommand, cmdSetGlobal, look_apply, check_apply, if_pos formed, check_apply, if_pos some_, check_apply, if_pos allowed, accept_apply]
    simp
  generalize changed : ({ hunt link s with globals := s.globals.withFields f } : State) = t
  have fields : Only [.globals, .links] s t := by
    subst changed
    intro f hf; cases f <;> first | exact rfl | simp at hf
  have globals : t.globals = s.globals.withFields f := by subst changed; rfl
  have without (none_ : f.ageOut = none) : setGlobals f (hunt link s) = t := by rw [setGlobals, none_, ← changed]; rfl
  have within {v : Byte} (given : f.ageOut = some v) : setGlobals f (hunt link s) = serveFreed (hunt link s) (ageOutAll t) := by
    rw [setGlobals, given, ← changed]; rfl
  have one' : (t.units.map (·.unit)).Nodup := by rw [fields.units]; exact one
  have left {v : Byte} (given : f.ageOut = some v) : (setGlobals f (hunt link s)).units =
      s.units.filter (fun y => decide (¬ y.aged s.time (s.globals.withFields f).ageOut = true)) := by
    rw [within given, (serveFreed_only _ _).units, ageOutAll_units one', fields.units, fields.time, globals]
  refine ⟨globalClamped f, s.globals.withFields f, setGlobals f (hunt link s), row, ?fields, ?levels, ?age, ?interval, ?fault, ?clamped,
    fun none_ => (without none_).trans changed.symm, fun v given => ?stays, fun v r given claims mem gone ch => ?claims⟩
  case fields =>
    have only : Only (.globals :: .units :: talkFields) s (setGlobals f (hunt link s)) := by
      cases given : f.ageOut with
      | none => rw [without given]; exact fields.mono (by decide)
      | some v =>
        rw [within given]
        exact (fields.mono (by decide)).trans (((ageOutAll_only t).mono (by decide)).trans ((serveFreed_only _ _).mono (by decide)))
    have set_ : (setGlobals f (hunt link s)).globals = s.globals.withFields f := by
      cases given : f.ageOut with
      | none => rw [without given, globals]
      | some v => rw [within given, (serveFreed_only _ _).globals, (ageOutAll_only t).globals, globals]
    exact State.eq_of_fields only.time only.part only.resetLine only.channels set_ only.moves rfl rfl rfl only.slots only.quiet rfl only.tests
      only.sequences only.patterns rfl rfl rfl only.pending
  case levels => cases h : f.levels <;> simp [GlobalConfig.withFields, h, levelSetOf]
  case age => exact (clampField_fst (by decide) ..).trans (by cases f.ageOut <;> simp [Nat.mod_one])
  case interval => exact (clampField_fst (by decide) ..).trans (by cases f.interval <;> rfl)
  case fault => exact (clampField_fst (by decide) ..).trans (by cases f.faultLimit <;> simp [Nat.mod_one])
  case clamped => simp [globalClamped, fieldClamped_iff, or_assoc]
  case stays =>
    rw [left given]
    exact List.filter_congr fun y _ => decide_eq_decide.2 (not_congr aged_iff)
  case claims =>
    have aged : r.aged t.time t.globals.ageOut = true := by
      by_contra fresh
      refine gone ?_
      rw [left given]
      refine List.mem_filter.2 ⟨mem, ?_⟩
      rw [fields.time, globals] at fresh
      simpa using fresh
    have held : r ∈ agedRecords t := mem_agedRecords.2 ⟨by rw [fields.units]; exact mem, aged⟩
    rw [within given, ageOutAll_eq]
    refine serveFreed_keeps_unclaimed _ (ageOutEach_unclaims _ (agedRecords_apart one') t (oneClaim_within claims fields) (fun y there => ?_) r held ch)
    rw [State.unit, List.find?_isSome]
    exact ⟨y, (mem_agedRecords.1 there).1, by simp⟩

end Sys2Proof.Machine

/-! PROOF. CAPABILITY bursts: the resolved level, the effective set, and the negotiation (O50). -/

namespace Sys2Proof.Machine

set_option Elab.async false

/-! ## The level and the channels (R102) -/

/-- R102: the bit of a level in a level set. -/
def Level.bit : Level → Nat
  | .l1 => 0 | .l2 => 1 | .l3 => 2

theorem highestLevel_none : ∀ set : BitVec 3, highestLevel set = none ↔ set = 0 := by decide

theorem highestLevel_below : ∀ set : BitVec 3, ∀ l ∈ [Level.l1, .l2, .l3],
    (highestLevel set = some l ↔ set.getLsbD l.bit = true ∧ ∀ k < 3, l.bit < k → set.getLsbD k = false) := by decide

/-- R102: the highest level of a set. -/
theorem highestLevel_some (set : BitVec 3) (l : Level) :
    highestLevel set = some l ↔ set.getLsbD l.bit = true ∧ ∀ k, l.bit < k → set.getLsbD k = false := by
  rw [highestLevel_below set l (by cases l <;> simp)]
  refine and_congr_right fun _ => ⟨fun h k above => ?_, fun h k _ => h k⟩
  by_cases inside : k < 3
  · exact h k inside above
  · exact BitVec.getLsbD_of_ge set k (Nat.not_lt.1 inside)

theorem highestLevel_l3 (set : BitVec 3) : highestLevel set = some .l3 ↔ set.getLsbD 2 = true := by
  rw [highestLevel_some]
  exact and_iff_left fun k above => BitVec.getLsbD_of_ge set k above

theorem resolvedLevel_some (offered : BitVec 3) (w : Capability) (l : Level) :
    resolvedLevel offered w = some l ↔ highestLevel (offered &&& w.levels) = some l ∧ (w.kind = .locoRc → l = .l3) := by
  rw [resolvedLevel, Option.filter_eq_some_iff]
  refine and_congr_right fun _ => ?_
  cases w.kind <;> simp

theorem resolvedLevel_none (offered : BitVec 3) (w : Capability) : resolvedLevel offered w = none ↔
    offered &&& w.levels = 0 ∨ w.kind = .locoRc ∧ (offered &&& w.levels).getLsbD 2 = false := by
  have l3 := highestLevel_l3 (offered &&& w.levels)
  rw [← highestLevel_none, resolvedLevel]
  cases found : highestLevel (offered &&& w.levels) with
  | none => simp
  | some l =>
    rw [found] at l3
    cases l <;> cases w.kind <;> simp_all

/-- R102: the channels in use, one by one. -/
theorem inUseSet_bit (s : State) (ch : Chan) : (inUseSet s).getLsbD ch.val = (s.chan ch).inUse := by
  have bit : ∀ c d : Chan, (BitVec.ofNat 6 (2 ^ c.val)).getLsbD d.val = decide (d = c) := by decide
  have step : ∀ (l : List Chan) (set : BitVec 6),
      (l.foldl (fun set c => if (s.chan c).inUse then set ||| BitVec.ofNat 6 (2 ^ c.val) else set) set).getLsbD ch.val =
        (set.getLsbD ch.val || decide (ch ∈ l) && (s.chan ch).inUse) := by
    intro l
    induction l with
    | nil => simp
    | cons c l ih =>
      intro set
      have added : (if (s.chan c).inUse then set ||| BitVec.ofNat 6 (2 ^ c.val) else set).getLsbD ch.val =
          (set.getLsbD ch.val || decide (ch = c) && (s.chan c).inUse) := by
        cases (s.chan c).inUse
        · rw [if_neg (by simp), Bool.and_false, Bool.or_false]
        · rw [if_pos rfl, BitVec.getLsbD_or, bit, Bool.and_true]
      rw [List.foldl_cons, ih, added, Bool.or_assoc]
      by_cases own : ch = c
      · subst own
        cases (s.chan ch).inUse <;> simp
      · simp [own]
  rw [inUseSet, step]
  simp [mem_allChans]

theorem effectiveSet_bit (w : Capability) (s : State) (ch : Chan) :
    (effectiveSet s w).getLsbD ch.val = true ↔ ch = 0 ∨ w.chans.getLsbD ch.val = true ∧ (s.chan ch).inUse = true := by
  have one : ∀ c : Chan, (1 : BitVec 6).getLsbD c.val = decide (c = 0) := by decide
  rw [effectiveSet, BitVec.getLsbD_or, BitVec.getLsbD_and, inUseSet_bit, one]
  simp [or_comm]

/-! ## Slots and frames (R99, R108) -/

theorem allSlots_ascending : allSlots.Pairwise (· < ·) := by decide

/-- R108: a placement looks at neither the slots nor the quiet list. -/
theorem placeFrame_withSlots (ch : Chan) (f : Frame) (slots : Tab 4 (Option Slot)) (quiet : List Quiet) (s : State) :
    placeFrame ch f { s with slots := slots, quiet := quiet } = { placeFrame ch f s with slots := slots, quiet := quiet } := by
  by_cases takes : takesFrames (s.floor ch) = true
  · by_cases full : overflows f (s.frames ch) = true
    · have left : placeFrame ch f { s with slots := slots, quiet := quiet } =
          latchAll ch .downlinkOverflow (setFrames ch (placeIn f (s.frames ch)) { s with slots := slots, quiet := quiet }) :=
        (if_pos takes).trans (congrFun (if_pos full) _)
      have right : placeFrame ch f s = latchAll ch .downlinkOverflow (setFrames ch (placeIn f (s.frames ch)) s) :=
        (if_pos takes).trans (congrFun (if_pos full) _)
      rw [left, right]
      rfl
    · have left : placeFrame ch f { s with slots := slots, quiet := quiet } =
          setFrames ch (placeIn f (s.frames ch)) { s with slots := slots, quiet := quiet } :=
        (if_pos takes).trans (congrFun (if_neg full) _)
      have right : placeFrame ch f s = setFrames ch (placeIn f (s.frames ch)) s := (if_pos takes).trans (congrFun (if_neg full) _)
      rw [left, right]
      rfl
  · have left : placeFrame ch f { s with slots := slots, quiet := quiet } = { s with slots := slots, quiet := quiet } := if_neg takes
    have right : placeFrame ch f s = s := if_neg takes
    rw [left, right]

theorem placeFrame_setSlot (ch : Chan) (f : Frame) (i : SlotIx) (r : Option Slot) (s : State) :
    setSlot i r (placeFrame ch f s) = placeFrame ch f (setSlot i r s) := by
  have before := placeFrame_only ch f s
  refine Eq.trans ?_ (placeFrame_withSlots ch f (s.slots.put i r) s.quiet s).symm
  rw [setSlot, before.slots, ← before.quiet]

theorem broadcast_setSlot (b : NoticeBody) (i : SlotIx) (r : Option Slot) (s : State) :
    setSlot i r (broadcast b s) = broadcast b (setSlot i r s) := rfl

/-- R108 step 3: a unit is made quiet. -/
def hushed (x : UnitId) (s : State) : State := { s with quiet := enterQuiet s.time x s.quiet }

theorem placeFrame_hushed (ch : Chan) (f : Frame) (x : UnitId) (s : State) : hushed x (placeFrame ch f s) = placeFrame ch f (hushed x s) := by
  have before := placeFrame_only ch f s
  have same : enterQuiet (placeFrame ch f s).time x (placeFrame ch f s).quiet = enterQuiet s.time x s.quiet := by
    rw [before.time, before.quiet]
  refine Eq.trans ?_ (placeFrame_withSlots ch f s.slots (enterQuiet s.time x s.quiet) s).symm
  rw [hushed, same, ← before.slots]

/-- R108: a slot that is freed with BOUND. -/
theorem freeSlot_bound (i : SlotIx) (sl : Slot) (s : State) : freeSlot i sl .bound (some .bound) s =
    broadcast (.enrolFailed sl.unit .bound sl.phase) (placeFrame 0 ⟨sl.unit, .enrolReject .bound⟩ { s with
      slots := s.slots.put i none, downlink := s.downlink.put 0 ((s.frames 0).filter (fun f => !f.isEnrolmentOf sl.unit)) }) := by
  have row : freeSlot i sl .bound (some .bound) s = setSlot i none (broadcast (.enrolFailed sl.unit .bound sl.phase)
    (placeFrame 0 ⟨sl.unit, .enrolReject .bound⟩ (withdraw sl.unit s))) := rfl
  rw [row, broadcast_setSlot, placeFrame_setSlot]
  rfl

/-- R108: a slot that is freed with NO_LEVEL. -/
theorem freeSlot_noLevel (i : SlotIx) (sl : Slot) (s : State) : freeSlot i sl .noLevel (some .noLevel) s =
    broadcast (.enrolFailed sl.unit .noLevel sl.phase) (placeFrame 0 ⟨sl.unit, .enrolReject .noLevel⟩ { s with
      slots := s.slots.put i none, quiet := enterQuiet s.time sl.unit s.quiet
      downlink := s.downlink.put 0 ((s.frames 0).filter (fun f => !f.isEnrolmentOf sl.unit)) }) := by
  have row : freeSlot i sl .noLevel (some .noLevel) s = setSlot i none (broadcast (.enrolFailed sl.unit .noLevel sl.phase)
    (hushed sl.unit (placeFrame 0 ⟨sl.unit, .enrolReject .noLevel⟩ (withdraw sl.unit s)))) := rfl
  rw [row, placeFrame_hushed, broadcast_setSlot, placeFrame_setSlot]
  rfl

/-! ## The row of a burst (R97, R98) -/

/-- R97, R132: a CAPABILITY frame on CH0. -/
theorem exec_capability {p : Port} {src : UnitId} {k ls cs fl : Byte} {w : Capability} {s : State} (awake : s.resetLine = false)
    (service : s.part = .service) (active : (s.port p).state = .active) (channel : (s.port p).channel = some 0)
    (word : wordOf src k ls cs fl = some w) : exec (.capability p src k ls cs fl) s = .next (settle (takeBurst w (refresh src s))) := by
  have row : exec (.capability p src k ls cs fl) s = event (fun s =>
    if s.part = .config then s
    else whenSome (s.carriedBy p) (fun ch s =>
      if ch = 0 then whenSome (wordOf src k ls cs fl) takeBurst (refresh src s) else refresh src s) s) s := rfl
  have carried : s.carriedBy p = some 0 := by rw [State.carriedBy, if_pos active, channel]
  rw [row, event_next awake, if_neg (by simp [service]), carried, whenSome_some, if_pos rfl, word, whenSome_some]

section
variable {w : Capability} {i : SlotIx} {sl : Slot} {s : State}

theorem takeBurst_quiet (quiet : ∃ q ∈ s.quiet, q.unit = w.unit) : takeBurst w s = s :=
  if_pos (by simpa [isQuiet] using quiet)

theorem takeBurst_bound (heard : ∀ q ∈ s.quiet, q.unit ≠ w.unit) (bound : (s.bindingOf (.unit w.unit)).isSome = true) :
    takeBurst w s = match slotOf s w.unit with
      | some (i, sl) => freeSlot i sl .bound (some .bound) s
      | none => reject w.unit .bound s :=
  (if_neg (by simpa [isQuiet] using heard)).trans (if_pos bound)

theorem takeBurst_free (heard : ∀ q ∈ s.quiet, q.unit ≠ w.unit) (free : s.bindingOf (.unit w.unit) = none) :
    takeBurst w s = match slotOf s w.unit with
      | some (i, sl) => burstInSlot i sl w s
      | none => whenSome (allSlots.find? (fun i => (s.slot i).isNone)) (fun i => setSlot i (some (newSlot s.time w))) s :=
  (if_neg (by simpa [isQuiet] using heard)).trans (if_neg (by simp [free]))

end

/-- Settles O50, by the slot of the unit and its phase. -/
theorem capabilityBurstsNegotiate : Obligations.CapabilityBurstsNegotiate := by
  refine ⟨fun offered w => ⟨resolvedLevel_none offered w, fun l n bit => ?level⟩, effectiveSet_bit,
    fun p src k ls cs fl kind w s s1 queue0 awake service active channel known code isWord isNow isQueue => ?burst⟩
  case level =>
    have same : n = l.bit := by rw [bit]; cases l <;> rfl
    subst same
    rw [resolvedLevel_some, highestLevel_some]
    simp [and_assoc]
  case burst =>
    have word : wordOf src k ls cs fl = some w := by
      have kinds : kindOf k = some kind := by cases kind <;> simp only at code <;> simp [kindOf, code]
      rw [wordOf, if_pos known, kinds, isWord]
      rfl
    have unit : w.unit = src := by rw [isWord]
    have row := exec_capability awake service active channel word
    rw [← isNow] at row
    have fields : Only [.units] s s1 := by rw [isNow]; exact refresh_only _ _
    have slot (j : SlotIx) : s1.slot j = s.slot j := State.slot_congr fields.slots j
    have binding : s1.bindingOf (.unit w.unit) = s.bindingOf (.unit src) := by rw [isNow, refresh_bindingOf, unit]
    have without (none_ : ∀ j sl, s.slot j = some sl → sl.unit ≠ src) : slotOf s1 w.unit = none :=
      slotOf_none fun j sl held => by rw [unit]; exact none_ j sl (by rw [← slot]; exact held)
    have holds {i : SlotIx} {sl : Slot} (held : s.slot i = some sl) (own : sl.unit = src)
        (one : ∀ j sl', s.slot j = some sl' → sl'.unit = src → j = i) : slotOf s1 w.unit = some (i, sl) :=
      slotOf_eq (by rw [slot]; exact held) (own.trans unit.symm) fun j sl' kept same =>
        one j sl' (by rw [← slot]; exact kept) (same.trans unit)
    have heard (none_ : ∀ q ∈ s.quiet, q.unit ≠ src) : ∀ q ∈ s1.quiet, q.unit ≠ w.unit := by
      rw [fields.quiet, unit]
      exact none_
    refine ⟨fun quiet => ?quiet, fun awake_ bound => ⟨fun none_ => ?unslotted, fun i sl held own one => ?slotted⟩, fun awake_ free =>
      ⟨fun full => ?full, fun i none_ empty below => ?takes, fun i sl held own one => ?taken⟩⟩
    case quiet => rw [row, takeBurst_quiet (by rw [fields.quiet, unit]; exact quiet)]
    case unslotted =>
      rw [row, takeBurst_bound (heard awake_) (by rw [binding]; exact bound), without none_, unit]
      rfl
    case slotted =>
      rw [row, takeBurst_bound (heard awake_) (by rw [binding]; exact bound), holds held own one]
      dsimp only
      rw [freeSlot_bound, own, isQueue, isNow]
      rfl
    case full =>
      have none_ : allSlots.find? (fun i => (s1.slot i).isNone) = none := by
        refine List.find?_eq_none.2 fun j _ => ?_
        obtain ⟨sl, held, -⟩ := full j
        simp [slot, held]
      have others (j : SlotIx) (sl : Slot) (held : s.slot j = some sl) : sl.unit ≠ src := by
        obtain ⟨sl', held', other⟩ := full j
        rw [held] at held'
        rw [Option.some.inj held']
        exact other
      rw [row, takeBurst_free (heard awake_) (binding.trans free), without others, none_]
      rfl
    case takes =>
      have found : allSlots.find? (fun i => (s1.slot i).isNone) = some i :=
        find?_lowest allSlots_ascending (mem_allSlots i) (by simp [slot, empty]) fun j low => by simpa [slot] using below j low
      rw [row, takeBurst_free (heard awake_) (binding.trans free), without none_, found]
      dsimp only
      rw [whenSome_some, newSlot, unit, isNow]
      rfl
    case taken =>
      have row' : exec (.capability p src k ls cs fl) s = .next (settle (burstInSlot i sl w s1)) := by
        rw [row, takeBurst_free (heard awake_) (binding.trans free), holds held own one]
      have time : s1.time = s.time := fields.time
      have slots (x : Option Slot) : setSlot i x s1 = { s1 with slots := s.slots.put i x } := by rw [setSlot, fields.slots]
      have levels : s1.globals = s.globals := fields.globals
      have effective (word : Capability) : effectiveSet s1 word = effectiveSet s word := by
        simp only [effectiveSet, inUseSet, State.chan_congr fields.channels]
      have frames : s1.frames 0 = s.frames 0 := State.frames_congr fields.downlink 0
      have listen (phase : sl.phase = .listen) : burstInSlot i sl w s1 = burstListen i sl w s1 := by rw [burstInSlot, phase]
      have waits (phase : sl.phase = .ackWait) : burstInSlot i sl w s1 = burstAckWait i sl w s1 := by rw [burstInSlot, phase]
      refine ⟨fun phase other => ?anew, fun phase same count => ?counted, fun l set phase same third resolved isSet => ?offers,
        fun phase same third unresolved => ?refused, fun phase other => ?relistens, fun phase same plain => ?kept,
        fun phase same ack count => ?acked, fun l set phase same ack third level chans => ?confirms, fun phase => ?confirming⟩
      case anew => rw [row', listen phase, burstListen, if_neg (by simp [other]), slots, time]
      case counted => rw [row', listen phase, burstListen, if_pos same, if_neg (by omega), slots, time]
      case offers =>
        have resolves : resolvedLevel s1.globals.levels sl.word = some l := by rw [levels]; exact resolved
        have set_ : effectiveSet s1 sl.word = set := (effective _).trans isSet.symm
        rw [row', listen phase, burstListen, if_pos same, if_pos (by omega), resolve, resolves]
        dsimp only
        rw [set_, ← own, isNow]
        rfl
      case refused =>
        have unresolves : resolvedLevel s1.globals.levels sl.word = none := by rw [levels]; exact unresolved
        rw [row', listen phase, burstListen, if_pos same, if_pos (by omega), resolve, unresolves]
        dsimp only
        rw [freeSlot_noLevel, isQueue, isNow, ← own, phase]
        rfl
      case relistens =>
        rw [row', waits phase, burstAckWait, if_neg (by simp [other]), isQueue, isNow, ← own]
        rfl
      case kept => rw [row', waits phase, burstAckWait, if_pos same, if_neg (by simp [plain]), slots, time]
      case acked => rw [row', waits phase, burstAckWait, if_pos same, if_pos ack, if_neg (by omega), slots, time]
      case confirms =>
        rw [row', waits phase, burstAckWait, if_pos same, if_pos ack, if_pos (by omega), sendConfirm, ← own, isNow]
        simp only [Slot.confirms1, level, chans]
        rfl
      case confirming =>
        rw [row', burstInSlot, phase]
        dsimp only
        rw [slots, time]

end Sys2Proof.Machine

/-! PROOF. RESTART (O18). -/

namespace Sys2Proof.Machine

set_option Elab.async false

/-! ## One port at RESTART (R189 step 5) -/

/-- R189: RESTART takes a port of this state to STANDBY. -/
def PortRec.restarts (r : PortRec) : Bool := r.state == .active || r.state == .tuning || r.state == .test

theorem PortRec.restarts_iff {r : PortRec} : r.restarts = true ↔ r.state = .active ∨ r.state = .tuning ∨ r.state = .test := by
  simp [PortRec.restarts, or_assoc]

/-- R189: a port's record after RESTART. -/
def PortRec.restarted (r : PortRec) : PortRec :=
  match r.state with
  | .active => { r with state := .standby, channel := none, pins := { r.pins with gate := none, tone := none } }
  | .tuning => { r with state := .standby, channel := none, purpose := none, tuneDeadline := none }
  | .test => { r with state := .standby }
  | .absent | .standby | .failed | .isolated => r

/-- R138, R189: what a link hears of a port's RESTART. -/
def Link.hearsRestart (now : Time) (p : Port) (st : PortState) (l : Link) : Link :=
  if l.subs.getLsbD 2 then l.deliver now (.portState p st .standby .restart) else l

section
variable {p q : Port} {c : Console} {s : State}

theorem restartPort_port : (restartPort p s).port q = if q = p then (s.port p).restarted else s.port q := by
  unfold restartPort PortRec.restarted
  cases (s.port p).state
  case active => exact (shutPort_port _ _ _).trans (by by_cases own : q = p <;> simp [own, portTo_port])
  case tuning | test => exact (portTo_port _ _ _ _ _ _).trans (by by_cases own : q = p <;> simp [own])
  all_goals
    by_cases own : q = p
    · rw [own, if_pos rfl]
    · rw [if_neg own]

/-- R138, R181: a change of a port's state is told to the PORT subscribers, in CONFIG as in SERVICE. -/
theorem portTo_link (st : PortState) (cause : PortCause) (g : PortRec → PortRec) : (portTo p st cause g s).link c =
    if (s.link c).subs.getLsbD 2 then (s.link c).deliver s.time (.portState p (s.port p).state st cause) else s.link c := by
  rw [portTo, broadcast_link]
  simp [NoticeBody.category, produced, Category.bit, modPort, setPort, State.link]

theorem restartPort_link : (restartPort p s).link c =
    if (s.port p).restarts then (s.link c).hearsRestart s.time p (s.port p).state else s.link c := by
  unfold restartPort PortRec.restarts Link.hearsRestart
  have shut (t : State) : (shutPort p t).link c = t.link c := State.link_congr (shutPort_only p t).links c
  cases state : (s.port p).state
  case active => simp [shut, portTo_link, state]
  case tuning | test => simp [portTo_link, state]
  all_goals simp

theorem restartPort_sent : (restartPort p s).sent = if (s.port p).state = .active then s.sent ++ [(p, .gate none)] else s.sent := by
  unfold restartPort
  have told (st : PortState) (cause : PortCause) (g : PortRec → PortRec) : (portTo p st cause g s).sent = s.sent := (portTo_only _ _ _ _ _).sent
  cases state : (s.port p).state
  case active => simp [told]
  all_goals simp [told]

end

/-! ## All of them -/

section
variable {ps : List Port} {p : Port} {c : Console} {s : State}

theorem restartPorts_only (ps : List Port) (s : State) : Only [.ports, .links, .sent] s (forEach ps restartPort s) :=
  Only.forEach _ (fun p _ t => restartPort_only p t) s

theorem restartPorts_port (once : ps.Nodup) : (forEach ps restartPort s).port p = if p ∈ ps then (s.port p).restarted else s.port p := by
  induction ps generalizing s with
  | nil => simp [forEach]
  | cons q ps ih =>
    obtain ⟨apart, once⟩ := List.nodup_cons.1 once
    refine (ih once).trans ?_
    rw [restartPort_port]
    by_cases own : p = q
    · subst own
      simp [apart]
    · simp [own]

theorem restartPorts_sent (once : ps.Nodup) (mem : p ∈ ps) (active : (s.port p).state = .active) :
    (p, .gate none) ∈ (forEach ps restartPort s).sent := by
  have kept (qs : List Port) (t : State) (sent : (p, .gate none) ∈ t.sent) : (p, .gate none) ∈ (forEach qs restartPort t).sent :=
    forEach_keeps (Q := fun t => (p, .gate none) ∈ t.sent) qs (fun q _ t sent => by
      rw [restartPort_sent]
      split
      · exact List.mem_append_left _ sent
      · exact sent) t sent
  induction ps generalizing s with
  | nil => exact absurd mem (by simp)
  | cons q ps ih =>
    obtain ⟨apart, once⟩ := List.nodup_cons.1 once
    rcases List.mem_cons.1 mem with rfl | later
    · exact kept ps _ (by rw [restartPort_sent, if_pos active]; simp)
    · have other : p ≠ q := by rintro rfl; exact apart later
      exact ih once later (by rw [restartPort_port, if_neg other]; exact active)

/-- R138, R189: a link hears of the ports that restart, in their order. -/
theorem restartPorts_link (once : ps.Nodup) : (forEach ps restartPort s).link c =
    (ps.filter (fun p => (s.port p).restarts)).foldl (fun l p => l.hearsRestart s.time p (s.port p).state) (s.link c) := by
  induction ps generalizing s with
  | nil => rfl
  | cons q ps ih =>
    obtain ⟨apart, once⟩ := List.nodup_cons.1 once
    have same (p : Port) (mem : p ∈ ps) : (restartPort q s).port p = s.port p := by
      rw [restartPort_port, if_neg (by rintro rfl; exact apart mem)]
    have filters : ps.filter (fun p => ((restartPort q s).port p).restarts) = ps.filter (fun p => (s.port p).restarts) :=
      List.filter_congr fun p mem => by rw [same p mem]
    refine (ih once).trans ?_
    rw [filters, (restartPort_only q s).time, restartPort_link, List.filter_cons]
    have rest (l : Link) : (ps.filter (fun p => (s.port p).restarts)).foldl (fun l p => l.hearsRestart s.time p ((restartPort q s).port p).state) l =
        (ps.filter (fun p => (s.port p).restarts)).foldl (fun l p => l.hearsRestart s.time p (s.port p).state) l :=
      List.foldl_ext _ _ l fun l p mem => by rw [same p (List.mem_filter.1 mem).1]
    split
    · rw [rest, List.foldl_cons]
    · exact rest _

end

/-- R138: what a link that is subscribed to ports, or is not, has heard of several ports. -/
theorem hearsRestart_foldl {now : Time} {state : Port → PortState} (ps : List Port) (l : Link) (room : l.notices.length + ps.length ≤ 32) :
    ps.foldl (fun l p => l.hearsRestart now p (state p)) l = if l.subs.getLsbD 2 then { l with
      notices := l.notices ++ ps.mapIdx (fun k p => ⟨l.nextNumber + BitVec.ofNat 8 k, now, .portState p (state p) .standby .restart⟩)
      nextNumber := l.nextNumber + BitVec.ofNat 8 ps.length } else l := by
  induction ps generalizing l with
  | nil => simp
  | cons p ps ih =>
    have fits : l.notices.length < 32 := by simp only [List.length_cons] at room; omega
    rw [List.foldl_cons]
    by_cases subscribed : l.subs.getLsbD 2 = true
    · have heard : l.hearsRestart now p (state p) = { l with
          notices := l.notices ++ [⟨l.nextNumber, now, .portState p (state p) .standby .restart⟩], nextNumber := l.nextNumber + 1 } :=
        (if_pos subscribed).trans (if_pos fits)
      have next (k : Nat) : l.nextNumber + 1#8 + BitVec.ofNat 8 k = l.nextNumber + BitVec.ofNat 8 (k + 1) := by
        rw [BitVec.add_assoc, BitVec.add_comm 1#8, ← BitVec.ofNat_add]
      rw [heard, ih _ (by simp only [List.length_append, List.length_cons, List.length_nil] at room ⊢; omega), if_pos subscribed, if_pos subscribed]
      simp [List.mapIdx_cons, next]
    · have deaf : l.hearsRestart now p (state p) = l := if_neg subscribed
      rw [deaf, ih l (by simp only [List.length_cons] at room; omega), if_neg subscribed, if_neg subscribed]

theorem clearAll_link (c : Console) (s : State) : (clearAll s).link c = (s.link c).restarted := Tab.get_each _ _ _

/-- R189 steps 1 to 5: a state whose ports have restarted, without its tests. -/
theorem restart_eq (s : State) : restart s = { forEach allPorts restartPort (clearAll s) with tests := Tab.fill 7 none } := rfl

/-- R189 steps 1 to 4: what RESTART empties. -/
structure Emptied (s : State) : Prop where
  part : s.part = .config
  floors : s.floors = State.reset.floors
  generators : s.generators = State.reset.generators
  downlink : s.downlink = State.reset.downlink
  slots : s.slots = State.reset.slots
  quiet : s.quiet = []
  units : s.units = []
  tests : s.tests = State.reset.tests

theorem restart_emptied (s : State) : Emptied (restart s) := by
  have ports := restartPorts_only allPorts (clearAll s)
  rw [restart_eq]
  generalize forEach allPorts restartPort (clearAll s) = t at ports
  exact ⟨ports.part, ports.floors, ports.generators, ports.downlink, ports.slots, ports.quiet, ports.units, rfl⟩

theorem allPorts_nodup : allPorts.Nodup := by decide

section
variable {s : State}

theorem restart_port (p : Port) : (restart s).port p = (s.port p).restarted := by
  have done := restartPorts_port (p := p) (s := clearAll s) allPorts_nodup
  have same : (clearAll s).port p = s.port p := rfl
  rw [if_pos (mem_allPorts p), same] at done
  rw [restart_eq]
  generalize forEach allPorts restartPort (clearAll s) = t at done
  exact done

theorem restart_sent {p : Port} (active : (s.port p).state = .active) : (p, PortMsg.gate none) ∈ (restart s).sent := by
  have sent := restartPorts_sent (s := clearAll s) allPorts_nodup (mem_allPorts p) active
  rw [restart_eq]
  generalize forEach allPorts restartPort (clearAll s) = t at sent
  exact sent

/-- R189: the notices of the ports that RESTART takes to STANDBY are all that a link then holds. -/
theorem restart_link (c : Console) : (restart s).link c = if (s.link c).subs.getLsbD 2 then { (s.link c).restarted with
    notices := (allPorts.filter (fun p => (s.port p).restarts)).mapIdx
      (fun k p => ⟨(s.link c).nextNumber + BitVec.ofNat 8 k, s.time, .portState p (s.port p).state .standby .restart⟩)
    nextNumber := (s.link c).nextNumber + BitVec.ofNat 8 (allPorts.filter (fun p => (s.port p).restarts)).length } else (s.link c).restarted := by
  have few : (s.link c).restarted.notices.length + (allPorts.filter (fun p => (s.port p).restarts)).length ≤ 32 := by
    have most := List.length_filter_le (fun p => (s.port p).restarts) allPorts
    exact (Nat.zero_add _).le.trans (most.trans (by decide))
  have heard : (restart s).link c = (allPorts.filter (fun p => (s.port p).restarts)).foldl
      (fun l p => l.hearsRestart s.time p (s.port p).state) (s.link c).restarted := by
    have done := restartPorts_link (c := c) (s := clearAll s) allPorts_nodup
    rw [clearAll_link] at done
    rw [restart_eq]
    generalize forEach allPorts restartPort (clearAll s) = t at done
    exact done
  rw [heard, hearsRestart_foldl _ _ few]
  rfl

end

/-- Settles O18: the ports one by one, and what each link hears of them. -/
theorem restartEmptiesThePart : Obligations.RestartEmptiesThePart := by
  intro link s listening
  refine ⟨fun empty => ?taken, fun i m service held => ?refused⟩
  case taken =>
    have row : exec (.restart link) s = answeredWith link 0x09#8 (.accepted false .none) (restart (hunt link s)) := by
      refine exec_accepted (c := .restart) listening ?_
      have allowed : ((hunt link s).part == .config || allMoves.all (fun i => ((hunt link s).move i).isNone)) = true := by
        rcases empty with config | none_
        · simp [config]
        · simp [none_]
      rw [runCommand, cmdRestart, look_apply, check_apply, if_pos allowed, done_apply]
    have fields : Only restartFields s (restart (hunt link s)) := ((hunt_only link s).mono (by decide)).trans (restart_only _)
    have port (p : Port) : (restart (hunt link s)).port p = (s.port p).restarted := by rw [restart_port, hunt_port]
    refine ⟨_, row, ?fields, fun c => ?links, fun p => ⟨fun active => ⟨?active, ?sent⟩, fun tuning => ?tuning, fun test => ?test,
      fun active tuning test => ?other⟩⟩
    case fields =>
      have emptied := restart_emptied (hunt link s)
      generalize restart (hunt link s) = u at fields emptied
      exact State.eq_of_fields fields.time emptied.part fields.resetLine fields.channels fields.globals fields.moves emptied.floors
        emptied.downlink emptied.units emptied.slots emptied.quiet rfl emptied.tests fields.sequences fields.patterns emptied.generators rfl rfl
        fields.pending
    case links =>
      have kept : ((hunt link s).link c).responses = (s.link c).responses ∧ ((hunt link s).link c).subs = (s.link c).subs ∧
          ((hunt link s).link c).tx = (s.link c).tx ∧ ((hunt link s).link c).nextNumber = (s.link c).nextNumber ∧
          (c ≠ link → ((hunt link s).link c).framer = (s.link c).framer) := by
        by_cases own : c = link
        · subst own
          rw [hunt_link_self]
          exact ⟨rfl, rfl, rfl, rfl, fun other => absurd rfl other⟩
        · rw [hunt_link_ne _ _ own]
          exact ⟨rfl, rfl, rfl, rfl, fun _ => rfl⟩
      obtain ⟨responses, subs, tx, number, framer⟩ := kept
      have heard := restart_link (s := hunt link s) c
      simp only [hunt_port, hunt_time, subs, number] at heard
      rw [heard]
      refine ⟨?_, ?_, ?_, ?_, fun other => ?_, fun ps isPorts => ?_⟩
      · split <;> rfl
      · split <;> exact responses
      · split <;> exact subs
      · split <;> exact tx
      · split <;> exact framer other
      · rw [isPorts]
        have moved : (([0, 1, 2, 3, 4, 5, 6] : List Port).filter (fun p => decide
            ((s.port p).state = .active ∨ (s.port p).state = .tuning ∨ (s.port p).state = .test))) =
            allPorts.filter (fun p => (s.port p).restarts) :=
          List.filter_congr fun p _ => by rw [Bool.eq_iff_iff, decide_eq_true_iff, PortRec.restarts_iff]
        rw [moved]
        split <;> rfl
    case active =>
      rw [port, PortRec.restarted, active]
    case sent => exact restart_sent (by rw [hunt_port]; exact active)
    case tuning => rw [port, PortRec.restarted, tuning]
    case test => rw [port, PortRec.restarted, test]
    case other =>
      rw [port, PortRec.restarted]
      split <;> first | contradiction | rfl
  case refused =>
    refine exec_listening (c := .restart) listening ?_
    have busy : ¬ ((hunt link s).part == .config || allMoves.all (fun i => ((hunt link s).move i).isNone)) = true := by
      simp only [hunt_part, service, hunt_move, Bool.or_eq_true, List.all_eq_true, not_or, not_forall]
      exact ⟨by decide, i, mem_allMoves i, by simp [held]⟩
    rw [runCommand, cmdRestart, look_apply, check_apply, if_neg busy]

end Sys2Proof.Machine

/-! PROOF. The checks that refuse a command, in their order (O15). -/

namespace Sys2Proof.Machine

set_option Elab.async false

/-! ## A command and the list of its checks -/

/-- R3, R4, R188: at a state the command makes these checks in order, and the first that fails refuses it. -/
def Cmd.Guarded (c : Cmd) (t : State) : List (Prop × Reason × BitVec 16) → Prop
  | [] => True
  | (ok, r, d) :: rest => (¬ ok → c t = (.refused r d, t)) ∧ (ok → Guarded c t rest)

/-- R178: a command whose checks guard it is refused on a listening link by the first that fails. -/
theorem refusedAtFirst_of_guarded {link : Console} {c : Command} {s : State} (listening : Listening link s)
    {checks : List (Prop × Reason × BitVec 16)} (h : (runCommand link c).Guarded (hunt link s) checks) :
    RefusedAtFirst link c checks s := by
  induction checks with
  | nil => exact refusedAtFirst_nil link c s
  | cons x rest ih =>
    obtain ⟨refused, goesOn⟩ := h
    exact (refusedAtFirst_cons ..).2 ⟨fun fails => exec_listening listening (refused fails), fun holds => ih (goesOn holds)⟩

namespace Cmd.Guarded

variable {t : State} {c : Cmd} {r : Reason} {rest : List (Prop × Reason × BitVec 16)}

theorem look {f : State → Cmd} (h : Guarded (f t) t rest) : Guarded (look f) t rest := by
  induction rest with
  | nil => trivial
  | cons x rest ih => exact ⟨h.1, fun holds => ih (h.2 holds)⟩

theorem check {b : Bool} {ok : Prop} (same : ok ↔ b = true) (h : ok → Guarded c t rest) :
    Guarded (check b r c) t ((ok, r, 0) :: rest) := by
  refine ⟨fun fails => ?_, fun holds => ?_⟩
  · rw [check_apply, if_neg (mt same.2 fails)]
  · rw [same.1 holds]; exact h holds

theorem need {α : Type} {x : Option α} {f : α → Cmd} {ok : Prop} (same : ok ↔ x.isSome = true)
    (h : ok → ∀ a, x = some a → Guarded (f a) t rest) : Guarded (need x r f) t ((ok, r, 0) :: rest) := by
  cases x with
  | none => exact ⟨fun _ => rfl, fun holds => absurd (same.1 holds) (by simp)⟩
  | some a => exact ⟨fun fails => absurd (same.2 rfl) fails, fun holds => h holds a rfl⟩

/-- A run of checks that the command does not make, because they hold. -/
theorem skip {skipped : List (Prop × Reason × BitVec 16)} (holds : ∀ x ∈ skipped, x.1) (h : Guarded c t rest) :
    Guarded c t (skipped ++ rest) := by
  induction skipped with
  | nil => exact h
  | cons x skipped ih =>
    exact ⟨fun fails => absurd (holds x (.head _)) fails, fun _ => ih fun y mem => holds y (.tail _ mem)⟩

/-- R4: one check for each of some units: the first of them that fails it is named. -/
theorem noneOf {us : List UnitId} {bad : UnitId → Bool} {ok : UnitId → Prop} (same : ∀ x ∈ us, ok x ↔ bad x = false)
    (h : (∀ x ∈ us, ok x) → Guarded c t rest) :
    Guarded (noneOf (us.find? bad) r c) t (us.map (fun x => (ok x, r, x)) ++ rest) := by
  induction us with
  | nil => exact h (by simp)
  | cons u us ih =>
    cases judged : bad u with
    | true =>
      rw [List.find?_cons_of_pos judged, noneOf_some]
      have fails : ¬ ok u := fun holds => by simp [(same u (.head _)).1 holds] at judged
      exact ⟨fun _ => rfl, fun holds => absurd holds fails⟩
    | false =>
      rw [List.find?_cons_of_neg (by simp [judged])]
      have holds : ok u := (same u (.head _)).2 judged
      exact ⟨fun fails => absurd holds fails, fun _ => ih (fun x mem => same x (.tail _ mem)) fun others =>
        h fun x mem => (List.mem_cons.1 mem).elim (fun is => is ▸ holds) (others x)⟩

end Cmd.Guarded

/-! ## What the checks of a move command look at (R3, R4) -/

theorem allMoves_eq : allMoves = List.finRange 24 := by decide
theorem allChans_eq : allChans = List.finRange 6 := by decide

theorem toNat_of_chanOf {b : Byte} {ch : Chan} (h : chanOf b = some ch) : b.toNat = ch.val := by
  unfold chanOf at h
  split at h
  · cases h; rfl
  · cases h

theorem toNat_of_moveOf {b : Byte} {i : MoveIx} (h : moveOf b = some i) : b.toNat = i.val + 1 := by
  unfold moveOf at h
  split at h
  · next within => cases h; exact (Nat.sub_add_cancel within.1).symm
  · cases h

theorem of_usableFor {b : Byte} {ch : Chan} {s : State} (h : usableFor s b = some ch) :
    b.toNat = ch.val ∧ ch ≠ 0 ∧ (s.chan ch).inUse = true ∧ (s.floor ch).state ≠ .closed := by
  obtain ⟨named, usable⟩ := Option.filter_eq_some_iff.1 h
  exact ⟨toNat_of_chanOf named, by simpa [and_assoc] using usable⟩

/-- R4 check 3. -/
theorem placeable_iff {b : Byte} {s : State} : Placeable b s ↔ (usableFor s b).isSome = true := by
  refine ⟨fun ⟨ch, named, apart, inUse, isOpen⟩ => by rw [usableFor_eq named apart inUse isOpen]; rfl, fun h => ?_⟩
  obtain ⟨ch, usable⟩ := Option.isSome_iff_exists.1 h
  exact ⟨ch, of_usableFor usable⟩

/-- R4 check 4. -/
theorem hasMoveRoom_iff {b : Byte} {ch : Chan} {s : State} (named : b.toNat = ch.val) :
    HasMoveRoom b s ↔ decide (movesOn s ch < Config.movesPerChannel) = true := by
  rw [decide_eq_true_iff, HasMoveRoom, movesOn, allMoves_eq]
  have same : ∀ i, (s.move i).any (fun m => m.channel.val == b.toNat) = ((s.move i).map (·.channel) == some ch) := by
    intro i
    rw [named, Bool.eq_iff_iff]
    cases s.move i <;> simp [Fin.ext_iff]
  simp only [same]

/-- R4 check 10. -/
theorem supports_iff {b : Byte} {ch : Chan} {x : UnitId} {s : State} (named : b.toNat = ch.val) :
    Supports x b s ↔ (!(s.unit x).any (fun r => hasChan r.chans ch)) = false := by
  rw [Supports, Bool.not_eq_false', named]
  cases s.unit x <;> simp [hasChan]

/-- R3 check 2. -/
theorem named_iff {b : Byte} {m : Move} {s : State} (only : ∀ i : MoveIx, b.toNat = i.val + 1 → s.move i = none ∨ s.move i = some m) :
    (∃ i : MoveIx, b.toNat = i.val + 1 ∧ s.move i = some m) ↔
      ((moveOf b).bind (fun i => (s.move i).map (fun m => (i, m)))).isSome = true := by
  refine ⟨fun ⟨i, number, hm⟩ => by rw [namedMove_eq number hm]; rfl, fun h => ?_⟩
  cases number : moveOf b with
  | none => simp [number] at h
  | some i =>
    refine ⟨i, toNat_of_moveOf number, (only i (toNat_of_moveOf number)).resolve_left fun free => ?_⟩
    simp [number, free] at h

theorem amendable_iff (st : MoveState) : st ∈ [MoveState.active, .recovery, .suspended] ↔ st.amendable = true := by
  cases st <;> decide

theorem removable_iff (st : MoveState) :
    st ∈ [MoveState.forming, .active, .stopHeld, .recovery, .suspended] ↔ (st != .releasing) = true := by
  cases st <;> decide

/-- R3: the checks that come before a command's own: the part's state, the record, the operating console, the move's state. -/
def ownerChecks (link : Console) (b : Byte) (m : Move) (states : List MoveState) (s : State) : List (Prop × Reason × BitVec 16) :=
  [(s.part = .service, .wrongState, 0), (∃ i : MoveIx, b.toNat = i.val + 1 ∧ s.move i = some m, .moveUnknown, 0),
    (m.console = link, .notOperator, 0), (m.state ∈ states, .wrongState, 0)]

section
variable {link : Console} {b : Byte} {m : Move} {s : State} {own : List (Prop × Reason × BitVec 16)}
  (only : ∀ i : MoveIx, b.toNat = i.val + 1 → s.move i = none ∨ s.move i = some m)
include only

/-- R3 checks 1 to 4, before a command's own checks. -/
theorem moveCommand_guarded {admits : MoveState → Bool} {states : List MoveState}
    (admitted : ∀ st, st ∈ states ↔ admits st = true) {c : MoveIx → Move → Cmd}
    (h : ∀ i, (c i m).Guarded (hunt link s) own) :
    (moveCommand link b admits c).Guarded (hunt link s) (ownerChecks link b m states s ++ own) := by
  refine .look <| .check (by simp) fun _ => .need (by simpa using named_iff only) fun named im is => ?_
  obtain ⟨i, number, hm⟩ := named
  rw [namedMove_eq number (by simpa using hm)] at is
  cases is
  exact .check (by simp) fun _ => .check (admitted _) fun _ => h i

theorem addMember_guarded (x : UnitId) :
    (cmdAddMember link b x).Guarded (hunt link s)
      (ownerChecks link b m [MoveState.active, .recovery, .suspended] s ++
      [(m.handsets.length < 4, .memberCount, 0), ((s.unit x).isSome = true, .unitUnknown, 0),
        (s.bindingOf (.unit x) = none, .unitBound, 0), (s.kindOf x = some .handset, .kindMismatch, 0),
        (∃ r, s.unit x = some r ∧ r.chans.getLsbD m.channel.val = true, .channelUnsupported, 0),
        (m.controller.isSome = true → ∃ r, s.unit x = some r ∧ r.level = .l3, .levelTooLow, 0)]) := by
  refine .look (moveCommand_guarded only amendable_iff fun i => ?_)
  refine .check (by simp [Config.handsetsPerMove]) fun _ => .need (by simp) fun _ r hr => ?_
  rw [hunt_unit] at hr
  exact .check (by simp [State.bindingOf, hr]) fun _ => .check (by simp [State.kindOf, hr]) fun _ =>
    .check (by simp [hr, hasChan]) fun _ => .check (by cases rc : m.controller <;> simp [hr, Move.isRC, rc]) fun _ => trivial

theorem removeMember_guarded (x : UnitId) :
    (cmdRemoveMember link b x).Guarded (hunt link s)
      (ownerChecks link b m [MoveState.active, .recovery, .suspended] s ++
      [(∃ e ∈ m.loco :: m.handsets, e.unit = x, .notMember, 0), (m.loco.unit ≠ x, .useRelease, 0),
        (m.controller ≠ some x, .controllerInUse, 0), (1 < m.handsets.length, .lastHandset, 0)]) := by
  refine moveCommand_guarded only amendable_iff fun i => ?_
  exact .check (by simp [Move.member, Move.members, List.find?_isSome]) fun _ => .check (by simp) fun _ => .check (by simp) fun _ =>
    .check (by simp) fun _ => trivial

theorem setController_guarded (x : UnitId) :
    (cmdSetController link b x).Guarded (hunt link s)
      (ownerChecks link b m [MoveState.active, .recovery, .suspended] s ++
      [(m.controller.isSome = true, .controllerNotAllowed, 0), (∃ e ∈ m.handsets, e.unit = x, .notMember, 0),
        (∃ e, m.handsets.find? (fun e => e.unit == x) = some e ∧ e.joined = true, .notJoined, 0)]) := by
  refine moveCommand_guarded only amendable_iff fun i => .need Iff.rfl fun _ former _ => ?_
  refine .need (by simp [List.find?_isSome]) fun _ e he => .check (by simp [he]) fun _ => trivial

theorem moveChannel_guarded (d : Byte) :
    (cmdMoveChannel link b d).Guarded (hunt link s)
      (ownerChecks link b m [MoveState.active, .recovery, .suspended] s ++
      ([(d.toNat ≠ m.channel.val, .sameChannel, 0), (Placeable d s, .channelUnusable, 0), (HasMoveRoom d s, .channelFull, 0)] ++
        (m.loco :: m.handsets).map (fun e => (Supports e.unit d s, .channelUnsupported, e.unit)))) := by
  refine .look (moveCommand_guarded only amendable_iff fun i => ?_)
  have other : d.toNat ≠ m.channel.val ↔ (chanOf d != some m.channel) = true := by
    rw [bne_iff_ne]
    exact not_congr ⟨chanOf_eq, toNat_of_chanOf⟩
  refine .check other fun _ => .need placeable_iff fun _ ch usable => ?_
  obtain ⟨named, -⟩ := of_usableFor (s := s) usable
  refine .check (hasMoveRoom_iff named) fun _ => ?_
  have run := Cmd.Guarded.noneOf (t := hunt link s) (r := .channelUnsupported) (rest := []) (us := m.units) (ok := fun x => Supports x d s)
    (bad := fun u => !((hunt link s).unit u).any (fun r => hasChan r.chans ch))
    (c := done (fun s => serveFreed s (moveToChannel i m ch s))) (fun x _ => by simpa using supports_iff named) fun _ => trivial
  rw [List.append_nil, Move.units, List.map_map] at run
  exact run

theorem reinstate_guarded :
    (cmdReinstate link b).Guarded (hunt link s)
      (ownerChecks link b m [MoveState.suspended] s ++ []) :=
  moveCommand_guarded only (fun st => by cases st <;> decide) fun _ => trivial

theorem releaseMove_guarded :
    (cmdReleaseMove link b).Guarded (hunt link s)
      (ownerChecks link b m [MoveState.forming, .active, .stopHeld, .recovery, .suspended] s ++ []) :=
  moveCommand_guarded only removable_iff fun _ => trivial

theorem readMove_guarded :
    (cmdReadMove b).Guarded (hunt link s) [(∃ i : MoveIx, b.toNat = i.val + 1 ∧ s.move i = some m, .moveUnknown, 0)] :=
  .look <| .need (by simpa using named_iff only) fun _ _ _ => trivial

theorem takeMove_guarded :
    (cmdTakeMove link b).Guarded (hunt link s)
      [(s.part = .service, .wrongState, 0), (∃ i : MoveIx, b.toNat = i.val + 1 ∧ s.move i = some m, .moveUnknown, 0)] :=
  .look <| .check (by simp) fun _ => .need (by simpa using named_iff only) fun _ _ _ => trivial

end

/-! ## CREATE_MOVE (R4) -/

section
variable {f : MoveFields} {s t : State} {c : Cmd} {rest : List (Prop × Reason × BitVec 16)}

/-- R4 check 9: the locomotive first, then the handsets. -/
theorem kindOffender_guarded (h : (s.kindOf f.loco = some .loco ∨ s.kindOf f.loco = some .locoRc) → c.Guarded t rest) :
    (noneOf (kindOffender s f) .kindMismatch c).Guarded t
      ((s.kindOf f.loco = some .loco ∨ s.kindOf f.loco = some .locoRc, .kindMismatch, f.loco) ::
        (f.handsets.map (fun x => (s.kindOf x = some .handset, .kindMismatch, x)) ++ rest)) := by
  refine ⟨fun fails => ?_, fun holds => ?_⟩
  · rw [kindOffender, if_neg fails]; rfl
  · rw [kindOffender, if_pos holds]
    exact .noneOf (fun x _ => by simp) fun _ => h holds

/-- R4 checks 11 to 14. -/
theorem checkController_guarded (kinds : s.kindOf f.loco = some .loco ∨ s.kindOf f.loco = some .locoRc) :
    (checkController s f c).Guarded t
      ((s.kindOf f.loco = some .locoRc → f.controller ≠ none, .controllerRequired, 0) ::
        (s.kindOf f.loco = some .locoRc → ∃ x ∈ f.handsets, f.controller = some x, .controllerNotMember, 0) ::
      ((f.loco :: f.handsets).map (fun x =>
        (s.kindOf f.loco = some .locoRc → ∃ r, s.unit x = some r ∧ r.level = .l3, .levelTooLow, x)) ++
      [(s.kindOf f.loco = some .loco → f.controller = none, .controllerNotAllowed, 0)])) := by
  unfold checkController
  by_cases rc : s.kindOf f.loco = some .locoRc
  · rw [if_pos rc]
    refine .need (by simp [rc, Option.isSome_iff_ne_none]) fun _ u hu => .check (by simp [rc, hu]) fun _ => ?_
    exact .noneOf (fun x _ => by cases s.unit x <;> simp [rc]) fun _ =>
      ⟨fun fails => by simp [rc] at fails, fun _ => trivial⟩
  · rw [if_neg rc]
    have loco := kinds.resolve_right rc
    refine ⟨fun fails => by simp [rc] at fails, fun _ => ⟨fun fails => by simp [rc] at fails, fun _ => .skip (by simp [rc]) ?_⟩⟩
    exact .check (by simp [loco]) fun _ => trivial

theorem createMove_guarded (link : Console) (f : MoveFields) (s : State) :
    (cmdCreateMove link f).Guarded (hunt link s) (createChecks f s) := by
  have free : (∃ i, s.move i = none) ↔ (allMoves.find? (fun i => ((hunt link s).move i).isNone)).isSome = true := by
    simp [List.find?_isSome, mem_allMoves]
  unfold createChecks
  simp only [List.append_assoc, List.cons_append, List.nil_append]
  refine .look <| .check (by simp) fun _ => .need free fun _ i _ => .need placeable_iff fun _ ch usable => ?_
  obtain ⟨number, -⟩ := of_usableFor (s := s) usable
  refine .check (hasMoveRoom_iff number) fun _ => .check (by simp [Config.handsetsPerMove]) fun _ => .check (by simp [named]) fun _ => ?_
  refine .noneOf (fun x _ => by simp) fun _ => .noneOf (fun x _ => by simp) fun _ => ?_
  refine kindOffender_guarded (s := s) fun kinds => ?_
  exact .noneOf (fun x _ => supports_iff number) fun _ => checkController_guarded kinds

end

/-! ## ENTER_SERVICE (R188) -/

theorem sharesPort_iff {s : State} {ch : Chan} {p : Port} : sharesPort s ch p = true ↔
    ∃ d : Chan, d.val < ch.val ∧ (s.chan d).inUse = true ∧ (s.chan d).port = some p := by
  simp [sharesPort, List.any_eq_true, mem_allChans, and_assoc]

/-- R188: the part refuses with the first offending channel of some, where none before them offends. -/
theorem plan_guarded {c : Cmd} {s t : State} {chs : List Chan}
    (h : ∀ x, chs.findSome? (fun ch => (channelFault s ch).map (fun k => (ch, k))) = some x →
      c t = (.refused .configInvalid (planDetail x), t)) : c.Guarded t (chs.flatMap (fun ch => planChecks ch s)) := by
  induction chs with
  | nil => trivial
  | cons ch chs ih =>
    have offends {k : PlanCause} (fault : channelFault s ch = some k) : c t = (.refused .configInvalid (planDetail (ch, k)), t) :=
      h _ (by rw [List.findSome?_cons, fault]; rfl)
    have sound (fault : channelFault s ch = none) : c.Guarded t (chs.flatMap (fun ch => planChecks ch s)) :=
      ih fun x found => h x (by rw [List.findSome?_cons, fault]; exact found)
    rw [List.flatMap_cons]
    by_cases inUse : (s.chan ch).inUse = true
    · cases port : (s.chan ch).port with
      | none =>
        exact ⟨fun _ => offends (k := .noPort) (by simp [channelFault, inUse, port]), fun holds => absurd (holds inUse) (by simp [port])⟩
      | some p =>
        refine ⟨fun fails => absurd (fun _ => by simp [port]) fails, fun _ => ⟨fun fails => ?_, fun apart => ⟨fun fails => ?_, fun usable => ?_⟩⟩⟩
        · have shared : sharesPort s ch p = true := by
            by_contra apart
            exact fails fun _ d below used same => apart (sharesPort_iff.2 ⟨d, below, used, same.trans port⟩)
          exact offends (k := .portShared) (by simp [channelFault, inUse, port, shared])
        · have failed : (s.port p).state = .failed := by simpa [inUse, port] using fails
          have unshared : ¬ sharesPort s ch p = true := fun shared =>
            have ⟨d, below, used, same⟩ := sharesPort_iff.1 shared
            apart inUse d below used (same.trans port.symm)
          exact offends (k := .portFailed) (by simp [channelFault, inUse, port, unshared, failed])
        · have unshared : ¬ sharesPort s ch p = true := fun shared =>
            have ⟨d, below, used, same⟩ := sharesPort_iff.1 shared
            apart inUse d below used (same.trans port.symm)
          exact sound (by simp [channelFault, inUse, port, unshared, usable inUse p port])
    · exact .skip (by simp [planChecks, inUse]) (sound (by simp [channelFault, inUse]))

theorem enterService_guarded (link : Console) (s : State) : cmdEnterService.Guarded (hunt link s)
    ([(s.part = .config, .wrongState, 0), ((s.chan 0).inUse = true, .configInvalid, 0)] ++
      (List.finRange 6).flatMap (fun ch => planChecks ch s)) := by
  have same : planFault (hunt link s) = planFault s := rfl
  refine .look <| .check (by simp) fun _ => ?_
  refine ⟨fun fails => ?_, fun called => plan_guarded fun x found => ?_⟩
  · rw [same, planFault, if_neg fails]; rfl
  · rw [same, planFault, if_pos called, allChans_eq, found]; rfl

/-! ## SET_CHANNEL and SET_GLOBAL (R190, R191) -/

theorem flagOk_of {v : Option Byte} (h : ∀ b, v = some b → b.toNat ≤ 1) : flagOk v = true := by
  cases v with
  | none => rfl
  | some b => exact decide_eq_true (h b rfl)

/-- Settles O15: the checks of each command are those of its list, and the first that fails gives the refusal. -/
theorem commandsAreGuarded : Obligations.CommandsAreGuarded := by
  refine ⟨fun link s listening => ⟨?inService, ?noChannel, ?noPort, ?levels, ?noLevel⟩,
    fun link s listening => refusedAtFirst_of_guarded listening (enterService_guarded link s),
    fun link f s listening => refusedAtFirst_of_guarded listening (createMove_guarded link f s),
    fun link b m s listening only => ⟨?reads, ?takes, ?amends⟩⟩
  case inService =>
    intro b ch f service number flag assignable present
    refine exec_listening (c := .setChannel b f) listening ?_
    have ports : f.port.all (fun p => (assignedPortOf p).isSome) = true := by
      rw [Option.all_eq_true]
      exact fun v given => assignedPortOf_isSome (assignable v given)
    have fields : structural f = true := by
      unfold structural
      by_contra absent
      exact present (by simpa [and_assoc] using absent)
    rw [runCommand, cmdSetChannel, look_apply, check_apply, if_pos (flagOk_of flag), chanOf_eq number, need_some, check_apply, if_pos ports,
      check_apply, if_neg (by simp [service, fields])]
  case noChannel =>
    intro b f flag outside
    refine exec_listening (c := .setChannel b f) listening ?_
    have unknown : chanOf b = none := dif_neg (by omega)
    rw [runCommand, cmdSetChannel, look_apply, check_apply, if_pos (flagOk_of flag), unknown, need_none, refuse_apply]
  case noPort =>
    intro b v ch f flag number given low high
    refine exec_listening (c := .setChannel b f) listening ?_
    have unknown : portOf v = none := dif_neg (by omega)
    rw [runCommand, cmdSetChannel, look_apply, check_apply, if_pos (flagOk_of flag), chanOf_eq number, need_some, check_apply,
      if_neg (by simp [given, assignedPortOf, high, unknown])]
  case levels =>
    intro v f service given low high
    refine exec_listening (c := .setGlobal f) listening ?_
    have empty : ¬ v = 0#8 := by rintro rfl; simp at low
    rw [runCommand, cmdSetGlobal, look_apply, check_apply, if_pos (by simp [given]; omega), check_apply, if_pos (by simp [given, empty]),
      check_apply, if_neg (by simp [given, service])]
  case noLevel =>
    intro f given
    refine exec_listening (c := .setGlobal f) listening ?_
    rw [runCommand, cmdSetGlobal, look_apply, check_apply, if_pos (by simp [given]), check_apply, if_neg (by simp [given])]
  case reads =>
    exact refusedAtFirst_of_guarded listening (readMove_guarded only)
  case takes =>
    exact refusedAtFirst_of_guarded listening (takeMove_guarded only)
  case amends =>
    intro c states own taken
    refine refusedAtFirst_of_guarded listening ?_
    rcases taken with ⟨x, rfl, rfl, rfl⟩ | ⟨x, rfl, rfl, rfl⟩ | ⟨x, rfl, rfl, rfl⟩ | ⟨d, rfl, rfl, rfl⟩ | ⟨rfl, rfl, rfl⟩ | ⟨rfl, rfl, rfl⟩
    · exact addMember_guarded only x
    · exact removeMember_guarded only x
    · exact setController_guarded only x
    · exact moveChannel_guarded only d
    · exact reinstate_guarded only
    · exact releaseMove_guarded only

end Sys2Proof.Machine

/-! PROOF. ENTER_SERVICE and the ports that its channels take (O17). -/

namespace Sys2Proof.Machine

set_option Elab.async false

/-! ## What a step leaves as it was -/

/-- In `t` a port and its test are as in `s`, but that the gate setting of a carrying port may have changed. -/
structure PortKept (p : Port) (s t : State) : Prop where
  test : t.testOf p = s.testOf p
  state : (t.port p).state = (s.port p).state
  channel : (t.port p).channel = (s.port p).channel
  whole : (s.port p).state ≠ .active → t.port p = s.port p

namespace PortKept

variable {p : Port} {s t u : State}

theorem refl (p : Port) (s : State) : PortKept p s s := ⟨rfl, rfl, rfl, fun _ => rfl⟩

theorem trans (h : PortKept p s t) (k : PortKept p t u) : PortKept p s u where
  test := k.test.trans h.test
  state := k.state.trans h.state
  channel := k.channel.trans h.channel
  whole idle := (k.whole (by rw [h.state]; exact idle)).trans (h.whole idle)

theorem of_eq (port : t.port p = s.port p) (test : t.testOf p = s.testOf p) : PortKept p s t :=
  ⟨test, congrArg _ port, congrArg _ port, fun _ => port⟩

end PortKept

/-- In `t` a channel's floor and a port with its test are as in `s`, and no message of `s` is taken back. -/
structure Aside (ch : Chan) (p : Port) (s t : State) : Prop where
  port : PortKept p s t
  floor : t.floor ch = s.floor ch
  time : t.time = s.time
  channels : t.channels = s.channels
  sent : s.sent <+: t.sent

theorem Aside.refl (ch : Chan) (p : Port) (s : State) : Aside ch p s s := ⟨.refl p s, rfl, rfl, rfl, List.prefix_rfl⟩

theorem Aside.trans {ch : Chan} {p : Port} {s t u : State} (h : Aside ch p s t) (k : Aside ch p t u) : Aside ch p s u :=
  ⟨h.port.trans k.port, k.floor.trans h.floor, k.time.trans h.time, k.channels.trans h.channels, h.sent.trans k.sent⟩

/-- A loop in which the other elements' turns keep a relation does what one element's turn does. -/
theorem forEach_reaches {α : Type} {R : State → State → Prop} {f : α → State → State} {xs : List α} {x : α} (refl : ∀ s, R s s)
    (trans : ∀ {s t u}, R s t → R t u → R s u) (once : xs.Nodup) (mem : x ∈ xs) (other : ∀ y ∈ xs, y ≠ x → ∀ t, R t (f y t)) (s : State) :
    ∃ t, R s t ∧ R (f x t) (forEach xs f s) := by
  induction xs generalizing s with
  | nil => exact absurd mem (by simp)
  | cons y xs ih =>
    obtain ⟨apart, once⟩ := List.nodup_cons.1 once
    rcases List.mem_cons.1 mem with rfl | later
    · refine ⟨s, refl s, forEach_keeps (Q := R (f x s)) xs (fun z later t h => trans h (other z (.tail _ later) ?_ t)) _ (refl _)⟩
      rintro rfl
      exact apart later
    · obtain ⟨t, before, after_⟩ := ih once later (fun z mem => other z (.tail _ mem)) (f y s)
      refine ⟨t, trans (other y (.head _) ?_ s) before, after_⟩
      rintro rfl
      exact apart later

theorem forEach_relates {α : Type} {R : State → State → Prop} {f : α → State → State} {xs : List α} (refl : ∀ s, R s s)
    (trans : ∀ {s t u}, R s t → R t u → R s u) (each : ∀ y ∈ xs, ∀ t, R t (f y t)) (s : State) : R s (forEach xs f s) :=
  forEach_keeps (Q := R s) xs (fun y mem t h => trans h (each y mem t)) _ (refl s)

/-! ## The steps of R146 -/

section
variable {x : Chan × Port} {c : Chan} {q : Port} {s : State}

/-- R146 step 2: the port of a channel that is carried at once, before the floor opens. -/
def onAir (x : Chan × Port) (s : State) : State :=
  servePort x.2 x.1 (send x.2 (.tune (s.chan x.1).freq) (portTo x.2 .active .service (fun r => { r with channel := some x.1 }) s))

theorem carryNow_eq : carryNow x s = modFloor x.1 (fun f => if f.state = .off then { f with state := .idle } else f) (onAir x s) := rfl

theorem onAir_only (x : Chan × Port) (s : State) : Only [.ports, .links, .sent] s (onAir x s) :=
  ((portTo_only _ _ _ _ _).andThen (hs := [.ports, .links, .sent]) (send_only _ _ _)).andThen (servePort_only _ _ _)

theorem onAir_port (x : Chan × Port) (s : State) (q : Port) : (onAir x s).port q = if q = x.2 then { s.port x.2 with
    state := .active, channel := some x.1
    pins := { (s.port x.2).pins with gate := (s.floor x.1).gate, tone := some x.1 } } else s.port q := by
  have floor : (send x.2 (.tune (s.chan x.1).freq) (portTo x.2 .active .service (fun r => { r with channel := some x.1 }) s)).floor x.1 =
      s.floor x.1 := State.floor_congr ((portTo_only _ _ _ _ _).andThen (hs := [.ports, .links, .sent]) (send_only _ _ _)).floors _
  rw [onAir, servePort_port, floor, send_port, send_port, portTo_port, portTo_port, if_pos rfl]
  by_cases own : q = x.2
  · rw [if_pos own, if_pos own]
  · rw [if_neg own, if_neg own, if_neg own]

theorem carryNow_ports (q : Port) : (carryNow x s).port q = (onAir x s).port q := State.port_congr (modFloor_only _ _ _).ports q

theorem carryNow_tests (q : Port) : (carryNow x s).testOf q = s.testOf q :=
  State.testOf_congr ((onAir_only x s).andThen (hs := [.ports, .links, .sent, .floors]) (modFloor_only _ _ _)).tests q

theorem carryNow_sends : s.sent ++ [(x.2, .tune (s.chan x.1).freq)] <+: (carryNow x s).sent := by
  rw [carryNow_eq, (modFloor_only _ _ _).sent, onAir, servePort_sent, send_sent, (portTo_only _ _ _ _ _).sent]
  exact List.prefix_append _ _

theorem carryNow_opens (off : (s.floor x.1).state = .off) : ((carryNow x s).floor x.1).state = .idle := by
  rw [carryNow_eq, modFloor_floor_self, State.floor_congr (onAir_only x s).floors, if_pos off]

theorem carryNow_keepsPort (other : q ≠ x.2) : PortKept q s (carryNow x s) :=
  .of_eq (by rw [carryNow_ports, onAir_port, if_neg other]) (carryNow_tests q)

theorem carryNow_floor (other : c ≠ x.1) : (carryNow x s).floor c = s.floor c := by
  rw [carryNow_eq, modFloor_floor_ne _ _ _ other, State.floor_congr (onAir_only x s).floors]

theorem carryNow_aside (channel : c ≠ x.1) (other : q ≠ x.2) : Aside c q s (carryNow x s) where
  port := carryNow_keepsPort other
  floor := carryNow_floor channel
  time := (carryNow_only x s).time
  channels := (carryNow_only x s).channels
  sent := (List.prefix_append _ _).trans carryNow_sends

/-- R146 step 3: the port of a channel that is to tune, before the channel enters TRANSFER. -/
def tunesFirst (x : Chan × Port) (s : State) : State :=
  tuneTo x.2 x.1 .start (modPort x.2 (fun r => { r with lastHealth := some s.time }) s)

theorem tuneAbsent_after : Only [.links] (openTransfer x.1 (tunesFirst x s)) (tuneAbsent x s) := reportTransfer_only _ _ _ _

theorem tunesFirst_only (x : Chan × Port) (s : State) : Only [.ports, .links, .sent] s (tunesFirst x s) :=
  Only.andThen (fs := [.ports]) (modPort_only _ _ _) (tuneTo_only _ _ _ _)

theorem tuneAbsent_ports (q : Port) : (tuneAbsent x s).port q = if q = x.2 then { s.port x.2 with
    state := .tuning, channel := some x.1, purpose := some .start, tuneDeadline := some (s.time + 1000), lastHealth := some s.time }
    else s.port q := by
  rw [State.port_congr tuneAbsent_after.ports, State.port_congr (openTransfer_only _ _).ports, tunesFirst, tuneTo_port, modPort_port,
    modPort_port, if_pos rfl]
  by_cases own : q = x.2
  · rw [if_pos own, if_pos own]; rfl
  · rw [if_neg own, if_neg own, if_neg own]

theorem tuneAbsent_tests (q : Port) : (tuneAbsent x s).testOf q = s.testOf q :=
  State.testOf_congr (((tunesFirst_only x s).andThen (hs := [.ports, .links, .sent, .floors]) (openTransfer_only _ _)).andThen
    (hs := [.ports, .links, .sent, .floors]) tuneAbsent_after).tests q

theorem tuneAbsent_sent : (tuneAbsent x s).sent = s.sent ++ [(x.2, .tune (s.chan x.1).freq)] := by
  rw [tuneAbsent_after.sent, (openTransfer_only _ _).sent, tunesFirst, tuneTo_sent, (modPort_only _ _ _).sent]
  rfl

/-- R146: an OFF floor enters TRANSFER with held state IDLE. -/
theorem openTransfer_opens {ch : Chan} (off : (s.floor ch).state = .off) :
    ((openTransfer ch s).floor ch).state = .transfer ∧ ((openTransfer ch s).floor ch).held = some .idle := by
  rw [openTransfer, modFloor_floor_self, if_pos (.inl off)]
  exact ⟨rfl, rfl⟩

theorem tuneAbsent_opens (off : (s.floor x.1).state = .off) :
    ((tuneAbsent x s).floor x.1).state = .transfer ∧ ((tuneAbsent x s).floor x.1).held = some .idle := by
  rw [State.floor_congr tuneAbsent_after.floors]
  exact openTransfer_opens (by rw [State.floor_congr (tunesFirst_only x s).floors, off])

theorem tuneAbsent_keepsPort (other : q ≠ x.2) : PortKept q s (tuneAbsent x s) :=
  .of_eq (by rw [tuneAbsent_ports, if_neg other]) (tuneAbsent_tests q)

theorem tuneAbsent_floor (other : c ≠ x.1) : (tuneAbsent x s).floor c = s.floor c := by
  rw [State.floor_congr tuneAbsent_after.floors, openTransfer, modFloor_floor_ne _ _ _ other, State.floor_congr (tunesFirst_only x s).floors]

theorem tuneAbsent_aside (channel : c ≠ x.1) (other : q ≠ x.2) : Aside c q s (tuneAbsent x s) where
  port := tuneAbsent_keepsPort other
  floor := tuneAbsent_floor channel
  time := (tuneAbsent_only x s).time
  channels := (tuneAbsent_only x s).channels
  sent := by rw [tuneAbsent_sent]; exact List.prefix_append _ _

end

/-! ## The tests that are aborted (R160) -/

/-- R160: a running test is aborted by a failover. -/
def abortedTest (now : Time) (o : Option TestRec) : Option TestRec :=
  (o.filter TestRec.running).elim o (fun t => some (t.finished now .aborted (some .failover)))

theorem abortedTest_some (now : Time) (t : TestRec) :
    abortedTest now (some t) = some (if t.running then t.finished now .aborted (some .failover) else t) := by
  rw [abortedTest, Option.filter_some]
  cases t.running <;> rfl

theorem abortedTest_twice (now : Time) (o : Option TestRec) : abortedTest now (abortedTest now o) = abortedTest now o := by
  cases o with
  | none => rfl
  | some t =>
    have stopped : (t.finished now .aborted (some .failover)).running = false := rfl
    rw [abortedTest_some, abortedTest_some]
    cases running : t.running <;> simp [running, stopped]

theorem abortedTest_running {now : Time} {o : Option TestRec} {t : TestRec} (record : o = some t) (running : t.state = .search ∨ t.state = .synced) :
    abortedTest now o = some { t with state := .aborted, abort := some .failover, endTime := now, insertPending := false } := by
  have runs : t.running = true := by rcases running with h | h <;> simp [TestRec.running, h]
  rw [record, abortedTest_some, if_pos runs]
  rfl

theorem abortTest_test (p q : Port) (s : State) :
    (abortTest p .failover s).testOf q = if q = p then abortedTest s.time (s.testOf q) else s.testOf q := by
  rw [abortTest_testOf]
  by_cases own : q = p
  · subst own; rfl
  · rw [if_neg own, if_neg own]

theorem abortEach_test (xs : List (Chan × Port)) (q : Port) (s : State) : (forEach xs (fun x => abortTest x.2 .failover) s).testOf q =
    if q ∈ xs.map (·.2) then abortedTest s.time (s.testOf q) else s.testOf q := by
  induction xs generalizing s with
  | nil => rfl
  | cons x xs ih =>
    refine (ih _).trans ?_
    rw [abortTest_test, (abortTest_only _ _ _).time]
    by_cases own : q = x.2
    · simp [own, abortedTest_twice]
    · simp [own]

theorem abortEach_only (xs : List (Chan × Port)) (s : State) :
    Only [.tests, .downlink, .links] s (forEach xs (fun x => abortTest x.2 .failover) s) := Only.forEach _ (fun _ _ _ => abortTest_only _ _ _) _

/-! ## The search for a spare (R143, R146 step 4) -/

/-- R143: the ports that channels without a port of their own can take, in the order in which they are taken. -/
def candidates (s : State) : List Port :=
  allPorts.filter (fun q => (s.port q).state == .standby) ++ allPorts.filter (fun q => (s.port q).state == .test)

section
variable {s t : State} {q : Port}

theorem candidate_head (s : State) : candidate s = (candidates s).head? := by
  rw [candidates, List.head?_append, List.head?_filter, List.head?_filter, candidate]
  show (match s.lowestPort .standby with | some p => some p | none => s.lowestPort .test) = (s.lowestPort .standby).or (s.lowestPort .test)
  cases s.lowestPort .standby <;> rfl

theorem mem_candidates : q ∈ candidates s ↔ (s.port q).state = .standby ∨ (s.port q).state = .test := by
  simp [candidates, mem_allPorts]

theorem candidates_nodup (s : State) : (candidates s).Nodup := by
  have once : allPorts.Nodup := by decide
  refine List.Nodup.append (once.filter _) (once.filter _) fun q standby test => ?_
  have first : (s.port q).state = .standby := by simpa [mem_allPorts] using standby
  have second : (s.port q).state = .test := by simpa [mem_allPorts] using test
  rw [first] at second
  cases second

theorem candidates_congr (same : ∀ q, (t.port q).state = (s.port q).state) : candidates t = candidates s := by
  simp only [candidates, same]

/-- A port that is a candidate no more is gone from the list. -/
theorem candidates_without (gone : (t.port q).state ≠ .standby ∧ (t.port q).state ≠ .test)
    (others : ∀ r, r ≠ q → (t.port r).state = (s.port r).state) : candidates t = (candidates s).filter (fun r => r ≠ q) := by
  have each {st : PortState} (out : (t.port q).state ≠ st) : allPorts.filter (fun r => (t.port r).state == st) =
      (allPorts.filter (fun r => (s.port r).state == st)).filter (fun r => r ≠ q) := by
    rw [List.filter_filter]
    refine List.filter_congr fun r _ => ?_
    by_cases own : r = q
    · subst own; simpa using out
    · simp [own, others r own]
  rw [candidates, candidates, List.filter_append, each gone.1, each gone.2]

end

/-- R49: a closed channel changes only the gate setting of the port that carries it. -/
theorem setGate_idle {ch : Chan} {g : Option Party} {q : Port} {s : State} (idle : (s.port q).state ≠ .active) :
    (setGate ch g s).port q = s.port q := by
  unfold setGate
  split
  · rfl
  · split
    · rfl
    · next p carries =>
      have active := List.find?_some carries
      rw [sendGate_port, if_neg]
      · rfl
      · rintro rfl
        rw [Bool.and_eq_true, beq_iff_eq] at active
        exact idle active.1

theorem closeFloor_steps (ch : Chan) (s : State) : ∃ t, Only [.floors, .generators, .links] s t ∧ Only [.links] (setGate ch none t) (closeFloor ch s) := by
  have told := tellLost_only ch (s.floor ch) s
  have emptied : ∀ t, t = modFloor ch (fun f => { f with
        state := .closed, held := none, grant := none, queue := [], hang := none, heard := none, foreignSince := none
        episodeOpen := false, quiet := none }) (stopSeize ch (tellLost ch (s.floor ch) s)) → Only [.floors, .generators, .links] s t := by
    rintro t rfl
    exact ((told.mono (by decide)).trans (Only.andThen (hs := [.floors, .generators, .links]) (modFloor_only _ _ _)
      (setGenerator_only _ _ _))).trans ((modFloor_only _ _ _).mono (by decide))
  refine ⟨_, emptied _ rfl, ?_⟩
  unfold closeFloor
  exact Only.iteFun _ (broadcast_only _ _) (.refl _ _)

section
variable {ch : Chan} {q : Port} {s : State}

theorem closeChannel_after (ch : Chan) (s : State) : Only [.links] (setFrames ch [] (closeFloor ch s)) (closeChannel ch s) :=
  ((tellClosure_only _ _).trans (latchAll_only _ _ _)).trans (broadcast_only _ _)

theorem closeChannel_keepsPort (q : Port) (ch : Chan) (s : State) : PortKept q s (closeChannel ch s) := by
  have frame := (closeChannel_frame ch s).2.2 q
  refine ⟨State.testOf_congr (closeChannel_frame ch s).only.tests q, by rw [frame], by rw [frame], fun idle => ?_⟩
  obtain ⟨t, before, after_⟩ := closeFloor_steps ch s
  have same : t.port q = s.port q := State.port_congr before.ports q
  rw [State.port_congr (closeChannel_after ch s).ports, State.port_congr (setFrames_only _ _ _).ports, State.port_congr after_.ports,
    setGate_idle (by rw [same]; exact idle), same]

theorem closeChannel_sends (ch : Chan) (s : State) : s.sent <+: (closeChannel ch s).sent := by
  obtain ⟨t, before, after_⟩ := closeFloor_steps ch s
  rw [(closeChannel_after ch s).sent, (setFrames_only _ _ _).sent, after_.sent, ← before.sent]
  exact setGate_sends _ _ _

end

/-- R146 step 4: a spare has become the tuning port of a channel. -/
structure SpareTakes (q : Port) (ch : Chan) (s u : State) : Prop where
  port : u.port q = { s.port q with
    state := .tuning, channel := some ch, purpose := some .transfer, tuneDeadline := some (s.time + 1000) }
  sent : (q, PortMsg.tune (s.chan ch).freq) ∈ u.sent
  test : u.testOf q = abortedTest s.time (s.testOf q)
  floor : (s.floor ch).state = .off → (u.floor ch).state = .transfer ∧ (u.floor ch).held = some .idle

/-- R145: a channel is CLOSED, and empty. -/
def IsShut (ch : Chan) (u : State) : Prop :=
  (u.floor ch).state = .closed ∧ (u.floor ch).held = none ∧ (u.floor ch).grant = none ∧ (u.floor ch).queue = [] ∧ u.frames ch = []

section
variable {x : Chan × Port} {q : Port} {s : State}

/-- R146 step 4: the channel enters TRANSFER, with the candidate's test aborted. -/
def entersFor (x : Chan × Port) (q : Port) (s : State) : State :=
  reportTransfer x.1 none (some q) (openTransfer x.1 (abortTest q .failover s))

theorem entersFor_only : Only [.tests, .downlink, .links, .floors] s (entersFor x q s) :=
  ((abortTest_only _ _ _).andThen (hs := [.tests, .downlink, .links, .floors]) (openTransfer_only _ _)).andThen
    (hs := [.tests, .downlink, .links, .floors]) (reportTransfer_only _ _ _ _)

theorem entersFor_floor (c : Chan) : (entersFor x q s).floor c = (openTransfer x.1 (abortTest q .failover s)).floor c :=
  State.floor_congr (reportTransfer_only _ _ _ _).floors c

theorem entersFor_test (r : Port) : (entersFor x q s).testOf r = if r = q then abortedTest s.time (s.testOf r) else s.testOf r := by
  rw [← abortTest_test]
  exact State.testOf_congr ((openTransfer_only _ _).andThen (hs := [.links, .floors]) (reportTransfer_only _ _ _ _)).tests r

theorem seekSpare_tunes (found : candidate s = some q) : seekSpare x s = tuneTo q x.1 .transfer (entersFor x q s) := by
  rw [seekSpare, spareSearch, found]
  rfl

theorem seekSpare_shuts (none_ : candidate s = none) :
    seekSpare x s = closeChannel x.1 (reportTransfer x.1 none none (openTransfer x.1 s)) := by
  rw [seekSpare, spareSearch, none_]

theorem seekSpare_port (found : candidate s = some q) (r : Port) : (seekSpare x s).port r = if r = q then { s.port q with
    state := .tuning, channel := some x.1, purpose := some .transfer, tuneDeadline := some (s.time + 1000) } else s.port r := by
  have same (r : Port) : (entersFor x q s).port r = s.port r := State.port_congr entersFor_only.ports r
  rw [seekSpare_tunes found, tuneTo_port, same, same, entersFor_only.time]
  rfl

theorem seekSpare_test (found : candidate s = some q) (r : Port) :
    (seekSpare x s).testOf r = if r = q then abortedTest s.time (s.testOf r) else s.testOf r := by
  rw [seekSpare_tunes found, State.testOf_congr (tuneTo_only _ _ _ _).tests, entersFor_test]

theorem seekSpare_takes (found : candidate s = some q) : SpareTakes q x.1 s (seekSpare x s) where
  port := by rw [seekSpare_port found, if_pos rfl]
  sent := by
    rw [seekSpare_tunes found, tuneTo_sent, State.chan_congr entersFor_only.channels]
    exact List.mem_append_right _ (.head _)
  test := by rw [seekSpare_test found, if_pos rfl]
  floor off := by
    rw [seekSpare_tunes found, State.floor_congr (tuneTo_only _ _ _ _).floors, entersFor_floor]
    exact openTransfer_opens (by rw [State.floor_congr (abortTest_only _ _ _).floors, off])

theorem seekSpare_isShut (none_ : candidate s = none) : IsShut x.1 (seekSpare x s) := by
  rw [seekSpare_shuts none_]
  generalize reportTransfer x.1 none none (openTransfer x.1 s) = t
  have after_ := closeChannel_after x.1 t
  have floor : (closeChannel x.1 t).floor x.1 = (closeFloor x.1 t).floor x.1 := State.floor_congr after_.floors _
  rw [IsShut, floor, closeFloor_floor_self, State.frames_congr after_.downlink]
  exact ⟨rfl, rfl, rfl, rfl, Tab.get_put_self _ _ _⟩

theorem seekSpare_keepsPort (other : candidate s ≠ some q) : PortKept q s (seekSpare x s) := by
  cases found : candidate s with
  | some r =>
    have apart : q ≠ r := by rintro rfl; exact other found
    exact .of_eq (by rw [seekSpare_port found, if_neg apart]) (by rw [seekSpare_test found, if_neg apart])
  | none =>
    rw [seekSpare_shuts found]
    have opened : Only [.floors, .links] s (reportTransfer x.1 none none (openTransfer x.1 s)) :=
      (openTransfer_only _ _).andThen (reportTransfer_only _ _ _ _)
    exact (PortKept.of_eq (State.port_congr opened.ports q) (State.testOf_congr opened.tests q)).trans (closeChannel_keepsPort _ _ _)

theorem seekSpare_floor {c : Chan} (other : c ≠ x.1) : (seekSpare x s).floor c = s.floor c := by
  cases found : candidate s with
  | some r =>
    rw [seekSpare_tunes found, State.floor_congr (tuneTo_only _ _ _ _).floors, entersFor_floor, openTransfer, modFloor_floor_ne _ _ _ other,
      State.floor_congr (abortTest_only _ _ _).floors]
  | none =>
    rw [seekSpare_shuts found, ((closeChannel_frame _ _).2.1 c other).1, State.floor_congr (reportTransfer_only _ _ _ _).floors, openTransfer,
      modFloor_floor_ne _ _ _ other]

theorem seekSpare_sends : s.sent <+: (seekSpare x s).sent := by
  cases found : candidate s with
  | some r =>
    rw [seekSpare_tunes found, tuneTo_sent, entersFor_only.sent]
    exact List.prefix_append _ _
  | none =>
    rw [seekSpare_shuts found]
    have opened : Only [.floors, .links] s (reportTransfer x.1 none none (openTransfer x.1 s)) :=
      (openTransfer_only _ _).andThen (reportTransfer_only _ _ _ _)
    rw [← opened.sent]
    exact closeChannel_sends _ _

theorem seekSpare_aside {c : Chan} (channel : c ≠ x.1) (other : candidate s ≠ some q) : Aside c q s (seekSpare x s) where
  port := seekSpare_keepsPort other
  floor := seekSpare_floor channel
  time := (seekSpare_only x s).time
  channels := (seekSpare_only x s).channels
  sent := seekSpare_sends

/-- R143: a port that is neither STANDBY nor in TEST is not found. -/
theorem not_candidate (engaged : (s.port q).state ≠ .standby ∧ (s.port q).state ≠ .test) : candidate s ≠ some q := by
  intro found
  rw [candidate_head] at found
  exact (mem_candidates.1 (List.mem_of_head? found)).elim engaged.1 engaged.2

/-- R146 step 4: what is not of a later channel, nor a port that can be found, stays through the rest of the search. -/
theorem seekEach_aside {c : Chan} {xs : List (Chan × Port)} (channel : ∀ y ∈ xs, c ≠ y.1)
    (engaged : (s.port q).state ≠ .standby ∧ (s.port q).state ≠ .test) : Aside c q s (forEach xs seekSpare s) := by
  refine forEach_keeps (Q := Aside c q s) xs (fun y mem t h => h.trans (seekSpare_aside (channel y mem) ?_)) _ (.refl c q s)
  exact not_candidate (by rw [h.port.state]; exact engaged)

theorem candidates_tail : candidates (seekSpare x s) = (candidates s).tail := by
  cases list : candidates s with
  | nil =>
    have none_ : candidate s = none := by rw [candidate_head, list]; rfl
    rw [List.tail_nil, ← list]
    exact candidates_congr fun q => (seekSpare_keepsPort (by simp [none_])).state
  | cons q rest =>
    have found : candidate s = some q := by rw [candidate_head, list]; rfl
    have once := candidates_nodup s
    rw [list, List.nodup_cons] at once
    rw [candidates_without (s := s) (q := q) (by simp [seekSpare_port found]) fun r other => by rw [seekSpare_port found, if_neg other], list,
      List.filter_cons_of_neg (by simp), List.tail_cons]
    refine List.filter_eq_self.2 fun r later => ?_
    simp only [decide_eq_true_eq]
    rintro rfl
    exact once.1 later

theorem seekSpare_keepsShut {c : Chan} (other : c ≠ x.1) (none_ : candidate s = none) (shut : IsShut c s) : IsShut c (seekSpare x s) := by
  have frames : (seekSpare x s).frames c = s.frames c := by
    rw [seekSpare_shuts none_, ((closeChannel_frame _ _).2.1 c other).2.1]
    exact State.frames_congr ((openTransfer_only _ _).andThen (hs := [.floors, .links]) (reportTransfer_only _ _ _ _)).downlink c
  rw [IsShut, seekSpare_floor other, frames]
  exact shut

theorem candidate_of_list {list : List Port} (h : candidates s = list) : candidate s = list.head? := by rw [candidate_head, h]

/-- R146 step 4: the first channel of those that seek a spare. -/
theorem seekEach_takes {xs : List (Chan × Port)} (apart : ∀ y ∈ xs, x.1 ≠ y.1) (found : candidate s = some q) :
    SpareTakes q x.1 s (forEach xs seekSpare (seekSpare x s)) := by
  have taken := seekSpare_takes (x := x) found
  have tuning : ((seekSpare x s).port q).state = .tuning := by rw [taken.port]
  obtain ⟨port, floor, -, -, sent⟩ := seekEach_aside (s := seekSpare x s) (q := q) apart (by simp [tuning])
  exact ⟨(port.whole (by simp [tuning])).trans taken.port, sent.subset taken.sent, port.test.trans taken.test,
    fun off => by rw [floor]; exact taken.floor off⟩

theorem seekEach_shuts {xs : List (Chan × Port)} (apart : ∀ y ∈ xs, x.1 ≠ y.1) (empty : candidates s = []) :
    IsShut x.1 (forEach xs seekSpare (seekSpare x s)) := by
  have after_ : candidates (seekSpare x s) = [] := by rw [candidates_tail, empty]; rfl
  refine (forEach_keeps (Q := fun t => IsShut x.1 t ∧ candidates t = []) xs (fun z mem t ⟨shut, none_⟩ => ?_) _
    ⟨seekSpare_isShut (candidate_of_list empty), after_⟩).1
  exact ⟨seekSpare_keepsShut (apart z mem) (candidate_of_list none_) shut, by rw [candidates_tail, none_]; rfl⟩

/-- R146 step 4: what a spare becomes for a later channel is not touched by the first one's search. -/
theorem SpareTakes.before {ch : Chan} {u : State} (other : ch ≠ x.1) (waits : q ∈ (candidates s).tail) (h : SpareTakes q ch (seekSpare x s) u) :
    SpareTakes q ch s u := by
  have unfound : candidate s ≠ some q := by
    intro found
    have once := candidates_nodup s
    rw [candidate_head] at found
    rw [← List.cons_head?_tail found, List.nodup_cons] at once
    exact once.1 waits
  obtain ⟨port, floor, time, channels, -⟩ := seekSpare_aside (x := x) other unfound
  have idle : (s.port q).state ≠ .active := by
    rcases mem_candidates.1 (List.mem_of_mem_tail waits) with h | h <;> simp [h]
  have record := h.port
  have message := h.sent
  have test := h.test
  have opens := h.floor
  rw [port.whole idle, time] at record
  rw [State.chan_congr channels] at message
  rw [port.test, time] at test
  rw [floor] at opens
  exact ⟨record, message, test, opens⟩

/-- R146 step 4: the channels that seek a spare take the candidates in their order, and close where none is left. -/
theorem seekEach (xs : List (Chan × Port)) (apart : (xs.map (·.1)).Nodup) (k : Nat) (s : State) (x : Chan × Port) (here : xs[k]? = some x) :
    (∀ q, (candidates s)[k]? = some q → SpareTakes q x.1 s (forEach xs seekSpare s)) ∧
      ((candidates s)[k]? = none → IsShut x.1 (forEach xs seekSpare s)) := by
  induction xs generalizing k s with
  | nil => simp at here
  | cons y xs ih =>
    obtain ⟨first, apart⟩ := List.nodup_cons.1 apart
    have others : ∀ z ∈ xs, y.1 ≠ z.1 := fun z mem same => first (List.mem_map.2 ⟨z, mem, same.symm⟩)
    cases k with
    | zero =>
      obtain rfl : y = x := Option.some.inj here
      refine ⟨fun q head => seekEach_takes others ?_, fun empty => seekEach_shuts others ?_⟩
      · rw [candidate_head, List.head?_eq_getElem?, head]
      · exact List.eq_nil_of_length_eq_zero (Nat.le_zero.1 (List.getElem?_eq_none_iff.1 empty))
    | succ k =>
      have later : xs[k]? = some x := here
      obtain ⟨takes, shuts⟩ := ih apart k (seekSpare y s) later
      rw [candidates_tail, List.getElem?_tail] at takes shuts
      refine ⟨fun q spare => (takes q spare).before (others x (List.mem_of_getElem? later)).symm ?_, shuts⟩
      exact List.mem_of_getElem? (i := k) (by rw [List.getElem?_tail]; exact spare)

end

end Sys2Proof.Machine

/-! PROOF. ENTER_SERVICE puts each channel on a port (O17). -/

namespace Sys2Proof.Machine

set_option Elab.async false

/-! ## The plan of the part (R188) -/

/-- R188 checks 2 to 4: every in-use channel has an assigned port of its own that is not FAILED. -/
structure Planned (s : State) : Prop where
  assigned : ∀ ch, (s.chan ch).inUse = true → ∃ p, (s.chan ch).port = some p ∧ (s.port p).state ≠ .failed
  own : ∀ ch ch' p, (s.chan ch).inUse = true → (s.chan ch').inUse = true → (s.chan ch).port = some p → (s.chan ch').port = some p → ch = ch'

theorem Planned.noFault {s : State} (planned : Planned s) (called : (s.chan 0).inUse = true) : planFault s = none := by
  rw [planFault, if_pos called, List.findSome?_eq_none_iff]
  intro ch _
  by_cases inUse : (s.chan ch).inUse = true
  · obtain ⟨p, port, sound⟩ := planned.assigned ch inUse
    have unshared : ¬ sharesPort s ch p = true := fun shared => by
      obtain ⟨d, below, used, same⟩ := sharesPort_iff.1 shared
      rw [planned.own d ch p used inUse same port] at below
      exact Nat.lt_irrefl _ below
    simp [channelFault, inUse, port, unshared, sound]
  · simp [channelFault, inUse]

section
variable {s : State} {f g : PortState → Bool} {ch : Chan} {p : Port}

theorem plan_channels : (plan s f).map (·.1) =
    allChans.filter (fun c => decide ((s.chan c).inUse = true ∧ ∃ p, (s.chan c).port = some p ∧ f (s.port p).state = true)) := by
  rw [plan, List.map_filterMap, ← List.filterMap_eq_filter]
  refine List.filterMap_congr fun c _ => ?_
  cases inUse : (s.chan c).inUse with
  | false => simp [inUse, Option.guard]
  | true =>
    cases port : (s.chan c).port with
    | none => simp [port, Option.guard]
    | some p => cases state : f (s.port p).state <;> simp [inUse, port, state, Option.guard, Option.filter_some]

theorem plan_apart : ((plan s f).map (·.1)).Nodup := by
  rw [plan_channels]
  exact allChans_nodup.filter _

theorem plan_once : (plan s f).Nodup := plan_apart.of_map _

/-- R188: two entries of plans with one channel, or with one port, are one. -/
theorem Planned.same_port {x y : Chan × Port} (planned : Planned s) (left : x ∈ plan s f) (right : y ∈ plan s g) (port : x.2 = y.2) : x = y := by
  obtain ⟨used, here, -⟩ := mem_plan.1 left
  obtain ⟨used', there, -⟩ := mem_plan.1 right
  exact Prod.ext (planned.own _ _ _ used used' here (port ▸ there)) port

theorem same_channel {x y : Chan × Port} (left : x ∈ plan s f) (right : y ∈ plan s g) (channel : x.1 = y.1) : x = y := by
  obtain ⟨-, here, -⟩ := mem_plan.1 left
  obtain ⟨-, there, -⟩ := mem_plan.1 right
  rw [channel] at here
  exact Prod.ext channel (Option.some.inj (here.symm.trans there))

/-- Entries of plans for different port states differ in channel and port. -/
theorem Planned.disjoint {x y : Chan × Port} (planned : Planned s) (left : x ∈ plan s f) (right : y ∈ plan s g)
    (other : ∀ st, ¬ (f st = true ∧ g st = true)) : x.1 ≠ y.1 ∧ x.2 ≠ y.2 := by
  have apart : x ≠ y := by
    rintro rfl
    exact other _ ⟨(mem_plan.1 left).2.2, (mem_plan.1 right).2.2⟩
  exact ⟨fun same => apart (same_channel left right same), fun same => apart (planned.same_port left right same)⟩

theorem Planned.others {x y : Chan × Port} (planned : Planned s) (left : x ∈ plan s f) (right : y ∈ plan s f) (other : y ≠ x) :
    x.1 ≠ y.1 ∧ x.2 ≠ y.2 :=
  ⟨fun same => other (same_channel left right same).symm, fun same => other (planned.same_port left right same).symm⟩

end

/-! ## The four steps (R146) -/

/-- R146 step 2: the states of an assigned port that carries its channel at once. -/
def PortState.ready (st : PortState) : Bool := st == .standby || st == .test

/-- R146: the part after the aborts of tests. -/
def testsAborted (s : State) : State := forEach (plan s (· == .test)) (fun x => abortTest x.2 .failover) s

/-- R146: the part after step 2. -/
def portsCarry (s : State) : State := forEach (plan s PortState.ready) carryNow (testsAborted s)

/-- R146: the part after step 3. -/
def absentTune (s : State) : State := forEach (plan s (· == .absent)) tuneAbsent (portsCarry s)

theorem placeChannels_eq (s : State) : placeChannels s = forEach (plan s (· == .isolated)) seekSpare (absentTune s) := rfl

section
variable {s : State} {ch : Chan} {p q : Port}

theorem testsAborted_only (s : State) : Only [.tests, .downlink, .links] s (testsAborted s) := abortEach_only _ _

theorem testsAborted_test (q : Port) : (testsAborted s).testOf q =
    if q ∈ (plan s (· == .test)).map (·.2) then abortedTest s.time (s.testOf q) else s.testOf q := abortEach_test _ _ _

/-- R146: a channel and a port that no step takes stay as they are, up to the search for spares. -/
theorem portsCarry_aside (channel : ∀ y ∈ plan s PortState.ready, ch ≠ y.1) (port : ∀ y ∈ plan s PortState.ready, p ≠ y.2) :
    Aside ch p (testsAborted s) (portsCarry s) :=
  forEach_relates (Aside.refl ch p) Aside.trans (fun y mem _ => carryNow_aside (channel y mem) (port y mem)) _

theorem absentTune_aside (channel : ∀ y ∈ plan s (· == .absent), ch ≠ y.1) (port : ∀ y ∈ plan s (· == .absent), p ≠ y.2) :
    Aside ch p (portsCarry s) (absentTune s) :=
  forEach_relates (Aside.refl ch p) Aside.trans (fun y mem _ => tuneAbsent_aside (channel y mem) (port y mem)) _

/-- R146 step 2: a STANDBY or TEST port carries its channel. -/
theorem portsCarry_carries (planned : Planned s) (mem : (ch, p) ∈ plan s PortState.ready) :
    ((portsCarry s).port p).state = .active ∧ ((portsCarry s).port p).channel = some ch ∧
    (p, PortMsg.tune (s.chan ch).freq) ∈ (portsCarry s).sent ∧ ((s.floor ch).state = .off → ((portsCarry s).floor ch).state = .idle) ∧
    (portsCarry s).testOf p = (testsAborted s).testOf p := by
  obtain ⟨t, before, after_⟩ := forEach_reaches (R := Aside ch p) (f := carryNow) (.refl ch p) .trans plan_once mem
    (fun y other differs _ => carryNow_aside (planned.others mem other differs).1 (planned.others mem other differs).2) (testsAborted s)
  have carried : ((carryNow (ch, p) t).port p).state = .active ∧ ((carryNow (ch, p) t).port p).channel = some ch := by
    rw [carryNow_ports, onAir_port, if_pos rfl]
    exact ⟨rfl, rfl⟩
  refine ⟨after_.port.state.trans carried.1, after_.port.channel.trans carried.2, after_.sent.subset ?_, fun off => ?_, ?_⟩
  · refine carryNow_sends.subset (List.mem_append_right _ ?_)
    have same : t.chan ch = s.chan ch := State.chan_congr (before.channels.trans (testsAborted_only s).channels) ch
    rw [same]
    exact .head _
  · rw [portsCarry, after_.floor]
    refine carryNow_opens (x := (ch, p)) ?_
    rw [before.floor, State.floor_congr (testsAborted_only s).floors, off]
  · exact after_.port.test.trans ((carryNow_tests p).trans before.port.test)

/-- R146 step 3: an ABSENT port tunes for its channel. -/
theorem absentTune_tunes (planned : Planned s) (mem : (ch, p) ∈ plan s (· == .absent)) :
    ((absentTune s).port p).state = .tuning ∧ (absentTune s).port p = { s.port p with
      state := .tuning, channel := some ch, purpose := some .start, tuneDeadline := some (s.time + 1000), lastHealth := some s.time } ∧
    (p, PortMsg.tune (s.chan ch).freq) ∈ (absentTune s).sent ∧
    ((s.floor ch).state = .off → ((absentTune s).floor ch).state = .transfer ∧ ((absentTune s).floor ch).held = some .idle) := by
  have absent : (s.port p).state = .absent := by simpa using (mem_plan.1 mem).2.2
  have ready (y : Chan × Port) (other : y ∈ plan s PortState.ready) := planned.disjoint mem other (fun st => by cases st <;> decide)
  have first := (portsCarry_aside (fun y other => (ready y other).1) (fun y other => (ready y other).2))
  obtain ⟨t, before, after_⟩ := forEach_reaches (R := Aside ch p) (f := tuneAbsent) (.refl ch p) .trans plan_once mem
    (fun y other differs _ => tuneAbsent_aside (planned.others mem other differs).1 (planned.others mem other differs).2) (portsCarry s)
  have upTo := first.trans before
  have aborted := testsAborted_only s
  have port : t.port p = s.port p := (upTo.port.whole (by rw [State.port_congr aborted.ports, absent]; decide)).trans (State.port_congr aborted.ports p)
  have tuned : (tuneAbsent (ch, p) t).port p = { s.port p with
      state := .tuning, channel := some ch, purpose := some .start, tuneDeadline := some (s.time + 1000), lastHealth := some s.time } := by
    rw [tuneAbsent_ports, if_pos rfl, port, upTo.time, aborted.time]
  have final : (absentTune s).port p = _ := (after_.port.whole (by rw [tuned]; simp)).trans tuned
  refine ⟨by rw [final], final, after_.sent.subset ?_, fun off => ?_⟩
  · have same : t.chan ch = s.chan ch := State.chan_congr (upTo.channels.trans aborted.channels) ch
    rw [tuneAbsent_sent, same]
    exact List.mem_append_right _ (.head _)
  · rw [absentTune, after_.floor]
    refine tuneAbsent_opens (x := (ch, p)) ?_
    rw [upTo.floor, State.floor_congr aborted.floors, off]

/-- R146: a port that no step before the search takes is as it was. -/
theorem absentTune_keepsPort (free : ∀ y : Chan × Port, (y ∈ plan s PortState.ready ∨ y ∈ plan s (· == .absent)) → p ≠ y.2) :
    PortKept p (testsAborted s) (absentTune s) :=
  .trans (forEach_relates (PortKept.refl p) PortKept.trans (fun y mem _ => carryNow_keepsPort (free y (.inl mem))) _)
    (forEach_relates (PortKept.refl p) PortKept.trans (fun y mem _ => tuneAbsent_keepsPort (free y (.inr mem))) _)

/-- R146 step 4: a port is assigned to no in-use channel. -/
def Unassigned (q : Port) (s : State) : Prop := ∀ c, (s.chan c).inUse = true → (s.chan c).port ≠ some q

theorem Unassigned.not_planned {f : PortState → Bool} {y : Chan × Port} (free : Unassigned q s) (mem : y ∈ plan s f) : q ≠ y.2 := by
  rintro rfl
  exact free y.1 (mem_plan.1 mem).1 (mem_plan.1 mem).2.1

theorem Unassigned.kept (free : Unassigned q s) : PortKept q (testsAborted s) (absentTune s) :=
  absentTune_keepsPort fun _ mem => mem.elim free.not_planned free.not_planned

/-- R146: the later steps leave a port that carries and its channel. -/
theorem placeChannels_carries (planned : Planned s) (mem : (ch, p) ∈ plan s PortState.ready) :
    Aside ch p (portsCarry s) (placeChannels s) := by
  have absent (y : Chan × Port) (other : y ∈ plan s (· == .absent)) := planned.disjoint mem other (fun st => by cases st <;> decide)
  have isolated (y : Chan × Port) (other : y ∈ plan s (· == .isolated)) := planned.disjoint mem other (fun st => by cases st <;> decide)
  have kept := absentTune_aside (fun y other => (absent y other).1) (fun y other => (absent y other).2)
  have active : ((absentTune s).port p).state = .active := kept.port.state.trans (portsCarry_carries planned mem).1
  rw [placeChannels_eq]
  exact kept.trans (seekEach_aside (fun y other => (isolated y other).1) (by simp [active]))

/-- R146 step 4: the candidates of the search are the ports that are STANDBY or in TEST and assigned to no in-use channel. -/
theorem absentTune_spare (planned : Planned s) {st : PortState} (ready : st.ready = true) :
    ((absentTune s).port q).state = st ↔ (s.port q).state = st ∧ Unassigned q s := by
  have before : ((testsAborted s).port q).state = (s.port q).state := by rw [State.port_congr (testsAborted_only s).ports]
  by_cases free : Unassigned q s
  · rw [free.kept.state, before]
    exact ⟨fun same => ⟨same, free⟩, And.left⟩
  · refine ⟨fun same => absurd ready ?_, fun ⟨_, free'⟩ => absurd free' free⟩
    obtain ⟨ch, inUse, port⟩ : ∃ c, (s.chan c).inUse = true ∧ (s.chan c).port = some q := by
      simpa [Unassigned] using free
    by_cases carries : (s.port q).state.ready = true
    · have mem : (ch, q) ∈ plan s PortState.ready := mem_plan.2 ⟨inUse, port, carries⟩
      have absent (y : Chan × Port) (other : y ∈ plan s (· == .absent)) := planned.disjoint mem other (fun st => by cases st <;> decide)
      have kept := absentTune_aside (fun y other => (absent y other).1) (fun y other => (absent y other).2)
      rw [← same, kept.port.state, (portsCarry_carries planned mem).1]
      decide
    · by_cases absent : (s.port q).state = .absent
      · have mem : (ch, q) ∈ plan s (· == .absent) := mem_plan.2 ⟨inUse, port, by simpa using absent⟩
        rw [← same, (absentTune_tunes planned mem).1]
        decide
      · have kept : PortKept q (testsAborted s) (absentTune s) := absentTune_keepsPort fun y mem => by
          rintro rfl
          rcases mem with mem | mem
          · exact carries (mem_plan.1 mem).2.2
          · exact absent (by simpa using (mem_plan.1 mem).2.2)
        rw [← same, kept.state, before]
        exact carries

theorem candidates_eq_spares (planned : Planned s) : candidates (absentTune s) = spares s := by
  have each {st : PortState} (ready : st.ready = true) : allPorts.filter (fun q => ((absentTune s).port q).state == st) =
      allPorts.filter (fun q => decide ((s.port q).state = st ∧ ∀ c, (s.chan c).inUse = true → (s.chan c).port ≠ some q)) := by
    refine List.filter_congr fun q _ => ?_
    rw [beq_eq_decide, decide_eq_decide]
    exact absentTune_spare planned ready
  rw [candidates, each rfl, each rfl]
  rfl

theorem placeChannels_unused (out : (s.chan ch).inUse = false) : (placeChannels s).floor ch = s.floor ch := by
  have apart {f : PortState → Bool} {y : Chan × Port} (mem : y ∈ plan s f) : ch ≠ y.1 := by
    rintro rfl
    rw [(mem_plan.1 mem).1] at out
    cases out
  rw [placeChannels_eq]
  refine forEach_keeps (Q := fun t => t.floor ch = s.floor ch) _ (fun y mem t h => (seekSpare_floor (apart mem)).trans h) _ ?_
  refine forEach_keeps (Q := fun t => t.floor ch = s.floor ch) _ (fun y mem t h => (tuneAbsent_floor (apart mem)).trans h) _ ?_
  refine forEach_keeps (Q := fun t => t.floor ch = s.floor ch) _ (fun y mem t h => (carryNow_floor (apart mem)).trans h) _ ?_
  exact State.floor_congr (testsAborted_only s).floors ch

/-- R146 step 4: a spare takes its channel, and is until then as it was. -/
theorem placeChannels_spare (planned : Planned s) {k : Nat} (here : ((plan s (· == .isolated)).map (·.1))[k]? = some ch) :
    (∀ q, (spares s)[k]? = some q → SpareTakes q ch s (placeChannels s)) ∧ ((spares s)[k]? = none → IsShut ch (placeChannels s)) := by
  rw [List.getElem?_map] at here
  obtain ⟨x, entry, rfl⟩ := Option.map_eq_some_iff.1 here
  have mem := List.mem_of_getElem? entry
  obtain ⟨takes, shuts⟩ := seekEach (plan s (· == .isolated)) plan_apart k (absentTune s) x entry
  rw [candidates_eq_spares planned] at takes shuts
  refine ⟨fun q spare => ?_, shuts⟩
  have ⟨idle, free⟩ : (s.port q).state ≠ .active ∧ Unassigned q s := by
    have found := List.mem_of_getElem? spare
    rw [← candidates_eq_spares planned, mem_candidates, absentTune_spare planned rfl, absentTune_spare planned rfl] at found
    rcases found with ⟨state, free⟩ | ⟨state, free⟩
    · exact ⟨by simp [state], free⟩
    · exact ⟨by simp [state], free⟩
  have ready (y : Chan × Port) (other : y ∈ plan s PortState.ready) := planned.disjoint mem other (fun st => by cases st <;> decide)
  have absent (y : Chan × Port) (other : y ∈ plan s (· == .absent)) := planned.disjoint mem other (fun st => by cases st <;> decide)
  have upTo := (portsCarry_aside (fun y other => (ready y other).1) (fun y other => free.not_planned other)).trans
    (absentTune_aside (fun y other => (absent y other).1) (fun y other => free.not_planned other))
  have aborted := testsAborted_only s
  have untested : (testsAborted s).testOf q = s.testOf q := by
    rw [testsAborted_test, if_neg]
    intro tested
    obtain ⟨y, other, same⟩ := List.mem_map.1 tested
    exact free.not_planned other same.symm
  have before : ((testsAborted s).port q).state ≠ .active := by rw [State.port_congr aborted.ports]; exact idle
  obtain ⟨port, sent, test, floor⟩ := takes q spare
  rw [upTo.port.whole before, State.port_congr aborted.ports, upTo.time, aborted.time] at port
  rw [State.chan_congr upTo.channels, State.chan_congr aborted.channels] at sent
  rw [upTo.port.test, untested, upTo.time, aborted.time] at test
  rw [upTo.floor, State.floor_congr aborted.floors] at floor
  exact ⟨port, sent, test, floor⟩

end

/-- Settles O17: the four steps one after the other, each taking channels and ports that no other takes. -/
theorem enterServicePlacesTheChannels : Obligations.EnterServicePlacesTheChannels := by
  intro link s listening config called assigned own
  have planned' : Planned (hunt link s) := ⟨assigned, own⟩
  have row : exec (.enterService link) s =
      answeredWith link 0x08#8 (.accepted false .none) (placeChannels { hunt link s with part := .service }) := by
    refine exec_accepted (c := .enterService) listening ?_
    rw [runCommand, cmdEnterService, look_apply, check_apply, if_pos (by simp [config]), planned'.noFault called]
    rfl
  generalize entered : ({ hunt link s with part := .service } : State) = w at row
  have fields : Only [.links, .part] s w := by
    subst entered
    intro f hf; cases f <;> first | exact rfl | simp at hf
  have part : w.part = .service := by subst entered; rfl
  have planned : Planned w := by subst entered; exact ⟨assigned, own⟩
  have chan (c : Chan) : w.chan c = s.chan c := State.chan_congr fields.channels c
  have port (p : Port) : w.port p = s.port p := State.port_congr fields.ports p
  have test (p : Port) : w.testOf p = s.testOf p := State.testOf_congr fields.tests p
  have floor (c : Chan) : w.floor c = s.floor c := State.floor_congr fields.floors c
  have spare : spares w = spares s := by simp only [spares, chan, port]
  have listed (f : PortState → Bool) {ch : Chan} {p : Port} (inUse : (s.chan ch).inUse = true) (own_ : (s.chan ch).port = some p)
      (state : f (s.port p).state = true) : (ch, p) ∈ plan w f := mem_plan.2 (by rw [chan, port]; exact ⟨inUse, own_, state⟩)
  have only := placeChannels_only w
  refine ⟨placeChannels w, row, ?fields, fun ch p inUse own_ state => ?carried, fun ch p inUse own_ state => ?tuned,
    fun chs k ch list here => ?sought, fun ch out => ?unused⟩
  case fields =>
    exact State.eq_of_fields (only.time.trans fields.time) (only.part.trans part) (only.resetLine.trans fields.resetLine)
      (only.channels.trans fields.channels) (only.globals.trans fields.globals) (only.moves.trans fields.moves) rfl rfl
      (only.units.trans fields.units) (only.slots.trans fields.slots) (only.quiet.trans fields.quiet) rfl rfl
      (only.sequences.trans fields.sequences) (only.patterns.trans fields.patterns) rfl rfl rfl (only.pending.trans fields.pending)
  case carried =>
    have mem := listed PortState.ready inUse own_ (by rcases state with h | h <;> rw [h] <;> rfl)
    obtain ⟨active, channel, sent, opens, tested⟩ := portsCarry_carries planned mem
    have kept := placeChannels_carries planned mem
    rw [chan] at sent
    refine ⟨kept.port.state.trans active, kept.port.channel.trans channel, kept.sent.subset sent, fun off => ?_, fun t inTest record running => ?_⟩
    · rw [kept.floor]
      exact opens (by rw [floor, off])
    · have planned_ : p ∈ (plan w (· == .test)).map (·.2) := List.mem_map.2 ⟨(ch, p), listed (· == .test) inUse own_ (by simp [inTest]), rfl⟩
      rw [kept.port.test, tested, testsAborted_test, if_pos planned_, test, fields.time]
      exact abortedTest_running record running
  case tuned =>
    have mem := listed (· == .absent) inUse own_ (by simp [state])
    obtain ⟨tuning, record, sent, opens⟩ := absentTune_tunes planned mem
    have isolated (y : Chan × Port) (other : y ∈ plan w (· == .isolated)) := planned.disjoint mem other (fun st => by cases st <;> decide)
    have kept : Aside ch p (absentTune w) (placeChannels w) := by
      rw [placeChannels_eq]
      exact seekEach_aside (fun y other => (isolated y other).1) (by simp [tuning])
    have final := (kept.port.whole (by simp [tuning])).trans record
    rw [fields.time] at final
    rw [chan] at sent
    refine ⟨by rw [final], by rw [final], by rw [final], by rw [final], by rw [final], kept.sent.subset sent, fun off => ?_⟩
    rw [kept.floor]
    exact opens (by rw [floor, off])
  case sought =>
    have channels : (plan w (· == .isolated)).map (·.1) = chs := by
      rw [plan_channels, list]
      simp only [chan, port, beq_iff_eq]
    obtain ⟨takes, shuts⟩ := placeChannels_spare planned (k := k) (ch := ch) (by rw [channels, here])
    rw [spare] at takes shuts
    refine ⟨fun q next => ?_, shuts⟩
    obtain ⟨record, sent, tested, opens⟩ := takes q next
    rw [port, fields.time] at record
    rw [chan] at sent
    rw [test, fields.time] at tested
    rw [floor] at opens
    exact ⟨record, sent, fun t run running => tested.trans (abortedTest_running run running), opens⟩
  case unused =>
    rw [placeChannels_unused (by rw [chan, out]), floor]

end Sys2Proof.Machine
